-- ==== Sys2Proof/Word.lean ====
section
/-! DEFINITION. The words and numbered things of the Dalteno 2660 (00_scope.md, "Numbering of things"), and tables
of a fixed number of like things. -/

namespace Sys2Proof

/-- One byte of a frame or of registry memory. -/
abbrev Byte := BitVec 8

/-- A Time Base value: a millisecond count, wrapping at 2^32. -/
abbrev Time := BitVec 32

/-- A handset identity: 1 to 2^40 − 1, 0 in an empty slot. -/
abbrev Hid := BitVec 40

/-- A cell, 0 to 23. -/
abbrev CellId := Fin 24

/-- A bearer slot, 0 to 11. -/
abbrev SlotId := Fin 12

/-- A circuit, 0 to 191; also the index of its call record. -/
abbrev Circuit := Fin 192

/-- A bucket of registry memory, 0 to 2047. -/
abbrev BucketId := Fin 2048

/-- A registry slot of a bucket, 0 to 3. -/
abbrev RegSlot := Fin 4

/-- A voice sequence number, 0 to 255, which wraps. -/
abbrev Seq := BitVec 8

/-- A handover profile number, 0 to 7. -/
abbrev ProfileId := Fin 8

/-- A zone, 0 to 15. -/
abbrev ZoneId := Fin 16

/-- A search context, 0 to 3. -/
abbrev ContextId := Fin 4

/-- A cache set, 0 to 63. -/
abbrev SetId := Fin 64

/-- `n` like things, numbered from 0. -/
abbrev Table (α : Type) (n : Nat) := Vector α n

/-- The thing numbered `i`. -/
def Table.at {α : Type} {n : Nat} (t : Table α n) (i : Fin n) : α := t[i.val]

/-- The table with the thing numbered `i` replaced. -/
def Table.put {α : Type} {n : Nat} (t : Table α n) (i : Fin n) (x : α) : Table α n := t.set i.val x i.isLt

/-- The table that holds `x` everywhere. -/
def Table.all {α : Type} (n : Nat) (x : α) : Table α n := Vector.replicate n x

/-- The numbers below `n` in ascending order. -/
def ascending (n : Nat) : List (Fin n) := List.finRange n

end Sys2Proof
end

