-- ==== Sys2Proof/Syntax.lean ====
section
/-! DEFINITION. The commands of the block: one constructor per row of spec/opcode_table.json. The table gives the
rows no operands; a command carries what only its sender knows: the link, the run of bytes, the circuit whose timer
expires (log 25). What the block itself holds (a message in a FIFO, a request in the management queue, the operation on the
memory port) is read from the state. -/

namespace Sys2Proof

/-- A link: one of the 24 cell links or the exchange link. -/
inductive LinkId where
  | cell (c : CellId)
  | exchange
  deriving DecidableEq, Repr

/-- Which leg of a call. -/
inductive LegRole where
  | serving
  | candidate
  deriving DecidableEq, Repr

/-- The commands. Where a constructor takes a `run`, it is the unbroken run of bytes that arrives on a line (R156). -/
inductive Instr where
  /-- PIN_RESET (R180). -/
  | pinReset
  /-- FILL_FRAME_RECEIVED (R141). -/
  | fillFrameReceived (link : LinkId) (run : List Byte)
  /-- INVALID_FRAME_RECEIVED (R156). -/
  | invalidFrameReceived (link : LinkId) (run : List Byte)
  /-- SIGNALLING_ARRIVAL (R143). -/
  | signallingArrival (link : LinkId) (run : List Byte)
  /-- MGMT_ARRIVAL (R164), on the exchange link. -/
  | mgmtArrival (run : List Byte)
  /-- UPLINK_VOICE_FRAME (R120), on the link of cell `c`. -/
  | uplinkVoiceFrame (c : CellId) (run : List Byte)
  /-- DOWNLINK_VOICE_FRAME (R134), on the exchange link. -/
  | downlinkVoiceFrame (run : List Byte)
  /-- LOOPED_FRAME_RETURN (R151), on the looped link of cell `c`: the oldest frame that has not returned, as `run`. -/
  | loopedFrameReturn (c : CellId) (run : List Byte)
  /-- FRAME_SEND (R145). -/
  | frameSend (link : LinkId)
  /-- FRAME_SEND_END (R145). -/
  | frameSendEnd (link : LinkId)
  /-- FILL_FRAME_SEND (R145). -/
  | fillFrameSend (link : LinkId)
  /-- TEST_FRAME_SEND (R152). -/
  | testFrameSend (c : CellId)
  /-- LINK_SILENCE_EXPIRY (R139). -/
  | linkSilenceExpiry (link : LinkId)
  /-- MALFORMED_MESSAGE (R44). -/
  | malformedMessage
  /-- ENROL (R47). -/
  | enrol
  /-- CAMP (R48). -/
  | camp
  /-- RETIRE (R49). -/
  | retire
  /-- SEIZE_ORIGIN (R63). -/
  | seizeOrigin
  /-- SEIZE_ANSWER (R64). -/
  | seizeAnswer
  /-- SEIZE_MOVE_IN (R100). -/
  | seizeMoveIn
  /-- VACATE (R68). -/
  | vacate
  /-- STATE (R149). -/
  | stateReport
  /-- RELAY_FROM_CELL (R75). -/
  | relayFromCell
  /-- OFFER (R62). -/
  | offer
  /-- END (R65). -/
  | endCall
  /-- RELAY_FROM_EXCHANGE (R76). -/
  | relayFromExchange
  /-- HOLD_TIMER_EXPIRY (R74). -/
  | holdTimerExpiry (n : Circuit)
  /-- CLEAR_TIMER_EXPIRY (R67). -/
  | clearTimerExpiry (n : Circuit)
  /-- STAGE_TIMER_EXPIRY (R89). -/
  | stageTimerExpiry (n : Circuit)
  /-- BRIDGE_TIMER_EXPIRY (R109). -/
  | bridgeTimerExpiry (n : Circuit)
  /-- LEG_SILENCE_EXPIRY (R126). -/
  | legSilenceExpiry (n : Circuit) (leg : LegRole)
  /-- HOLD_DEADLINE_EXPIRY (R130), of the merge slot at offset `k`. -/
  | holdDeadlineExpiry (n : Circuit) (k : Fin 4)
  /-- SEARCH_READ_COMPLETE (R6). -/
  | searchReadComplete
  /-- WRITE_THROUGH_COMPLETE (R14). -/
  | writeThroughComplete
  /-- MGMT_READ_COMPLETE (R7). -/
  | mgmtReadComplete
  /-- MGMT_WRITE_COMPLETE (R9). -/
  | mgmtWriteComplete
  /-- EMPTY_WRITE_COMPLETE (R8). -/
  | emptyWriteComplete
  /-- FORMAT_WRITE_COMPLETE (R11). -/
  | formatWriteComplete
  /-- SWEEP_READ_COMPLETE (R18). -/
  | sweepReadComplete
  /-- SWEEP_WRITE_COMPLETE (R19). -/
  | sweepWriteComplete
  /-- READ_RECORD (R167). -/
  | readRecord
  /-- WRITE_RECORD (R169). -/
  | writeRecord
  /-- WRITE_IF_UNCHANGED (R170). -/
  | writeIfUnchanged
  /-- DELETE_RECORD (R171). -/
  | deleteRecord
  /-- CLEAR_SLOT (R8). -/
  | clearSlot
  /-- FORMAT_REGISTRY (R11). -/
  | formatRegistry
  /-- SWEEP (R17). -/
  | sweep
  /-- READ_SWEEP (R173). -/
  | readSweep
  /-- LOAD_PROFILE (R98). -/
  | loadProfile
  /-- LOAD_NEIGHBOUR_ROW (R95). -/
  | loadNeighbourRow
  /-- LOAD_ZONE (R82). -/
  | loadZone
  /-- LOAD_CELL (R96). -/
  | loadCell
  /-- LOAD_TIMING (R174). -/
  | loadTiming
  /-- READ_TABLE (R175). -/
  | readTable
  /-- CELL_CONTROL_ENABLE (R138). -/
  | cellControlEnable
  /-- CELL_CONTROL_DISABLE (R138). -/
  | cellControlDisable
  /-- CELL_CONTROL_LOOP (R138). -/
  | cellControlLoop
  /-- LINK_TEST (R152). -/
  | linkTest
  /-- READ_LINK (R148). -/
  | readLink
  /-- READ_CELL (R150). -/
  | readCell
  /-- READ_CALL (R177). -/
  | readCall
  /-- FORCE_CLEAR (R178). -/
  | forceClear
  /-- READ_CAUSE (R182). -/
  | readCause
  /-- SET_ATTENTION (R181). -/
  | setAttention
  /-- READ_CAPTURE (R185). -/
  | readCapture
  /-- SET_CAPTURE (R184). -/
  | setCapture
  /-- RESTART (R179). -/
  | restart
  /-- UNKNOWN_COMMAND (R166). -/
  | unknownCommand
  /-- PORT_OPERATION_COMPLETES_INTO_NOTHING (R1). -/
  | portOperationCompletesIntoNothing
  deriving DecidableEq, Repr

end Sys2Proof
end

