-- ==== Sys2Proof/Config.lean ====
section
/-! DEFINITION. The constants the manual fixes: sizes of queues, times and limits; and the one free value, which it leaves
open. -/

namespace Sys2Proof.Config

/-- R143: messages a cell link's signalling receive FIFO holds. -/
def cellFifoSize : Nat := 8

/-- R143: messages the exchange link's signalling receive FIFO holds. -/
def exchFifoSize : Nat := 16

/-- R144: frames a cell link's signalling transmit queue holds. -/
def sigQueueSize : Nat := 16

/-- R135: frames a cell link's voice transmit queue holds. -/
def voiceQueueSize : Nat := 8

/-- R144: frames the exchange link's transmit queue holds. -/
def exchQueueSize : Nat := 64

/-- R27: messages parking holds. -/
def parkingSize : Nat := 8

/-- R14: writes the write-through queue holds. -/
def writeQueueSize : Nat := 16

/-- R164: requests the management queue holds. -/
def mgmtQueueSize : Nat := 4

/-- R18: entries the sweep result list holds. -/
def sweepListSize : Nat := 32

/-- R185: records the capture queue holds. -/
def captureQueueSize : Nat := 4

/-- R13: the pass count at which a requester is overdue. -/
def overdue : Nat := 8

/-- Conventions, Counters: every counter stops here. -/
def counterMax : Nat := 65535

/-- R122: the largest estimate and the largest score. -/
def qualityMax : Nat := 4032

/-- R139: the silence time of a link, in ms. -/
def linkSilence : Nat := 16

/-- R145: the idle time after which a fill frame is sent, in ms. -/
def fillIdle : Nat := 4

/-- R11: registry slots in memory, and so format writes. -/
def registrySlots : Nat := 8192

/-- R1: bytes of registry memory. -/
def memoryBytes : Nat := 131072

/-- R3: the alternate bucket lies this far past the primary. -/
def alternateStep : Nat := 683

/-- DESIGN CHOICE (log 28): the byte that READ-CALL sends for the expected sequence of a leg on bearer (c, k) that has none,
at the count `now`. R158 leaves it to the layout of READ-CALL's data, which gives no value for it, so it is a free value:
nothing is known of it. -/
opaque absentSequence (now : Time) (c : CellId) (k : SlotId) : Byte

end Sys2Proof.Config
end

