-- ==== Sys2Proof/Machine/Frames.lean ====
section
/-! DEFINITION. Frames (09_frames_and_messages.md): the envelope and its check, the kinds, and the layouts of the
frames the part composes. Fields of more than one byte are sent most significant byte first (R158). -/

namespace Sys2Proof.Machine

open Sys2Proof

/-- A frame less its envelope: the kind byte and the body. -/
structure Frame where
  kind : Byte
  body : List Byte
  deriving DecidableEq, Repr

/-- The four classes of kinds (R155). -/
inductive FrameClass where
  | fill
  | voice
  | test
  | message
  deriving DecidableEq, Repr

/-- What the link unit finds when it judges a run (R156, R157). -/
inductive Verdict where
  | framingError
  | checkError
  | valid (f : Frame)
  deriving DecidableEq, Repr

/-! ### Kind codes -/

def Kind.fill : Byte := 0x00
def Kind.voice : Byte := 0x01
def Kind.test : Byte := 0x02
def Kind.enrol : Byte := 0x10
def Kind.retire : Byte := 0x11
def Kind.camp : Byte := 0x12
def Kind.seize : Byte := 0x13
def Kind.vacate : Byte := 0x14
def Kind.state : Byte := 0x15
def Kind.relayCell : Byte := 0x16
def Kind.enrolOk : Byte := 0x20
def Kind.enrolNo : Byte := 0x21
def Kind.grant : Byte := 0x22
def Kind.deny : Byte := 0x23
def Kind.clear : Byte := 0x24
def Kind.summon : Byte := 0x25
def Kind.offer : Byte := 0x30
def Kind.endCall : Byte := 0x31
def Kind.relayExch : Byte := 0x32
def Kind.origin : Byte := 0x34
def Kind.reached : Byte := 0x35
def Kind.ended : Byte := 0x36
def Kind.attention : Byte := 0x38
def Kind.mgmt : Byte := 0x40

/-- R155: the class of a kind code; every code but 00h, 01h and 02h is of the message class. -/
def classOf (kind : Byte) : FrameClass :=
  if kind = Kind.fill then .fill
  else if kind = Kind.voice then .voice
  else if kind = Kind.test then .test
  else .message

/-- R155: the body lengths the envelope accepts for a class. -/
def classAllows (c : FrameClass) (n : Nat) : Bool :=
  match c with
  | .fill => n == 0
  | .voice => n == 44
  | .test => n == 32
  | .message => n ≤ 240

/-! ### The check -/

/-- R157: one byte added to the sums A and B. -/
def sumStep (ab : Byte × Byte) (x : Byte) : Byte × Byte :=
  let a := ab.1 + x
  (a, ab.2 + a)

/-- R157: the sums (A, B) over kind, length and body. -/
def checkSums (bytes : List Byte) : Byte × Byte := bytes.foldl sumStep (0, 0)

/-- The start delimiter of every frame. -/
def startDelimiter : Byte := 0x7E

/-- R157: the run of bytes in which a frame is sent; the check field holds B in its high byte and A in its low. -/
def Frame.run (f : Frame) : List Byte :=
  let len := BitVec.ofNat 8 f.body.length
  let ab := checkSums (f.kind :: len :: f.body)
  startDelimiter :: f.kind :: len :: (f.body ++ [ab.2, ab.1])

/-- R156, R157: the judgement of one run. -/
def judge (run : List Byte) : Verdict :=
  match run with
  | d :: k :: n :: rest =>
    if d = startDelimiter ∧ classAllows (classOf k) n.toNat = true ∧ rest.length = n.toNat + 2 then
      let body := rest.take n.toNat
      let ab := checkSums (k :: n :: body)
      if rest.drop n.toNat = [ab.2, ab.1] then .valid ⟨k, body⟩ else .checkError
    else .framingError
  | _ => .framingError

/-- The run is a valid frame whose kind passes the test. -/
def runIs (run : List Byte) (test : Byte → Bool) : Bool :=
  match judge run with
  | .valid f => test f.kind
  | _ => false

/-- R141: the kinds routed to a signalling receive FIFO: any kind but fill and voice, and on the exchange link not
MGMT. -/
def isSignallingKind (link : LinkId) (kind : Byte) : Bool :=
  kind != Kind.fill && kind != Kind.voice && (link != .exchange || kind != Kind.mgmt)

/-! ### Fields (R158) -/

/-- Two bytes, most significant first. -/
def bytes2 (n : Nat) : List Byte := [BitVec.ofNat 8 (n / 256), BitVec.ofNat 8 n]

/-- The number two bytes spell. -/
def num2 (hi lo : Byte) : Nat := hi.toNat * 256 + lo.toNat

/-- Four bytes of a Time Base value, most significant first. -/
def timeBytes (t : Time) : List Byte :=
  [t.extractLsb' 24 8, t.extractLsb' 16 8, t.extractLsb' 8 8, t.extractLsb' 0 8]

/-- Five bytes of a HID, most significant first. -/
def hidBytes (h : Hid) : List Byte :=
  [h.extractLsb' 32 8, h.extractLsb' 24 8, h.extractLsb' 16 8, h.extractLsb' 8 8, h.extractLsb' 0 8]

/-- The HID five bytes spell. -/
def hidOf (b0 b1 b2 b3 b4 : Byte) : Hid := b0 ++ b1 ++ b2 ++ b3 ++ b4

/-- A numbered thing as one byte. -/
def numByte {n : Nat} (i : Fin n) : Byte := BitVec.ofNat 8 i.val

/-- R158: a cell as one byte; a cell that is none is sent as FFh. -/
def cellByte : Option CellId → Byte
  | some c => numByte c
  | none => 0xFF

/-- R158: a yes-or-no item as one byte. -/
def flagByte (b : Bool) : Byte := if b then 1 else 0

/-- The byte as a number below `n`, if it is one. -/
def finOf (n : Nat) (b : Byte) : Option (Fin n) :=
  if h : b.toNat < n then some ⟨b.toNat, h⟩ else none

/-! ### Codes -/

/-- Reasons an ENROL-NO carries. -/
inductive EnrolReason where
  | unknown
  | barred
  | notEnrolled
  deriving DecidableEq, Repr

/-- Reasons a DENY carries (R79). -/
inductive DenyReason where
  | unknown
  | barred
  | notEnrolled
  | handsetBusy
  | noCircuit
  | notPaged
  | noCall
  | bridgeBusy
  | barredPath
  | cellUnsync
  deriving DecidableEq, Repr

/-- Causes an ENDED carries (R79). -/
inductive EndedCause where
  | unreachable
  | unknown
  | handsetBusy
  | circuitBusy
  | lost
  | forced
  deriving DecidableEq, Repr

/-- Outcomes of a management reply (R166, R164). -/
inductive MgmtOutcome where
  | done
  | notFound
  | tableFull
  | badValue
  | watchLost
  | notFormatted
  | formatting
  | sweepBusy
  | unknownCommand
  | queueFull
  deriving DecidableEq, Repr

def EnrolReason.code : EnrolReason → Byte
  | .unknown => 1
  | .barred => 2
  | .notEnrolled => 3

def DenyReason.code : DenyReason → Byte
  | .unknown => 1
  | .barred => 2
  | .notEnrolled => 3
  | .handsetBusy => 4
  | .noCircuit => 5
  | .notPaged => 6
  | .noCall => 7
  | .bridgeBusy => 8
  | .barredPath => 9
  | .cellUnsync => 10

def EndedCause.code : EndedCause → Byte
  | .unreachable => 1
  | .unknown => 2
  | .handsetBusy => 3
  | .circuitBusy => 4
  | .lost => 5
  | .forced => 6

def MgmtOutcome.code : MgmtOutcome → Byte
  | .done => 0
  | .notFound => 1
  | .tableFull => 2
  | .badValue => 3
  | .watchLost => 4
  | .notFormatted => 5
  | .formatting => 6
  | .sweepBusy => 7
  | .unknownCommand => 8
  | .queueFull => 9

/-! ### Frames the part composes (Signalling bodies, Fill, test and ATTENTION frames, Management frames) -/

def enrolOkFrame (h : Hid) : Frame := ⟨Kind.enrolOk, hidBytes h⟩
def enrolNoFrame (h : Hid) (r : EnrolReason) : Frame := ⟨Kind.enrolNo, hidBytes h ++ [r.code]⟩
def grantFrame (k : SlotId) (h : Hid) : Frame := ⟨Kind.grant, numByte k :: hidBytes h⟩
def denyFrame (k : SlotId) (h : Hid) (r : DenyReason) : Frame := ⟨Kind.deny, numByte k :: (hidBytes h ++ [r.code])⟩
def clearFrame (k : SlotId) : Frame := ⟨Kind.clear, [numByte k]⟩
def summonFrame (h : Hid) (n : Circuit) : Frame := ⟨Kind.summon, hidBytes h ++ [numByte n]⟩
def relayToCellFrame (k : SlotId) (payload : List Byte) : Frame := ⟨Kind.relayCell, numByte k :: payload⟩
def originFrame (n : Circuit) (h : Hid) (c : CellId) : Frame := ⟨Kind.origin, numByte n :: (hidBytes h ++ [numByte c])⟩
def reachedFrame (n : Circuit) (c : CellId) : Frame := ⟨Kind.reached, [numByte n, numByte c]⟩
def endedFrame (n : Circuit) (cause : EndedCause) : Frame := ⟨Kind.ended, [numByte n, cause.code]⟩
def relayToExchFrame (n : Circuit) (payload : List Byte) : Frame := ⟨Kind.relayExch, numByte n :: payload⟩

/-- R160: an ATTENTION frame has an empty body. -/
def attentionFrame : Frame := ⟨Kind.attention, []⟩

/-- R160: a fill frame has kind 00h and an empty body. -/
def fillFrame : Frame := ⟨Kind.fill, []⟩

/-- R160: a test frame holds its index and then the fixed pattern, byte k being (A5h + k) mod 256. -/
def testFrame (index : Nat) : Frame :=
  ⟨Kind.test, BitVec.ofNat 8 index :: (List.range 31).map fun k => BitVec.ofNat 8 (0xA5 + (k + 1))⟩

/-- R161: a reply echoes the request's tag and command bytes; only DONE carries data. -/
def replyFrame (tag command : Byte) (outcome : MgmtOutcome) (data : List Byte) : Frame :=
  ⟨Kind.mgmt, [tag, command, outcome.code] ++ (if outcome = .done then data else [])⟩

/-- The fields of a voice frame. The quality byte is kept as it arrived. -/
structure Voice where
  tag : Byte
  seq : Seq
  level : Byte
  quality : Byte
  speech : List Byte
  deriving DecidableEq, Repr

/-- The fields of a voice body (Voice frames table). -/
def voiceOf (body : List Byte) : Option Voice :=
  match body with
  | tag :: seq :: level :: quality :: speech => some ⟨tag, seq, level, quality, speech⟩
  | _ => none

/-- R159: the slip count, bits 0 and 1 of the quality byte. -/
def Voice.slips (v : Voice) : Nat := (v.quality &&& 3).toNat

/-- R159: the block error flag, bit 2 of the quality byte. -/
def Voice.error (v : Voice) : Bool := v.quality.getLsbD 2

/-- R125, R159: a frame forwarded to the exchange carries the circuit as its tag, bits 3 to 7 of quality 0, and every
other field as it arrived. -/
def forwardedFrame (n : Circuit) (v : Voice) : Frame :=
  ⟨Kind.voice, numByte n :: v.seq :: v.level :: (v.quality &&& 7) :: v.speech⟩

/-- R134, R159: a downlink copy carries the leg's slot as its tag, and 0 in level and quality. -/
def downlinkFrame (k : SlotId) (v : Voice) : Frame :=
  ⟨Kind.voice, numByte k :: v.seq :: 0 :: 0 :: v.speech⟩

end Sys2Proof.Machine
end

