-- ==== Sys2Proof/Machine/State.lean ====
section
/-! DEFINITION. The state of the block, as plain data, and its value right after power-up and pin reset. INVENTORY.md
lists every field with the rule that names it. -/

namespace Sys2Proof.Machine

open Sys2Proof

/-! ### Why a command stops -/

/-- The reasons a command can end in a fault. There is none: what the manual calls faults are latched flags, capture
records, refusals with an outcome and notices, and all of them are effects on the state (log 3). -/
inductive Fault where
  deriving DecidableEq, Repr

/-- The reasons a command can be refused. -/
inductive Refusal where
  /-- Raised only by an arm of `exec` for a command that has no meaning yet; safe, since the run stops. No arm
  raises it now. -/
  | notModelled (mnemonic : String)
  deriving DecidableEq, Repr

/-! ### Links (08_cell_and_exchange_links.md) -/

/-- R137: the states of a link. The exchange link takes only DOWN and UP. -/
inductive LinkState where
  | off
  | down
  | up
  | loop
  deriving DecidableEq, Repr

/-- R146: the six latched flags of a link. -/
structure LinkFlags where
  checkError : Bool
  framingError : Bool
  rxOverrun : Bool
  silence : Bool
  txOverflow : Bool
  protocol : Bool
  deriving DecidableEq, Repr

/-- R147: the four counters of a link. -/
structure LinkCounters where
  received : Nat
  strays : Nat
  late : Nat
  looped : Nat
  deriving DecidableEq, Repr

/-- What a Cell Link Unit and the Exchange Link Unit both hold. -/
structure LinkUnit where
  state : LinkState
  flags : LinkFlags
  counters : LinkCounters
  /-- R143: the signalling receive FIFO, oldest first. -/
  rxFifo : List Frame
  /-- R139: the silence timer; its expiry count while it runs. -/
  silence : Option Time
  /-- R145: the frame being sent; its wire bytes are `Frame.run` (log 26). -/
  sending : Option Frame
  /-- R145: the count from which the 4 ms of idle are counted. -/
  idleStart : Time
  deriving DecidableEq, Repr

/-- R149: the three items of a STATE report, and also a change mark for each. -/
structure CellReport where
  radio : Bool
  sync : Bool
  fault : Bool
  deriving DecidableEq, Repr

/-- R145: the transmit queue a Cell Link Unit sent from last. -/
inductive SendMark where
  | signalling
  | voice
  deriving DecidableEq, Repr

/-- A Cell Link Unit. -/
structure CellLink where
  link : LinkUnit
  /-- R144: the signalling transmit queue, oldest first. -/
  sigQueue : List Frame
  /-- R135: the voice transmit queue, oldest first. -/
  voiceQueue : List Frame
  /-- R149: the kept report. -/
  report : CellReport
  /-- R149: the change marks. -/
  marks : CellReport
  /-- R152. -/
  testCount : Nat
  /-- R145. -/
  sendMark : SendMark
  /-- R151: the frames sent in LOOP that have not returned yet, in the order in which they were sent (log 27). -/
  returning : List Frame
  deriving DecidableEq, Repr

/-- The Exchange Link Unit. -/
structure ExchLink where
  link : LinkUnit
  /-- R144: the one transmit queue, oldest first. -/
  txQueue : List Frame
  deriving DecidableEq, Repr

/-! ### Records, registry and cache (01_handset_registry.md, 02_location_cache.md) -/

inductive Standing where
  | permitted
  | barred
  deriving DecidableEq, Repr

inductive MobClass where
  | standard
  | vehicle
  deriving DecidableEq, Repr

inductive AttachState where
  | detached
  | attached
  deriving DecidableEq, Repr

/-- R2: the fields of a record, less its check. -/
structure Record where
  hid : Hid
  standing : Standing
  mclass : MobClass
  attach : AttachState
  location : Option CellId
  seen : Bool
  moved : Bool
  deriving DecidableEq, Repr

/-- A record address: (bucket, registry slot). -/
structure RecAddr where
  bucket : BucketId
  slot : RegSlot
  deriving DecidableEq, Repr

/-- R23: a valid cache entry. -/
structure CacheEntry where
  record : Record
  addr : RecAddr
  deriving DecidableEq, Repr

/-- R24: the two ways of a set. -/
inductive Way where
  | way0
  | way1
  deriving DecidableEq, Repr

/-- R23, R24: a set: two ways, each invalid (none) or valid, and the LRU mark that names the way to replace. -/
structure CacheSet where
  way0 : Option CacheEntry
  way1 : Option CacheEntry
  lru : Way
  deriving DecidableEq, Repr

/-- R10: the format states. -/
inductive FormatState where
  | unformatted
  | formatting
  | formatted
  deriving DecidableEq, Repr

/-- R6, R30: a search in a context. `alternate` says that its next read is of the alternate bucket. -/
structure Search where
  hid : Hid
  alternate : Bool
  /-- R5: the first damaged slot passed. -/
  damaged : Option RecAddr
  stale : Bool
  deriving DecidableEq, Repr

/-- R14: a queued write-through. -/
structure QueuedWrite where
  addr : RecAddr
  image : Record
  deriving DecidableEq, Repr

/-- R12: the requesters at the memory port. -/
inductive Requester where
  | w
  | s
  | m
  | b
  deriving DecidableEq, Repr

/-- R13: the pass counts. -/
structure PassCounts where
  w : Nat
  s : Nat
  m : Nat
  b : Nat
  deriving DecidableEq, Repr

/-- R1: the operation on the memory port. The last two have lost their requester to a RESTART, a pin reset or a
FORMAT-REGISTRY (log 14). -/
inductive PortOp where
  | searchRead (ctx : ContextId) (bucket : BucketId)
  | writeThrough (addr : RecAddr) (image : Record)
  | mgmtRead (bucket : BucketId)
  | mgmtWrite (addr : RecAddr) (image : Record)
  | emptyWrite (addr : RecAddr)
  | formatWrite (addr : RecAddr)
  | sweepRead (bucket : BucketId)
  | sweepWrite (addr : RecAddr) (image : Record)
  | orphanRead (bucket : BucketId)
  | orphanWrite (addr : RecAddr) (image : Record)
  deriving DecidableEq, Repr

/-- R17: the sweep modes. -/
inductive SweepMode where
  | stale
  | moved
  deriving DecidableEq, Repr

/-- R19: a sweep write still to be made: the slot and the HID the sweep read in it. -/
structure SweepWrite where
  slot : RegSlot
  hid : Hid
  deriving DecidableEq, Repr

/-- R18, R19: what a running sweep is doing in its bucket. -/
inductive SweepPhase where
  | reading
  | writing (image : Table Record 4) (todo : List SweepWrite)
  deriving DecidableEq, Repr

/-- R17, R20: the states of the sweep. -/
inductive SweepState where
  | idle
  | running (mode : SweepMode) (bucket last : BucketId) (phase : SweepPhase)
  | ended (resume : Option BucketId)
  deriving DecidableEq, Repr

/-- The Registry Controller, with the registry SRAM behind its port. -/
structure Registry where
  format : FormatState
  /-- R11: the format position as a slot number, 4 × bucket + slot. -/
  formatPos : Nat
  /-- R6: FREE is none. -/
  contexts : Table (Option Search) 4
  /-- R6: the contexts in the order in which their searches were first started. -/
  startOrder : List ContextId
  /-- R6: the READY contexts, READY longest first. -/
  readyOrder : List ContextId
  /-- R14: the write-through queue, oldest first. -/
  writes : List QueuedWrite
  /-- R1: the operation on the port; none while the port is idle. -/
  port : Option PortOp
  pass : PassCounts
  /-- R1: registry memory, in its canonical form (Machine/Memory.lean). -/
  mem : List Host.Cell
  sweep : SweepState
  deriving DecidableEq, Repr

/-! ### Signalling Processor (03_enrolment_and_location.md) and parking -/

inductive Purpose where
  | origin
  | answer
  | moveIn
  deriving DecidableEq, Repr

/-- A well-formed signalling message (R43, R44). -/
inductive Msg where
  | enrol (hid : Hid) (level : Nat)
  | retire (hid : Hid)
  | camp (hid : Hid)
  | seize (slot : SlotId) (hid : Hid) (purpose : Purpose) (level : Nat)
  | vacate (slot : SlotId)
  | stateReport (report : CellReport)
  | relayFromCell (slot : SlotId) (payload : List Byte)
  | offer (n : Circuit) (hid : Hid)
  | endCall (n : Circuit)
  | relayFromExchange (n : Circuit) (payload : List Byte)
  deriving DecidableEq, Repr

/-- R39: the held message and the link it came on. -/
structure Held where
  link : LinkId
  msg : Msg
  deriving DecidableEq, Repr

/-- R27: a parked message. -/
structure Parked where
  hid : Hid
  link : LinkId
  msg : Msg
  deriving DecidableEq, Repr

/-- R26: the phases of a group. -/
inductive GroupPhase where
  | awaiting
  | searching (ctx : ContextId)
  | ready (found : Bool)
  | reopened
  deriving DecidableEq, Repr

/-- R27: a group; its messages are those of parking with its HID. -/
structure Group where
  hid : Hid
  phase : GroupPhase
  deriving DecidableEq, Repr

/-- The Signalling Processor. -/
structure SigProc where
  /-- R39: the intake position. -/
  intake : LinkId
  held : Option Held
  /-- R27: the parked messages in arrival order. -/
  parked : List Parked
  /-- R27: the groups; those READY stand in the order they became READY. -/
  groups : List Group
  deriving DecidableEq, Repr

/-! ### Calls (04_calls_and_circuits.md, 05_paging.md, 07_voice_path_and_link_quality.md) -/

/-- R54: the states of a call. -/
inductive CallState where
  | free
  | paging
  | active
  | bridged
  | holding
  | clearing
  deriving DecidableEq, Repr

inductive Direction where
  | incoming
  | outgoing
  deriving DecidableEq, Repr

/-- R97: a handover profile: w, Pe, Ps, H, T, F, B, L and M. -/
structure Profile where
  w : Nat
  pe : Nat
  ps : Nat
  h : Nat
  t : Nat
  f : Nat
  b : Nat
  l : Nat
  m : Nat
  deriving DecidableEq, Repr

/-- R54: a leg. -/
structure Leg where
  cell : CellId
  slot : SlotId
  /-- The estimate Q. -/
  q : Nat
  expected : Option Seq
  miss : Nat
  /-- R126: the expiry count of the silence timer, which runs as long as the leg exists. -/
  silence : Time
  deriving DecidableEq, Repr

/-- R127: a frame stored in the merge window, with its score. -/
structure StoredFrame where
  voice : Voice
  score : Nat
  deriving DecidableEq, Repr

/-- R127: a slot of the merge window. -/
structure MergeSlot where
  serving : Option StoredFrame
  candidate : Option StoredFrame
  deadline : Option Time
  deriving DecidableEq, Repr

/-- R127: a merge window. -/
structure Window where
  base : Option Seq
  slots : Table MergeSlot 4
  deriving DecidableEq, Repr

/-- R85: the page stages. -/
inductive PageStage where
  | stage1
  | stage2
  | stage3
  deriving DecidableEq, Repr

/-- R54, R83: a call record. Its circuit is its index. -/
structure CallRecord where
  state : CallState
  hid : Option Hid
  direction : Option Direction
  mclass : Option MobClass
  serving : Option Leg
  candidate : Option Leg
  lastServing : Option CellId
  /-- The profile in force. -/
  profile : Profile
  /-- The dwell count D. -/
  dwell : Nat
  bridgeTimer : Option Time
  holdTimer : Option Time
  clearTimer : Option Time
  stageTimer : Option Time
  pageStage : Option PageStage
  pageCell : Option CellId
  /-- R83: the cells sent a SUMMON for this page, in the order they were summoned. -/
  summoned : List CellId
  window : Option Window
  deriving DecidableEq, Repr

/-- R58: a bearer table entry. -/
inductive Bearer where
  | free
  | serving (n : Circuit)
  | candidate (n : Circuit)
  | releasing (n : Circuit)
  deriving DecidableEq, Repr

/-- The Call Table. -/
structure CallTable where
  calls : Table CallRecord 192
  /-- R57: the circuit free queue, head first. -/
  freeQueue : List Circuit
  bearers : Table (Table Bearer 12) 24
  deriving DecidableEq, Repr

/-! ### Tables (05_paging.md, 06_handover.md, 10_management.md) -/

/-- R94: an entry of the neighbour table; BARRED is none. -/
structure NeighbourEntry where
  standard : Option ProfileId
  vehicle : Option ProfileId
  deriving DecidableEq, Repr

/-- R96: a cell configuration. -/
structure CellConfig where
  zone : ZoneId
  standard : ProfileId
  vehicle : ProfileId
  deriving DecidableEq, Repr

/-- R81: a zone descriptor. -/
structure ZoneDesc where
  first : Nat
  count : Nat
  deriving DecidableEq, Repr

/-- R174: the timing values, in ms. -/
structure Timing where
  stage1 : Nat
  stage2 : Nat
  stage3 : Nat
  hold : Nat
  clear : Nat
  deriving DecidableEq, Repr

/-- Every table the controller loads. -/
structure Tables where
  profiles : Table Profile 8
  /-- Indexed by serving cell, then by new cell. -/
  neighbours : Table (Table NeighbourEntry 24) 24
  cellConfigs : Table CellConfig 24
  zones : Table ZoneDesc 16
  zoneStore : Table CellId 128
  timing : Timing
  deriving DecidableEq, Repr

/-! ### Management (10_management.md) -/

/-- R161: a request as read by its header. -/
structure MgmtRequest where
  tag : Byte
  command : Byte
  operands : List Byte
  deriving DecidableEq, Repr

/-- R165: what the memory request at the head is doing. -/
inductive MgmtJob where
  | read (hid : Hid)
  | write (hid : Hid) (standing : Standing) (mclass : MobClass)
  | delete (hid : Hid)
  | clear
  deriving DecidableEq, Repr

/-- R7, R8: how far it has come. `emptySlot` is the first empty slot the primary read delivered. `write` waits for or
has its grant; `image` is the image the search delivered (R9), and `insert` says that a record is inserted. -/
inductive MgmtStage where
  | primary
  | alternate (emptySlot : Option RegSlot)
  | write (addr : RecAddr) (image : Record) (insert : Bool)
  deriving DecidableEq, Repr

/-- The memory request in progress. -/
structure MgmtOp where
  job : MgmtJob
  stage : MgmtStage
  /-- R5: the first damaged slot its search passed. -/
  damaged : Option RecAddr
  deriving DecidableEq, Repr

/-- R168: a valid watch. -/
structure Watch where
  addr : RecAddr
  hid : Hid
  deriving DecidableEq, Repr

/-- R18: an entry of the sweep result list. -/
structure SweepEntry where
  hid : Hid
  location : Option CellId
  deriving DecidableEq, Repr

/-- The Management Unit. -/
structure Management where
  /-- R164: oldest first; the request being executed counts among them. -/
  queue : List MgmtRequest
  op : Option MgmtOp
  watch : Option Watch
  sweepList : List SweepEntry
  unread : Bool
  deriving DecidableEq, Repr

/-! ### Attention and capture (11_attention_and_fault_capture.md) -/

/-- R184: the capture kinds, in the order of their codes. -/
inductive CaptureKind where
  | legLost
  | callLost
  | handoverAbandoned
  | registryDamaged
  | protocol
  | exchangeLost
  deriving DecidableEq, Repr

/-- R184: the optional detail fields of a capture. `slot` is a bearer slot or, for REGISTRY_DAMAGED, a registry slot. -/
structure CaptureDetail where
  circuit : Option Circuit := none
  hid : Option Hid := none
  cell : Option CellId := none
  slot : Option Nat := none
  callState : Option CallState := none
  qServing : Option Nat := none
  qCandidate : Option Nat := none
  bucket : Option BucketId := none
  deriving DecidableEq, Repr

/-- R184: a capture record. -/
structure Capture where
  kind : CaptureKind
  time : Time
  overflowed : Bool
  detail : CaptureDetail
  deriving DecidableEq, Repr

/-- R181: one truth value per attention cause: the four enables, and also which causes are pending. -/
structure Causes where
  capture : Bool
  link : Bool
  cell : Bool
  sweep : Bool
  deriving DecidableEq, Repr

/-- R184: the six capture enables. -/
structure CaptureEnables where
  legLost : Bool
  callLost : Bool
  handoverAbandoned : Bool
  registryDamaged : Bool
  protocol : Bool
  exchangeLost : Bool
  deriving DecidableEq, Repr

/-- The Attention and Capture Unit. -/
structure Attention where
  enables : Causes
  captureEnables : CaptureEnables
  /-- R185: oldest first. -/
  captures : List Capture
  /-- R186: the PROTOCOL limit marks of the cell links. -/
  cellLimits : Table Bool 24
  /-- R186: the PROTOCOL limit mark of the exchange link. -/
  exchLimit : Bool
  /-- R183: the attention pin. -/
  pin : Bool
  deriving DecidableEq, Repr

/-! ### The whole block -/

/-- The state of the block. `pending` is the model's own: the commands that wait, first in, first out (log 1). -/
structure State where
  pending : List Instr
  timeBase : Time
  cells : Table CellLink 24
  exch : ExchLink
  sig : SigProc
  reg : Registry
  cache : Table CacheSet 64
  call : CallTable
  tables : Tables
  mgmt : Management
  attn : Attention
  deriving DecidableEq, Repr

/-! ### Values after pin reset -/

/-- R146, R153: no flag set. -/
def LinkFlags.clear : LinkFlags := ⟨false, false, false, false, false, false⟩

/-- R153: all counters 0. -/
def LinkCounters.zero : LinkCounters := ⟨0, 0, 0, 0⟩

/-- R153: a link unit after pin reset, in the state given. -/
def LinkUnit.reset (state : LinkState) : LinkUnit :=
  { state, flags := .clear, counters := .zero, rxFifo := [], silence := none, sending := none, idleStart := 0 }

/-- R149: the report after pin reset. -/
def CellReport.initial : CellReport := ⟨true, true, false⟩

/-- R149: no change mark. -/
def CellReport.unmarked : CellReport := ⟨false, false, false⟩

/-- R137, R153, R145: a Cell Link Unit after pin reset. -/
def CellLink.reset : CellLink :=
  { link := .reset .off, sigQueue := [], voiceQueue := [], report := .initial, marks := .unmarked, testCount := 0
    sendMark := .voice, returning := [] }

/-- R137, R153: the Exchange Link Unit after pin reset. -/
def ExchLink.reset : ExchLink := { link := .reset .down, txQueue := [] }

/-- R13: pass counts of 0. -/
def PassCounts.zero : PassCounts := ⟨0, 0, 0, 0⟩

/-- R22: the Registry Controller after pin reset, with memory and port as given. -/
def Registry.reset (port : Option PortOp) (mem : List Host.Cell) : Registry :=
  { format := .unformatted, formatPos := 0, contexts := Table.all 4 none, startOrder := [], readyOrder := []
    writes := [], port, pass := .zero, mem, sweep := .idle }

/-- R38: an empty set. -/
def CacheSet.reset : CacheSet := ⟨none, none, .way0⟩

/-- R39, R53: the Signalling Processor after a reset. -/
def SigProc.reset : SigProc := ⟨.exchange, none, [], []⟩

/-- R97: the defaults of a profile. -/
def Profile.default : Profile := ⟨4, 1536, 256, 192, 8, 1280, 300, 12, 4⟩

/-- R55, R80: a FREE call record, with the profile in force it last copied. -/
def CallRecord.free (profile : Profile) : CallRecord :=
  { state := .free, hid := none, direction := none, mclass := none, serving := none, candidate := none
    lastServing := none, profile, dwell := 0, bridgeTimer := none, holdTimer := none, clearTimer := none
    stageTimer := none, pageStage := none, pageCell := none, summoned := [], window := none }

/-- R57, R58, R80: the Call Table after pin reset. -/
def CallTable.reset : CallTable :=
  { calls := Table.all 192 (.free .default), freeQueue := ascending 192, bearers := Table.all 24 (Table.all 12 .free) }

/-- R174: the default timing values. -/
def Timing.default : Timing := ⟨800, 1200, 2000, 2000, 500⟩

/-- R180: the tables after pin reset. -/
def Tables.reset : Tables :=
  { profiles := Table.all 8 .default
    neighbours := Table.all 24 (Table.all 24 ⟨some 0, some 0⟩)
    cellConfigs := Table.all 24 ⟨0, 0, 0⟩
    zones := Table.all 16 ⟨0, 0⟩
    zoneStore := Table.all 128 0
    timing := .default }

/-- R180: the Management Unit after pin reset. -/
def Management.reset : Management := ⟨[], none, none, [], false⟩

/-- R181, R184, R187: the Attention and Capture Unit after pin reset. -/
def Attention.reset : Attention :=
  { enables := ⟨false, false, false, false⟩, captureEnables := ⟨true, true, true, true, true, true⟩, captures := []
    cellLimits := Table.all 24 false, exchLimit := false, pin := false }

/-- The block in its pin-reset state (R180, R154), with the commands, memory and port given: pin reset writes none of
the three. -/
def State.pinReset (pending : List Instr) (port : Option PortOp) (mem : List Host.Cell) : State :=
  { pending, timeBase := 0, cells := Table.all 24 .reset, exch := .reset, sig := .reset, reg := .reset port mem
    cache := Table.all 64 .reset, call := .reset, tables := .reset, mgmt := .reset, attn := .reset }

/-- The block right after power-up and pin reset: no command waits (log 1), the port is idle (log 16), and registry
memory lists nothing (log 7). -/
def State.reset : State := .pinReset [] none []

end Sys2Proof.Machine
end

