-- ==== Sys2Proof/Machine/Flags.lean ====
section
/-! DEFINITION. The link units by link, their latched flags (R146) and their counters (R147). -/

namespace Sys2Proof.Machine

open Sys2Proof

/-! ### Link units by link -/

/-- The Cell Link Unit of a cell changed. -/
def State.modCell (s : State) (c : CellId) (f : CellLink → CellLink) : State :=
  { s with cells := s.cells.put c (f (s.cells.at c)) }

/-- The Exchange Link Unit changed. -/
def State.modExch (s : State) (f : ExchLink → ExchLink) : State := { s with exch := f s.exch }

/-- The common part of a link's unit. -/
def State.unit (s : State) : LinkId → LinkUnit
  | .cell c => (s.cells.at c).link
  | .exchange => s.exch.link

/-- The common part of a link's unit changed. -/
def State.modUnit (s : State) (l : LinkId) (f : LinkUnit → LinkUnit) : State :=
  match l with
  | .cell c => s.modCell c fun u => { u with link := f u.link }
  | .exchange => s.modExch fun u => { u with link := f u.link }

/-- The cell's link is UP. -/
def State.cellUp (s : State) (c : CellId) : Bool := (s.cells.at c).link.state == .up

/-- The exchange link is UP. -/
def State.exchUp (s : State) : Bool := s.exch.link.state == .up

/-! ### Flags -/

/-- R146: a flag once set stays set until READ-LINK clears it. -/
def LinkUnit.setCheckError (u : LinkUnit) : LinkUnit := { u with flags := { u.flags with checkError := true } }
def LinkUnit.setFramingError (u : LinkUnit) : LinkUnit := { u with flags := { u.flags with framingError := true } }
def LinkUnit.setRxOverrun (u : LinkUnit) : LinkUnit := { u with flags := { u.flags with rxOverrun := true } }
def LinkUnit.setSilence (u : LinkUnit) : LinkUnit := { u with flags := { u.flags with silence := true } }
def LinkUnit.setTxOverflow (u : LinkUnit) : LinkUnit := { u with flags := { u.flags with txOverflow := true } }
def LinkUnit.setProtocol (u : LinkUnit) : LinkUnit := { u with flags := { u.flags with protocol := true } }

/-- R181: a link holds a set flag. -/
def LinkFlags.any (f : LinkFlags) : Bool :=
  f.checkError || f.framingError || f.rxOverrun || f.silence || f.txOverflow || f.protocol

/-- The flags byte of READ-LINK's reply. -/
def LinkFlags.byte (f : LinkFlags) : Byte :=
  flagByte f.checkError ||| (flagByte f.framingError <<< 1) ||| (flagByte f.rxOverrun <<< 2)
    ||| (flagByte f.silence <<< 3) ||| (flagByte f.txOverflow <<< 4) ||| (flagByte f.protocol <<< 5)

/-! ### Counters -/

/-- Conventions, Counters: 16 bits, stopping at 65535. -/
def countUp (n : Nat) : Nat := min (n + 1) Config.counterMax

def LinkUnit.countReceived (u : LinkUnit) : LinkUnit :=
  { u with counters := { u.counters with received := countUp u.counters.received } }
def LinkUnit.countStray (u : LinkUnit) : LinkUnit :=
  { u with counters := { u.counters with strays := countUp u.counters.strays } }
def LinkUnit.countLate (u : LinkUnit) : LinkUnit :=
  { u with counters := { u.counters with late := countUp u.counters.late } }
def LinkUnit.countLooped (u : LinkUnit) : LinkUnit :=
  { u with counters := { u.counters with looped := countUp u.counters.looped } }

/-- R147: a stray discard on a link. -/
def State.stray (s : State) (l : LinkId) : State := s.modUnit l LinkUnit.countStray

/-! ### Change marks -/

/-- R181: a cell has a change mark set. -/
def CellReport.marked (r : CellReport) : Bool := r.radio || r.sync || r.fault

/-- The change marks byte of READ-CELL's reply. -/
def CellReport.marksByte (r : CellReport) : Byte :=
  flagByte r.radio ||| (flagByte r.sync <<< 1) ||| (flagByte r.fault <<< 2)

end Sys2Proof.Machine
end

