-- ==== Sys2Proof/Machine/Ops.lean ====
section
/-! DEFINITION. The named operations that blocks share: timers (R56), frame placement (R144), capture reports
(R184 to R186) and the judgement of the attention set (R181, R183). -/

namespace Sys2Proof.Machine

open Sys2Proof

/-! ### Timers -/

/-- R56: a timer's expiry count: the Time Base count plus the time in ms. -/
def State.after (s : State) (ms : Nat) : Time := s.timeBase + BitVec.ofNat 32 ms

/-- R56: the count has reached the expiry. The elapsed time is measured mod 2^32, so the wrap of the Time Base does
not disturb a timer (log 4). -/
def State.due (s : State) (expiry : Time) : Bool := decide ((s.timeBase - expiry).toNat < 2 ^ 31)

/-- A timer that runs and whose time has come. -/
def State.dueTimer (s : State) : Option Time → Bool
  | some t => s.due t
  | none => false

/-- R177: the ms from now to the expiry of a timer; 0 when none runs (log 4). -/
def State.remaining (s : State) : Option Time → Nat
  | some t => if s.due t then 0 else (t - s.timeBase).toNat
  | none => 0

/-! ### Frame placement (R144, R135) -/

/-- A link keeps frames placed for sending only in UP and LOOP. -/
def LinkState.queues : LinkState → Bool
  | .up | .loop => true
  | .off | .down => false

/-- A frame placed on a cell's signalling transmit queue. -/
def State.placeSig (s : State) (c : CellId) (f : Frame) : State :=
  s.modCell c fun u =>
    if u.link.state.queues then
      if u.sigQueue.length < Config.sigQueueSize then { u with sigQueue := u.sigQueue ++ [f] }
      else { u with link := u.link.setTxOverflow }
    else u

/-- A voice copy placed on a cell's voice transmit queue. -/
def State.placeVoice (s : State) (c : CellId) (f : Frame) : State :=
  s.modCell c fun u =>
    if u.link.state.queues then
      if u.voiceQueue.length < Config.voiceQueueSize then { u with voiceQueue := u.voiceQueue ++ [f] }
      else { u with link := u.link.setTxOverflow }
    else u

/-- A frame placed on the exchange link's transmit queue. -/
def State.placeExch (s : State) (f : Frame) : State :=
  s.modExch fun u =>
    if u.link.state.queues then
      if u.txQueue.length < Config.exchQueueSize then { u with txQueue := u.txQueue ++ [f] }
      else { u with link := u.link.setTxOverflow }
    else u

/-! ### Captures (R184, R185, R186) -/

/-- R184: the enable of a kind. -/
def CaptureEnables.of (e : CaptureEnables) : CaptureKind → Bool
  | .legLost => e.legLost
  | .callLost => e.callLost
  | .handoverAbandoned => e.handoverAbandoned
  | .registryDamaged => e.registryDamaged
  | .protocol => e.protocol
  | .exchangeLost => e.exchangeLost

/-- R185: the overflowed mark of the newest record set. -/
def markTail : List Capture → List Capture
  | [] => []
  | [c] => [{ c with overflowed := true }]
  | c :: rest => c :: markTail rest

/-- R185: an enabled report made into a record. -/
def joinCapture (queue : List Capture) (c : Capture) : List Capture :=
  if queue.length < Config.captureQueueSize then queue ++ [c] else markTail queue

/-- R184, R185: a report of any kind but PROTOCOL. -/
def State.capture (s : State) (kind : CaptureKind) (detail : CaptureDetail) : State :=
  if s.attn.captureEnables.of kind then
    { s with attn := { s.attn with captures := joinCapture s.attn.captures ⟨kind, s.timeBase, false, detail⟩ } }
  else s

/-- R186: the PROTOCOL limit mark of a link. -/
def State.limit (s : State) : LinkId → Bool
  | .cell c => s.attn.cellLimits.at c
  | .exchange => s.attn.exchLimit

/-- R186: the PROTOCOL limit mark of a link set or cleared. -/
def State.setLimit (s : State) (l : LinkId) (b : Bool) : State :=
  match l with
  | .cell c => { s with attn := { s.attn with cellLimits := s.attn.cellLimits.put c b } }
  | .exchange => { s with attn := { s.attn with exchLimit := b } }

/-- The cell of a link; none for the exchange link. -/
def linkCell : LinkId → Option CellId
  | .cell c => some c
  | .exchange => none

/-- R146, R186: the PROTOCOL flag set, and one capture per link between clearings of that flag. -/
def State.protocolError (s : State) (l : LinkId) (slot : Option SlotId) (hid : Option Hid) : State :=
  let s := s.modUnit l LinkUnit.setProtocol
  if s.attn.captureEnables.protocol && !s.limit l then
    (s.capture .protocol { cell := linkCell l, slot := slot.map Fin.val, hid }).setLimit l true
  else s

/-! ### Attention (R181, R183) -/

/-- R181: which causes are pending. -/
def State.causesPending (s : State) : Causes :=
  { capture := !s.attn.captures.isEmpty
    link := s.exch.link.flags.any || s.cells.toList.any (fun u => u.link.flags.any)
    cell := s.cells.toList.any (fun u => u.marks.marked)
    sweep := s.mgmt.unread }

/-- Causes that hold in both. -/
def Causes.both (a b : Causes) : Causes := ⟨a.capture && b.capture, a.link && b.link, a.cell && b.cell, a.sweep && b.sweep⟩

/-- At least one cause holds. -/
def Causes.any (a : Causes) : Bool := a.capture || a.link || a.cell || a.sweep

/-- R181: the attention set: the causes both pending and enabled. -/
def State.attentionSet (s : State) : Causes := s.causesPending.both s.attn.enables

/-- R183: the pin follows the attention set. -/
def State.setPin (s : State) : State := { s with attn := { s.attn with pin := s.attentionSet.any } }

/-- R183: the attention set judged after an event that began in `before`: one ATTENTION frame, the last of the event,
when the set goes from empty to not empty; and the pin. -/
def State.judgeAttention (s before : State) : State :=
  (if s.attentionSet.any && !before.attentionSet.any then s.placeExch attentionFrame else s).setPin

end Sys2Proof.Machine
end

