-- ==== Sys2Proof/Machine/Calls.lean ====
section
/-! DEFINITION. The Call Table's operations (04_calls_and_circuits.md) and those by which a bridge ends
(06_handover.md): finding a call, making and ending legs, HOLDING, CLEARING, and the loss of a link. -/

namespace Sys2Proof.Machine

open Sys2Proof

/-! ### Calls and bearers -/

/-- The call record of a circuit. -/
def State.callOf (s : State) (n : Circuit) : CallRecord := s.call.calls.at n

/-- A call record changed. -/
def State.modCall (s : State) (n : Circuit) (f : CallRecord → CallRecord) : State :=
  { s with call := { s.call with calls := s.call.calls.put n (f (s.callOf n)) } }

/-- R58: the bearer table entry of (cell, slot). -/
def State.bearer (s : State) (c : CellId) (k : SlotId) : Bearer := (s.call.bearers.at c).at k

/-- A bearer table entry replaced. -/
def State.setBearer (s : State) (c : CellId) (k : SlotId) (b : Bearer) : State :=
  { s with call := { s.call with bearers := s.call.bearers.put c ((s.call.bearers.at c).put k b) } }

/-- R55: the states in which a call holds a HID. -/
def CallState.inCall : CallState → Bool
  | .paging | .active | .bridged | .holding => true
  | .free | .clearing => false

/-- R55: the call of a HID. -/
def State.findCall (s : State) (h : Hid) : Option Circuit :=
  (ascending 192).find? fun n => (s.callOf n).state.inCall && (s.callOf n).hid == some h

/-- R54: the leg of a role. -/
def CallRecord.leg (r : CallRecord) : LegRole → Option Leg
  | .serving => r.serving
  | .candidate => r.candidate

/-- The leg of a role changed. -/
def CallRecord.modLeg (r : CallRecord) (role : LegRole) (f : Leg → Leg) : CallRecord :=
  match role with
  | .serving => { r with serving := r.serving.map f }
  | .candidate => { r with candidate := r.candidate.map f }

/-- R54: the class copied when the call was made; STANDARD when the call holds none (log 15). -/
def CallRecord.classOr (r : CallRecord) : MobClass := r.mclass.getD .standard

/-- R96: the default profile of a cell for a class. -/
def State.defaultProfile (s : State) (c : CellId) (cls : MobClass) : Profile :=
  let cfg := s.tables.cellConfigs.at c
  s.tables.profiles.at (match cls with | .standard => cfg.standard | .vehicle => cfg.vehicle)

/-- R94: the value of a neighbour entry for a class. -/
def NeighbourEntry.of (e : NeighbourEntry) : MobClass → Option ProfileId
  | .standard => e.standard
  | .vehicle => e.vehicle

/-- R94: the value of the entry (s, c) for a class; none is BARRED. -/
def State.neighbour (s : State) (from' to' : CellId) (cls : MobClass) : Option ProfileId :=
  ((s.tables.neighbours.at from').at to').of cls

/-- R60: a new leg; its silence timer is started for L × 10 ms. -/
def State.newLeg (s : State) (c : CellId) (k : SlotId) (level l : Nat) : Leg :=
  { cell := c, slot := k, q := 64 * level, expected := none, miss := 0, silence := s.after (l * 10) }

/-! ### Ends of calls -/

/-- R55, R57: a call goes to FREE and its circuit to the tail of the free queue. -/
def State.toFree (s : State) (n : Circuit) : State :=
  if (s.callOf n).state = .free then s
  else
    let s := s.modCall n fun r => .free r.profile
    { s with call := { s.call with freeQueue := s.call.freeQueue ++ [n] } }

/-- R67: a bearer entry names the circuit as RELEASING. -/
def State.releasing (s : State) (n : Circuit) : Bool :=
  s.call.bearers.toList.any fun row => row.toList.any fun b => b == .releasing n

/-- R67, R107: every bearer entry RELEASING for the circuit becomes FREE, with no message. -/
def State.freeReleasing (s : State) (n : Circuit) : State :=
  let freed (b : Bearer) : Bearer := if b = .releasing n then .free else b
  { s with call := { s.call with bearers := s.call.bearers.map (Vector.map freed) } }

/-- R67: a CLEARING call with no RELEASING bearer left goes to FREE. -/
def State.leaveClearing (s : State) (n : Circuit) : State :=
  if (s.callOf n).state = .clearing ∧ s.releasing n = false then s.toFree n else s

/-- R74: a HOLDING call is lost. -/
def State.loseCall (s : State) (n : Circuit) : State :=
  let r := s.callOf n
  ((s.placeExch (endedFrame n .lost)).capture .callLost
    { circuit := some n, hid := r.hid, cell := r.lastServing, callState := some .holding }).toFree n

/-- R72, R107, R112: a call that lost its serving leg with no candidate to carry on enters HOLDING. `before` is the
call state before the loss. With a hold time of 0 it is lost in the same event. -/
def State.enterHolding (s : State) (n : Circuit) (lost : Leg) (before : CallState) (qServing : Nat)
    (qCandidate : Option Nat) : State :=
  let r := s.callOf n
  let s := s.freeReleasing n
  let s := s.modCall n fun r =>
    { r with state := .holding, serving := none, candidate := none, lastServing := some lost.cell, dwell := 0
             bridgeTimer := none, window := none }
  let s := s.capture .legLost
    { circuit := some n, hid := r.hid, cell := some lost.cell, slot := some lost.slot.val, callState := some before
      qServing := some qServing, qCandidate }
  if s.tables.timing.hold = 0 then s.loseCall n
  else s.modCall n fun r => { r with holdTimer := some (s.after s.tables.timing.hold) }

/-- R66, R106: a leg let go: CLEAR is placed for its cell and its bearer becomes RELEASING. -/
def State.releaseLeg (s : State) (n : Circuit) (g : Leg) : State :=
  (s.placeSig g.cell (clearFrame g.slot)).setBearer g.cell g.slot (.releasing n)

/-- A leg released if there is one. -/
def State.releaseLeg? (s : State) (n : Circuit) : Option Leg → State
  | some g => s.releaseLeg n g
  | none => s

/-- R66: a call enters CLEARING; the serving leg is released first and then the candidate. -/
def State.enterClearing (s : State) (n : Circuit) : State :=
  let r := s.callOf n
  let s := (s.releaseLeg? n r.serving).releaseLeg? n r.candidate
  let s := s.modCall n fun r =>
    { CallRecord.free r.profile with state := .clearing, clearTimer := some (s.after s.tables.timing.clear) }
  s.leaveClearing n

/-- R65: END acts on a circuit. -/
def State.endCircuit (s : State) (n : Circuit) : State :=
  match (s.callOf n).state with
  | .free | .clearing => s
  | .paging => s.toFree n
  | .active | .bridged | .holding => s.enterClearing n

/-! ### Ends of bridges -/

/-- R106, R108, R110, R111: a bridged call returns to ACTIVE on the leg kept. The window is closed: the kept leg's
expected sequence becomes its base and its miss run 0. The profile in force is copied from the default of the kept
leg's cell. -/
def State.keepLeg (s : State) (n : Circuit) (kept : Leg) : State :=
  let s := s.setBearer kept.cell kept.slot (.serving n)
  s.modCall n fun r =>
    { r with
      state := .active
      serving := some { kept with expected := r.window.bind Window.base, miss := 0 }
      candidate := none, dwell := 0, bridgeTimer := none, window := none
      profile := s.defaultProfile kept.cell r.classOr }

/-- R106: a commit on quality, or by a bridge timer expiry that keeps the candidate. -/
def State.commit (s : State) (n : Circuit) (serving candidate : Leg) : State :=
  (s.releaseLeg n serving).keepLeg n candidate

/-- R118: a report about a bridge, with the estimates given. -/
def State.captureBridge (s : State) (kind : CaptureKind) (n : Circuit) (g : Leg) (est : Nat × Nat) : State :=
  s.capture kind
    { circuit := some n, hid := (s.callOf n).hid, cell := some g.cell, slot := some g.slot.val
      callState := some .bridged, qServing := some est.1, qCandidate := some est.2 }

/-- R110: the serving leg alone is lost: a commit by loss. -/
def State.commitByLoss (s : State) (n : Circuit) (serving candidate : Leg) (est : Nat × Nat) : State :=
  let s := s.captureBridge .legLost n serving est
  (s.setBearer serving.cell serving.slot .free).keepLeg n candidate

/-- R111: the candidate alone is lost: the bridge is abandoned. -/
def State.abandonByLoss (s : State) (n : Circuit) (serving candidate : Leg) (est : Nat × Nat) : State :=
  let s := s.captureBridge .handoverAbandoned n candidate est
  (s.setBearer candidate.cell candidate.slot .free).keepLeg n serving

/-- R109: a bridge timer expiry that keeps the serving leg. -/
def State.abandonByExpiry (s : State) (n : Circuit) (serving candidate : Leg) : State :=
  let s := s.captureBridge .handoverAbandoned n candidate (serving.q, candidate.q)
  (s.releaseLeg n candidate).keepLeg n serving

/-- R112: both legs are lost in one event. -/
def State.loseBoth (s : State) (n : Circuit) (serving candidate : Leg) (est : Nat × Nat) : State :=
  let s := s.setBearer serving.cell serving.slot .free
  let s := s.setBearer candidate.cell candidate.slot .free
  s.enterHolding n serving .bridged est.1 (some est.2)

/-! ### Leg loss -/

/-- R70: the legs named of a call are lost in one event that found the estimates as they stand. -/
def State.loseLegs (s : State) (n : Circuit) (lostServing lostCandidate : Bool) : State :=
  let r := s.callOf n
  match r.state, r.serving, r.candidate with
  | .active, some sl, _ =>
    if lostServing then (s.setBearer sl.cell sl.slot .free).enterHolding n sl .active sl.q none else s
  | .bridged, some sl, some cl =>
    let est := (sl.q, cl.q)
    match lostServing, lostCandidate with
    | true, true => s.loseBoth n sl cl est
    | true, false => s.commitByLoss n sl cl est
    | false, true => s.abandonByLoss n sl cl est
    | false, false => s
  | _, _, _ => s

/-- R70: one leg of a call is lost. -/
def State.loseLeg (s : State) (n : Circuit) (role : LegRole) : State :=
  s.loseLegs n (role == .serving) (role == .candidate)

/-- R59, R68: a bearer is freed: a RELEASING entry becomes FREE and its call may leave CLEARING; a bound leg is
lost. -/
def State.freeBearer (s : State) (c : CellId) (k : SlotId) : State :=
  match s.bearer c k with
  | .free => s
  | .serving n => s.loseLeg n .serving
  | .candidate n => s.loseLeg n .candidate
  | .releasing n => (s.setBearer c k .free).leaveClearing n

/-! ### Link loss -/

/-- A leg stands at a cell. -/
def legAt (c : CellId) : Option Leg → Bool
  | some g => g.cell == c
  | none => false

/-- R71, R114: a call's legs at a cell are lost together. -/
def State.loseLegsAt (c : CellId) (s : State) (n : Circuit) : State :=
  let r := s.callOf n
  s.loseLegs n (legAt c r.serving) (legAt c r.candidate)

/-- R71: a RELEASING entry becomes FREE. -/
def Bearer.letGo : Bearer → Bearer
  | .releasing _ => .free
  | b => b

/-- R71: every RELEASING entry of a cell becomes FREE. -/
def State.freeReleasingAt (s : State) (c : CellId) : State :=
  { s with call := { s.call with bearers := s.call.bearers.put c ((s.call.bearers.at c).map Bearer.letGo) } }

/-- R57: circuits appended in one event stand in ascending order (log 23). -/
def State.sortFreed (s : State) (before : List Circuit) : State :=
  let freed := s.call.freeQueue.drop before.length
  { s with call := { s.call with freeQueue := before ++ (ascending 192).filter freed.contains } }

/-- R71: the link of a cell has left UP: the Call Table acts on every bearer of the cell. -/
def State.cellLost (s : State) (c : CellId) : State :=
  let before := s.call.freeQueue
  let s := (ascending 192).foldl (State.loseLegsAt c) s
  let s := s.freeReleasingAt c
  ((ascending 192).foldl State.leaveClearing s).sortFreed before

/-- R77: a call that the loss of the exchange link puts into CLEARING. -/
def CallState.clearsOnLoss : CallState → Bool
  | .active | .bridged | .holding => true
  | _ => false

/-- R77: the exchange link has left UP: the Call Table acts on every call record. -/
def State.exchLost (s : State) : State :=
  let some' := (ascending 192).any fun n => (s.callOf n).state.clearsOnLoss
  let s := (ascending 192).foldl State.endCircuit s
  if some' then s.capture .exchangeLost {} else s

end Sys2Proof.Machine
end

