-- ==== Sys2Proof/Machine/Voice.lean ====
section
/-! DEFINITION. The Voice Path (07_voice_path_and_link_quality.md): scores, estimates, the ACTIVE rules, the merge
window and its emissions with the Handover Unit's evaluation (R105), and the downlink. -/

namespace Sys2Proof.Machine

open Sys2Proof

/-! ### Arithmetic -/

/-- R121: the score of a frame; a result below 0 is replaced by 0. -/
def score (p : Profile) (v : Voice) : Nat :=
  64 * v.level.toNat - ((if v.error then p.pe else 0) + p.ps * v.slips)

/-- R122: an estimate updated with one sample. Division rounds toward minus infinity. -/
def updateEstimate (w q sample : Nat) : Nat :=
  let d : Int := (sample : Int) - q
  let raised : Int := q + (d * w + 8) / 16
  (max 0 (min (Config.qualityMax : Int) raised)).toNat

/-- R124: `g` zero samples applied to an estimate. -/
def zeroSamples (w : Nat) : Nat → Nat → Nat
  | 0, q => q
  | g + 1, q => zeroSamples w g (updateEstimate w q 0)

/-! ### Uplink in ACTIVE -/

/-- R125: a frame forwarded to the exchange. -/
def State.forward (s : State) (n : Circuit) (v : Voice) : State := s.placeExch (forwardedFrame n v)

/-- R147: a late discard on a cell's link. -/
def State.lateDiscard (s : State) (c : CellId) : State := s.modUnit (.cell c) LinkUnit.countLate

/-- R124: a frame on the serving leg of an ACTIVE call, from cell `c`. -/
def State.activeFrame (s : State) (n : Circuit) (c : CellId) (v : Voice) : State :=
  let r := s.callOf n
  match r.serving with
  | none => s
  | some g =>
    let own := score r.profile v
    let w := r.profile.w
    match g.expected with
    | none =>
      (s.modCall n fun r => { r with serving := some { g with q := updateEstimate w g.q own, expected := some (v.seq + 1) } })
        |>.forward n v
    | some e =>
      let gap := (v.seq - e).toNat
      if 128 ≤ gap then s.lateDiscard c
      else
        (s.modCall n fun r =>
          { r with serving := some { g with q := updateEstimate w (zeroSamples w gap g.q) own, expected := some (v.seq + 1) } })
          |>.forward n v

/-! ### The merge window -/

/-- R127: an empty slot. -/
def MergeSlot.vacant : MergeSlot := ⟨none, none, none⟩

/-- R102, R127: a window with all four slots empty. -/
def Window.new (base : Option Seq) : Window := ⟨base, Table.all 4 .vacant⟩

/-- The frame a slot holds from a leg. -/
def MergeSlot.of (m : MergeSlot) : LegRole → Option StoredFrame
  | .serving => m.serving
  | .candidate => m.candidate

/-- R128: a slot with a leg's frame stored; its first frame sets its hold deadline, unchanged by the second. -/
def MergeSlot.store (m : MergeSlot) (role : LegRole) (f : StoredFrame) (deadline : Time) : MergeSlot :=
  let d := some (m.deadline.getD deadline)
  match role with
  | .serving => { m with serving := some f, deadline := d }
  | .candidate => { m with candidate := some f, deadline := d }

/-- R131: the slot holds frames from both legs. -/
def MergeSlot.full (m : MergeSlot) : Bool := m.serving.isSome && m.candidate.isSome

/-- R131, step 4: the base rises by 1 and the slots move down. -/
def Window.shift (w : Window) : Window :=
  { base := w.base.map (· + 1)
    slots := ((Table.put w.slots 0 (w.slots.at 1)).put 1 (w.slots.at 2)).put 2 (w.slots.at 3) |>.put 3 .vacant }

/-- R131, step 1: the frame to forward: the higher score, a tie forwarding the serving leg's. -/
def MergeSlot.better (m : MergeSlot) : Option StoredFrame :=
  match m.serving, m.candidate with
  | some a, some b => if a.score < b.score then some b else some a
  | some a, none => some a
  | none, b => b

/-- R131 steps 2 and 3, R132: a leg moved by an emission. -/
def Leg.emitted (g : Leg) (w : Nat) (f : Option StoredFrame) : Leg :=
  match f with
  | some f => { g with q := updateEstimate w g.q f.score, miss := 0 }
  | none => { g with q := updateEstimate w g.q 0, miss := g.miss + 1 }

/-- R105: the Handover Unit's evaluation of a call still BRIDGED. -/
def State.evaluate (s : State) (n : Circuit) : State :=
  let r := s.callOf n
  match r.serving, r.candidate with
  | some sl, some cl =>
    if sl.q < r.profile.f ∧ r.profile.f ≤ cl.q then s.commit n sl cl
    else
      let d := if sl.q + r.profile.h ≤ cl.q then r.dwell + 1 else 0
      if d = r.profile.t then s.commit n sl cl else s.modCall n fun r => { r with dwell := d }
  | _, _ => s

/-- R131, steps 1 to 6: one emission of slot 0. `est` are the two estimates just before the event, which a capture
made by a leg loss carries (R118, log 9). -/
def State.emit (s : State) (n : Circuit) (est : Nat × Nat) : State :=
  let r := s.callOf n
  match r.serving, r.candidate, r.window with
  | some sl, some cl, some win =>
    let slot := win.slots.at 0
    let s := match slot.better with
      | some f => s.forward n f.voice
      | none => s
    let sl := sl.emitted r.profile.w slot.serving
    let cl := cl.emitted r.profile.w slot.candidate
    let s := s.modCall n fun r => { r with serving := some sl, candidate := some cl, window := some win.shift }
    match decide (r.profile.l ≤ sl.miss), decide (r.profile.l ≤ cl.miss) with
    | true, true => s.loseBoth n sl cl est
    | true, false => s.commitByLoss n sl cl est
    | false, true => s.abandonByLoss n sl cl est
    | false, false => s.evaluate n
  | _, _, _ => s

/-- R129, R130, R131 step 7: whether slot 0 is to be emitted: the base has not yet reached `goal`, or slot 0 holds
frames from both legs (log 17). -/
def CallRecord.emits (r : CallRecord) (goal : Seq) : Bool :=
  r.state == .bridged &&
    match r.window with
    | some win =>
      (match win.base with
        | some b => b != goal && decide ((goal - b).toNat < 128)
        | none => false) || (win.slots.at 0).full
    | none => false

/-- Slot 0 emitted as often as R129, R130 and R131 step 7 ask. An event makes at most 124 emissions to reach its goal
and at most 4 past it. -/
def State.emitUntil (n : Circuit) (est : Nat × Nat) (goal : Seq) : Nat → State → State
  | 0, s => s
  | fuel + 1, s => if (s.callOf n).emits goal then State.emitUntil n est goal fuel (s.emit n est) else s

/-- More emissions than one event makes. -/
def emitFuel : Nat := 132

/-- The two estimates of a call; 0 for a leg that is none. -/
def CallRecord.estimates (r : CallRecord) : Nat × Nat :=
  ((r.serving.map Leg.q).getD 0, (r.candidate.map Leg.q).getD 0)

/-- R128: a frame placed at offset `o` of the window; slot 0, if it then holds both frames, is emitted. -/
def State.placeFrame (s : State) (n : Circuit) (role : LegRole) (o : Fin 4) (v : Voice) (est : Nat × Nat) : State :=
  let r := s.callOf n
  match r.window with
  | none => s
  | some win =>
    let f : StoredFrame := ⟨v, score r.profile v⟩
    let slot := (win.slots.at o).store role f (s.after r.profile.m)
    let s := s.modCall n fun r => { r with window := some { win with slots := Table.put win.slots o slot } }
    s.emitUntil n est (win.base.getD 0) emitFuel

/-- R128: the base becomes the frame's number when it is none. -/
def Window.based (w : Window) (q : Seq) : Window := { w with base := some (w.base.getD q) }

/-- The offset of a number in the window of a call. -/
def CallRecord.offset (r : CallRecord) (q : Seq) : Nat := (q - ((r.window.bind Window.base).getD q)).toNat

/-- R129: the frame that caused an advance, once the advance is done: placed while the call is still BRIDGED, and
otherwise handled by where its bearer now stands. -/
def State.afterAdvance (s : State) (n : Circuit) (role : LegRole) (c : CellId) (k : SlotId) (v : Voice)
    (est : Nat × Nat) : State :=
  let r := s.callOf n
  if r.state = .bridged then
    if h : r.offset v.seq < 4 then s.placeFrame n role ⟨r.offset v.seq, h⟩ v est else s
  else if r.state = .active ∧ s.bearer c k = .serving n then s.activeFrame n c v
  else s.stray (.cell c)

/-- R128, R129: a frame from a leg of a BRIDGED call, on bearer (c, k). -/
def State.windowFrame (s : State) (n : Circuit) (role : LegRole) (c : CellId) (k : SlotId) (v : Voice) : State :=
  let est := (s.callOf n).estimates
  let s := s.modCall n fun r => { r with window := r.window.map (Window.based · v.seq) }
  let r := s.callOf n
  let o := r.offset v.seq
  if 128 ≤ o then s.lateDiscard c
  else if h : o < 4 then
    let held := match r.window with
      | some win => ((win.slots.at ⟨o, h⟩).of role).isSome
      | none => true
    if held then s else s.placeFrame n role ⟨o, h⟩ v est
  else (s.emitUntil n est (v.seq - 3) emitFuel).afterAdvance n role c k v est

/-! ### Uplink frames -/

/-- R126: the silence timer of a leg restarted for L × 10 ms. -/
def State.restartSilence (s : State) (n : Circuit) (role : LegRole) : State :=
  let expiry := s.after ((s.callOf n).profile.l * 10)
  s.modCall n fun r => r.modLeg role fun g => { g with silence := expiry }

/-- R120: a frame on a bearer that carries the leg of a role of call `n`. -/
def State.legFrame (s : State) (n : Circuit) (role : LegRole) (c : CellId) (k : SlotId) (v : Voice) : State :=
  match (s.callOf n).state, role with
  | .active, .serving => (s.restartSilence n .serving).activeFrame n c v
  | .bridged, role => (s.restartSilence n role).windowFrame n role c k v
  | _, _ => s.stray (.cell c)

/-- R120: an uplink voice frame handled by its bearer's entry. -/
def State.uplinkFrame (s : State) (c : CellId) (k : SlotId) (v : Voice) : State :=
  match s.bearer c k with
  | .serving n => s.legFrame n .serving c k v
  | .candidate n => s.legFrame n .candidate c k v
  | .free | .releasing _ => s.stray (.cell c)

/-! ### Hold deadlines -/

/-- The hold deadline of the merge slot at an offset of a call. -/
def CallRecord.deadline (r : CallRecord) (k : Fin 4) : Option Time :=
  match r.window with
  | some win => (win.slots.at k).deadline
  | none => none

/-- R130: the expiry of the deadline of the slot at offset `k`: slots 0 to k are emitted in turn. -/
def State.deadlineExpired (s : State) (n : Circuit) (k : Fin 4) : State :=
  let r := s.callOf n
  let goal := ((r.window.bind Window.base).getD 0) + BitVec.ofNat 8 (k.val + 1)
  s.emitUntil n r.estimates goal emitFuel

/-! ### Downlink -/

/-- R134: one copy of a downlink frame to the cell of a leg. -/
def State.copyDown (s : State) (v : Voice) : Option Leg → State
  | some g => s.placeVoice g.cell (downlinkFrame g.slot v)
  | none => s

/-- R134: a downlink voice frame for a circuit. -/
def State.downlink (s : State) (n : Circuit) (v : Voice) : State :=
  let r := s.callOf n
  match r.state with
  | .active => s.copyDown v r.serving
  | .bridged => (s.copyDown v r.serving).copyDown v r.candidate
  | .free | .paging | .holding | .clearing => s.stray .exchange

end Sys2Proof.Machine
end

