-- ==== Sys2Proof/Machine/Handover.lean ====
section
/-! DEFINITION. SEIZE (R59 to R64) and move-in (06_handover.md, R100 to R103): what accepting a SEIZE for each purpose
does to the call and its bearer, and the refusals. -/

namespace Sys2Proof.Machine

open Sys2Proof

/-- What a SEIZE names: the cell it came from, its slot, its HID and its level. -/
structure Seize where
  cell : CellId
  slot : SlotId
  hid : Hid
  level : Nat
  deriving DecidableEq, Repr

/-- The state after a SEIZE's purpose is handled, and whether it was accepted. -/
structure Handled where
  state : State
  accepted : Bool
  deriving DecidableEq, Repr

/-- R61: a refusal: DENY is placed, and nothing else changes. -/
def State.deny (s : State) (z : Seize) (reason : DenyReason) : Handled :=
  ⟨s.placeSig z.cell (denyFrame z.slot z.hid reason), false⟩

/-- R61: GRANT placed for the cell. -/
def State.grantSeize (s : State) (z : Seize) : State := s.placeSig z.cell (grantFrame z.slot z.hid)

/-- R60, R99: a call made ACTIVE on the bearer of a SEIZE, with the default profile of its cell. -/
def CallRecord.activate (r : CallRecord) (p : Profile) (g : Leg) : CallRecord :=
  { r with state := .active, serving := some g, profile := p }

/-- R60: the serving leg a SEIZE creates for a class, and the profile copied. -/
def State.servingFor (s : State) (z : Seize) (cls : MobClass) : Profile × Leg :=
  let p := s.defaultProfile z.cell cls
  (p, s.newLeg z.cell z.slot z.level p.l)

/-- R63: an origin accepted on circuit `n`, the head of the free queue. -/
def State.acceptOrigin (s : State) (z : Seize) (r : Record) (n : Circuit) : State :=
  let pg := s.servingFor z r.mclass
  let s := { s with call := { s.call with freeQueue := s.call.freeQueue.tail } }
  let s := s.modCall n fun _ =>
    { (CallRecord.free pg.1).activate pg.1 pg.2 with
      hid := some z.hid, direction := some .outgoing, mclass := some r.mclass }
  ((s.setBearer z.cell z.slot (.serving n)).grantSeize z).placeExch (originFrame n z.hid z.cell)

/-- R63: a SEIZE for origin, its bearer freed. -/
def State.seizeForOrigin (s : State) (z : Seize) (found : Option Record) : Handled :=
  match found with
  | none => s.deny z .unknown
  | some r =>
    if r.standing = .barred then s.deny z .barred
    else if r.attach = .detached then s.deny z .notEnrolled
    else if (s.findCall z.hid).isSome then s.deny z .handsetBusy
    else if s.exchUp then
      match s.call.freeQueue with
      | n :: _ => ⟨s.acceptOrigin z r n, true⟩
      | [] => s.deny z .noCircuit
    else s.deny z .noCircuit

/-- R64: an answer accepted for call `n`. The page state is set as outside PAGING (R83). -/
def State.acceptAnswer (s : State) (z : Seize) (n : Circuit) : State :=
  let pg := s.servingFor z (s.callOf n).classOr
  let s := s.modCall n fun r =>
    { r.activate pg.1 pg.2 with stageTimer := none, pageStage := none, pageCell := none, summoned := [] }
  ((s.setBearer z.cell z.slot (.serving n)).grantSeize z).placeExch (reachedFrame n z.cell)

/-- R64: a SEIZE for answer, its bearer freed. -/
def State.seizeForAnswer (s : State) (z : Seize) : Handled :=
  match s.findCall z.hid with
  | some n => if (s.callOf n).state = .paging then ⟨s.acceptAnswer z n, true⟩ else s.deny z .notPaged
  | none => s.deny z .notPaged

/-- R73: a HOLDING call brought back to ACTIVE. -/
def State.acceptReentry (s : State) (z : Seize) (n : Circuit) : State :=
  let pg := s.servingFor z (s.callOf n).classOr
  let s := s.modCall n fun r => { r.activate pg.1 pg.2 with holdTimer := none, lastServing := none }
  (s.setBearer z.cell z.slot (.serving n)).grantSeize z

/-- R73: a move-in whose call is HOLDING. -/
def State.reenter (s : State) (z : Seize) (n : Circuit) : Handled :=
  let r := s.callOf n
  match s.neighbour (r.lastServing.getD z.cell) z.cell r.classOr with
  | none => s.deny z .barredPath
  | some _ => ⟨s.acceptReentry z n, true⟩

/-- R102: an admitted move-in puts call `n` into BRIDGED with profile `p`. -/
def State.enterBridge (s : State) (z : Seize) (n : Circuit) (p : Profile) : State :=
  let candidate := s.newLeg z.cell z.slot z.level p.l
  let s := s.modCall n fun r =>
    { r with
      state := .bridged
      serving := r.serving.map fun g => { g with miss := 0 }
      candidate := some candidate, profile := p, dwell := 0
      bridgeTimer := some (s.after (p.b * 10))
      window := some (.new (r.serving.bind Leg.expected)) }
  (s.setBearer z.cell z.slot (.candidate n)).grantSeize z

/-- R101: the kept report of a cell admits a move-in: the radio is on and sync is locked. -/
def CellReport.admits (r : CellReport) : Bool := r.radio && r.sync

/-- R101: a move-in whose call is ACTIVE, with its serving leg at cell `from'`. -/
def State.testMoveIn (s : State) (z : Seize) (n : Circuit) (from' : CellId) : Handled :=
  match s.neighbour from' z.cell (s.callOf n).classOr with
  | none => s.deny z .barredPath
  | some p =>
    if (s.cells.at z.cell).report.admits then ⟨s.enterBridge z n (s.tables.profiles.at p), true⟩
    else s.deny z .cellUnsync

/-- R100: a SEIZE for move-in, its bearer freed. -/
def State.seizeForMoveIn (s : State) (z : Seize) : Handled :=
  match s.findCall z.hid with
  | none => s.deny z .noCall
  | some n =>
    let r := s.callOf n
    match r.state, r.serving with
    | .bridged, _ => s.deny z .bridgeBusy
    | .holding, _ => s.reenter z n
    | .active, some g => s.testMoveIn z n g.cell
    | _, _ => s.deny z .noCall

end Sys2Proof.Machine
end

