-- ==== Sys2Proof/Machine/Operands.lean ====
section
/-! DEFINITION. Reading message bodies (R43, R44, R158) and the operands of management requests (R161, R166), and the
layouts of reply data (Commands; Reply data). -/

namespace Sys2Proof.Machine

open Sys2Proof

/-! ### Signalling messages -/

/-- A HID at the head of a body, and the bytes after it. -/
def takeHid : List Byte → Option (Hid × List Byte)
  | b0 :: b1 :: b2 :: b3 :: b4 :: rest => some (hidOf b0 b1 b2 b3 b4, rest)
  | _ => none

/-- R158: a yes-or-no item; a value other than 0 or 1 is none. -/
def takeFlag (b : Byte) : Option Bool := if b = 0 then some false else if b = 1 then some true else none

/-- SEIZE purpose codes. -/
def purposeOf (b : Byte) : Option Purpose :=
  if b = 1 then some .origin else if b = 2 then some .answer else if b = 3 then some .moveIn else none

/-- R43: a level above 63 is malformed. -/
def levelOf (b : Byte) : Option Nat := if b.toNat ≤ 63 then some b.toNat else none

/-- R43, R44: HID 0 is malformed. -/
def nonZero (h : Hid) : Option Hid := if h = 0 then none else some h

/-- ENROL's body. -/
def parseEnrol (body : List Byte) : Option Msg :=
  match takeHid body with
  | some (h, [lv]) => do return .enrol (← nonZero h) (← levelOf lv)
  | _ => none

/-- The body of RETIRE and of CAMP. -/
def parseHidOnly (make : Hid → Msg) (body : List Byte) : Option Msg :=
  match takeHid body with
  | some (h, []) => (nonZero h).map make
  | _ => none

/-- SEIZE's body. -/
def parseSeize (body : List Byte) : Option Msg :=
  match body with
  | k :: rest =>
    match takeHid rest with
    | some (h, [p, lv]) => do return .seize (← finOf 12 k) (← nonZero h) (← purposeOf p) (← levelOf lv)
    | _ => none
  | [] => none

/-- VACATE's body. -/
def parseVacate (body : List Byte) : Option Msg :=
  match body with
  | [k] => (finOf 12 k).map .vacate
  | _ => none

/-- STATE's body. -/
def parseState (body : List Byte) : Option Msg :=
  match body with
  | [r, s, f] => do return .stateReport ⟨← takeFlag r, ← takeFlag s, ← takeFlag f⟩
  | _ => none

/-- The body of a cell's RELAY: a payload of 0 to 64 bytes. -/
def parseRelayCell (body : List Byte) : Option Msg :=
  match body with
  | k :: payload => if payload.length ≤ 64 then (finOf 12 k).map fun k => .relayFromCell k payload else none
  | [] => none

/-- OFFER's body. -/
def parseOffer (body : List Byte) : Option Msg :=
  match body with
  | n :: rest =>
    match takeHid rest with
    | some (h, []) => do return .offer (← finOf 192 n) (← nonZero h)
    | _ => none
  | [] => none

/-- END's body. -/
def parseEnd (body : List Byte) : Option Msg :=
  match body with
  | [n] => (finOf 192 n).map .endCall
  | _ => none

/-- The body of the exchange's RELAY. -/
def parseRelayExch (body : List Byte) : Option Msg :=
  match body with
  | n :: payload => if payload.length ≤ 64 then (finOf 192 n).map fun n => .relayFromExchange n payload else none
  | [] => none

/-- R43: the message a cell-link frame carries; none when it is malformed. -/
def parseFromCell (f : Frame) : Option Msg :=
  if f.kind = Kind.enrol then parseEnrol f.body
  else if f.kind = Kind.retire then parseHidOnly .retire f.body
  else if f.kind = Kind.camp then parseHidOnly .camp f.body
  else if f.kind = Kind.seize then parseSeize f.body
  else if f.kind = Kind.vacate then parseVacate f.body
  else if f.kind = Kind.state then parseState f.body
  else if f.kind = Kind.relayCell then parseRelayCell f.body
  else none

/-- R44: the message an exchange-link frame carries; none when it is malformed. -/
def parseFromExchange (f : Frame) : Option Msg :=
  if f.kind = Kind.offer then parseOffer f.body
  else if f.kind = Kind.endCall then parseEnd f.body
  else if f.kind = Kind.relayExch then parseRelayExch f.body
  else none

/-- R43, R44: the message a frame of a link's FIFO carries. -/
def parseFrom (l : LinkId) (f : Frame) : Option Msg :=
  match l with
  | .cell _ => parseFromCell f
  | .exchange => parseFromExchange f

/-- R45: the HID of a message that names a handset. -/
def Msg.hid : Msg → Option Hid
  | .enrol h _ | .retire h | .camp h | .seize _ h _ _ | .offer _ h => some h
  | .vacate _ | .stateReport _ | .relayFromCell _ _ | .endCall _ | .relayFromExchange _ _ => none

/-- R44: where the layout of a kind has a slot field, its value when it is 0 to 11 (log 10). -/
def slotField (f : Frame) : Option SlotId :=
  if f.kind = Kind.seize ∨ f.kind = Kind.vacate ∨ f.kind = Kind.relayCell ∨ f.kind = Kind.grant ∨ f.kind = Kind.deny
      ∨ f.kind = Kind.clear then f.body.head?.bind (finOf 12)
  else none

/-- Where the layout of a kind has its HID field. -/
def hidOffset (kind : Byte) : Option Nat :=
  if kind = Kind.enrol ∨ kind = Kind.retire ∨ kind = Kind.camp ∨ kind = Kind.enrolOk ∨ kind = Kind.enrolNo
      ∨ kind = Kind.summon then some 0
  else if kind = Kind.seize ∨ kind = Kind.grant ∨ kind = Kind.deny ∨ kind = Kind.offer ∨ kind = Kind.origin then some 1
  else none

/-- R44: where the layout of a kind has a HID field, its value when it is not 0 (log 10). -/
def hidField (f : Frame) : Option Hid := do
  let o ← hidOffset f.kind
  let (h, _) ← takeHid (f.body.drop o)
  nonZero h

/-! ### Management commands -/

def Cmd.readRecord : Byte := 0x01
def Cmd.writeRecord : Byte := 0x02
def Cmd.writeIfUnchanged : Byte := 0x03
def Cmd.deleteRecord : Byte := 0x04
def Cmd.clearSlot : Byte := 0x05
def Cmd.formatRegistry : Byte := 0x06
def Cmd.sweep : Byte := 0x07
def Cmd.readSweep : Byte := 0x08
def Cmd.loadProfile : Byte := 0x10
def Cmd.loadNeighbourRow : Byte := 0x11
def Cmd.loadZone : Byte := 0x12
def Cmd.loadCell : Byte := 0x13
def Cmd.loadTiming : Byte := 0x14
def Cmd.readTable : Byte := 0x15
def Cmd.cellControl : Byte := 0x20
def Cmd.linkTest : Byte := 0x21
def Cmd.readLink : Byte := 0x22
def Cmd.readCell : Byte := 0x23
def Cmd.readCall : Byte := 0x24
def Cmd.forceClear : Byte := 0x25
def Cmd.readCause : Byte := 0x30
def Cmd.setAttention : Byte := 0x31
def Cmd.readCapture : Byte := 0x32
def Cmd.setCapture : Byte := 0x33
def Cmd.restart : Byte := 0x3F

/-- The assigned command numbers. -/
def Cmd.assigned : List Byte :=
  [Cmd.readRecord, Cmd.writeRecord, Cmd.writeIfUnchanged, Cmd.deleteRecord, Cmd.clearSlot, Cmd.formatRegistry,
    Cmd.sweep, Cmd.readSweep, Cmd.loadProfile, Cmd.loadNeighbourRow, Cmd.loadZone, Cmd.loadCell, Cmd.loadTiming,
    Cmd.readTable, Cmd.cellControl, Cmd.linkTest, Cmd.readLink, Cmd.readCell, Cmd.readCall, Cmd.forceClear,
    Cmd.readCause, Cmd.setAttention, Cmd.readCapture, Cmd.setCapture, Cmd.restart]

/-! Each reader below gives none where R166 answers BAD_VALUE: the length is wrong or a value is out of range. -/

/-- The HID of READ-RECORD and DELETE-RECORD. -/
def readHidOperand (ops : List Byte) : Option Hid :=
  match takeHid ops with
  | some (h, []) => nonZero h
  | _ => none

/-- The operands of WRITE-RECORD and WRITE-IF-UNCHANGED. -/
def readWriteOperands (ops : List Byte) : Option (Hid × Standing × MobClass) :=
  match takeHid ops with
  | some (h, [st, cl]) => do
    let h ← nonZero h
    let barred ← takeFlag st
    let vehicle ← takeFlag cl
    return (h, if barred then .barred else .permitted, if vehicle then .vehicle else .standard)
  | _ => none

/-- The operands of CLEAR-SLOT (R8). -/
def readSlotOperands (ops : List Byte) : Option RecAddr :=
  match ops with
  | [b1, b0, k] =>
    if h : num2 b1 b0 < 2048 then (finOf 4 k).map fun k => ⟨⟨num2 b1 b0, h⟩, k⟩ else none
  | _ => none

/-- R17: a sweep's mode, first bucket and last bucket. -/
def readSweepOperands (ops : List Byte) : Option (SweepMode × BucketId × BucketId) :=
  match ops with
  | [mode, f1, f0, n1, n0] => do
    let mode ← if mode = 1 then some .stale else if mode = 2 then some .moved else none
    let first := num2 f1 f0
    let count := num2 n1 n0
    if h : first < 2048 ∧ 1 ≤ count ∧ count ≤ 2048 ∧ first + count ≤ 2048 then
      some (mode, ⟨first, h.1⟩, ⟨first + count - 1, by omega⟩)
    else none
  | _ => none

/-- R97: the ranges of the nine values. -/
def Profile.inRange (p : Profile) : Bool :=
  decide (1 ≤ p.w ∧ p.w ≤ 16 ∧ p.pe ≤ 4032 ∧ p.ps ≤ 1023 ∧ p.h ≤ 1023 ∧ 1 ≤ p.t ∧ p.t ≤ 64 ∧ p.f ≤ 4032
    ∧ 10 ≤ p.b ∧ p.b ≤ 1000 ∧ 2 ≤ p.l ∧ p.l ≤ 50 ∧ 1 ≤ p.m ∧ p.m ≤ 9)

/-- The operands of LOAD-PROFILE (R98). -/
def readProfileOperands (ops : List Byte) : Option (ProfileId × Profile) :=
  match ops with
  | [i, w, pe1, pe0, ps1, ps0, h1, h0, t, f1, f0, b1, b0, l, m] => do
    let i ← finOf 8 i
    let p : Profile := ⟨w.toNat, num2 pe1 pe0, num2 ps1 ps0, num2 h1 h0, t.toNat, num2 f1 f0, num2 b1 b0, l.toNat, m.toNat⟩
    if p.inRange then some (i, p) else none
  | _ => none

/-- A neighbour value: 0 to 7 a profile, FFh BARRED. -/
def neighbourValue (b : Byte) : Option (Option ProfileId) :=
  if b = 0xFF then some none else (finOf 8 b).map some

/-- The pairs of values of a neighbour row. -/
def readNeighbours : List Byte → Option (List NeighbourEntry)
  | [] => some []
  | a :: b :: rest => do
    let standard ← neighbourValue a
    let vehicle ← neighbourValue b
    let more ← readNeighbours rest
    return ⟨standard, vehicle⟩ :: more
  | [_] => none

/-- A list of `n` things as a table. -/
def tableOf {α : Type} (n : Nat) (l : List α) : Option (Table α n) :=
  if h : l.length = n then some ⟨l.toArray, by simpa using h⟩ else none

/-- The operands of LOAD-NEIGHBOUR-ROW (R95). -/
def readNeighbourOperands (ops : List Byte) : Option (CellId × Table NeighbourEntry 24) :=
  match ops with
  | s :: values => do
    let s ← finOf 24 s
    let row ← readNeighbours values
    let row ← tableOf 24 row
    return (s, row)
  | [] => none

/-- The cells of a zone list; one above 23 is out of range. -/
def readCells : List Byte → Option (List CellId)
  | [] => some []
  | b :: rest => do
    let c ← finOf 24 b
    let more ← readCells rest
    return c :: more

/-- The operands of LOAD-ZONE (R82). -/
def readZoneOperands (ops : List Byte) : Option (ZoneId × ZoneDesc × List CellId) :=
  match ops with
  | z :: first :: count :: cells => do
    let z ← finOf 16 z
    let cells ← readCells cells
    if first.toNat ≤ 127 ∧ count.toNat ≤ 16 ∧ first.toNat + count.toNat ≤ 128 ∧ cells.length = count.toNat ∧ cells.Nodup
    then some (z, ⟨first.toNat, count.toNat⟩, cells)
    else none
  | _ => none

/-- The operands of LOAD-CELL (R96). -/
def readCellOperands (ops : List Byte) : Option (CellId × CellConfig) :=
  match ops with
  | [c, z, st, ve] => do return (← finOf 24 c, ⟨← finOf 16 z, ← finOf 8 st, ← finOf 8 ve⟩)
  | _ => none

/-- R174: the ranges of the timing values. -/
def Timing.inRange (t : Timing) : Bool :=
  decide (100 ≤ t.stage1 ∧ t.stage1 ≤ 10000 ∧ 100 ≤ t.stage2 ∧ t.stage2 ≤ 10000 ∧ 100 ≤ t.stage3 ∧ t.stage3 ≤ 10000
    ∧ t.hold ≤ 10000 ∧ 50 ≤ t.clear ∧ t.clear ≤ 5000)

/-- The operands of LOAD-TIMING (R174). -/
def readTimingOperands (ops : List Byte) : Option Timing :=
  match ops with
  | [a1, a0, b1, b0, c1, c0, h1, h0, k1, k0] =>
    let t : Timing := ⟨num2 a1 a0, num2 b1 b0, num2 c1 c0, num2 h1 h0, num2 k1 k0⟩
    if t.inRange then some t else none
  | _ => none

/-- R175: what READ-TABLE names. -/
inductive TableItem where
  | profile (i : ProfileId)
  | neighbourRow (s : CellId)
  | zone (z : ZoneId)
  | cell (c : CellId)
  | timing
  deriving DecidableEq, Repr

/-- The operands of READ-TABLE. -/
def readTableOperands (ops : List Byte) : Option TableItem :=
  match ops with
  | [kind, index] =>
    if kind = 1 then (finOf 8 index).map .profile
    else if kind = 2 then (finOf 24 index).map .neighbourRow
    else if kind = 3 then (finOf 16 index).map .zone
    else if kind = 4 then (finOf 24 index).map .cell
    else if kind = 5 ∧ index = 0 then some .timing
    else none
  | _ => none

/-- The actions of CELL-CONTROL. -/
inductive CellAction where
  | enable
  | disable
  | loop
  deriving DecidableEq, Repr

/-- The operands of CELL-CONTROL (R138, R166). -/
def readControlOperands (ops : List Byte) : Option (CellId × CellAction) :=
  match ops with
  | [c, a] => do
    let c ← finOf 24 c
    let a ← if a = 1 then some .enable else if a = 2 then some .disable else if a = 3 then some .loop else none
    return (c, a)
  | _ => none

/-- The action byte of a CELL-CONTROL request, where the request has the length and an action of its own (log 18). -/
def controlAction (ops : List Byte) : Option CellAction :=
  match ops with
  | [_, a] => if a = 1 then some .enable else if a = 2 then some .disable else if a = 3 then some .loop else none
  | _ => none

/-- A request with one operand byte, a number below `n`. -/
def readOne (n : Nat) (ops : List Byte) : Option (Fin n) :=
  match ops with
  | [b] => finOf n b
  | _ => none

/-- The operands of LINK-TEST: a cell and n, 1 to 255. -/
def readTestOperands (ops : List Byte) : Option (CellId × Nat) :=
  match ops with
  | [c, n] => if n = 0 then none else (finOf 24 c).map fun c => (c, n.toNat)
  | _ => none

/-- The link a READ-LINK names: 0 to 23 for a cell, 24 for the exchange. -/
def linkNumber (i : Fin 25) : LinkId := if h : i.val < 24 then .cell ⟨i.val, h⟩ else .exchange

/-- R181: SET-ATTENTION's byte; bits 4 to 7 must be 0. -/
def readAttentionOperands (ops : List Byte) : Option Causes :=
  match ops with
  | [b] => if b.toNat < 16 then some ⟨b.getLsbD 0, b.getLsbD 1, b.getLsbD 2, b.getLsbD 3⟩ else none
  | _ => none

/-- R184: SET-CAPTURE's byte; bits 6 and 7 must be 0. -/
def readCaptureOperands (ops : List Byte) : Option CaptureEnables :=
  match ops with
  | [b] =>
    if b.toNat < 64 then
      some ⟨b.getLsbD 0, b.getLsbD 1, b.getLsbD 2, b.getLsbD 3, b.getLsbD 4, b.getLsbD 5⟩
    else none
  | _ => none

/-! ### Reply data -/

def LinkState.code : LinkState → Byte
  | .off => 0
  | .down => 1
  | .up => 2
  | .loop => 3

def CallState.code : CallState → Byte
  | .free => 0
  | .paging => 1
  | .active => 2
  | .bridged => 3
  | .holding => 4
  | .clearing => 5

def PageStage.code : PageStage → Byte
  | .stage1 => 1
  | .stage2 => 2
  | .stage3 => 3

def CaptureKind.code : CaptureKind → Byte
  | .legLost => 1
  | .callLost => 2
  | .handoverAbandoned => 3
  | .registryDamaged => 4
  | .protocol => 5
  | .exchangeLost => 6

/-- READ-RECORD data, 14 bytes. -/
def recordData (r : Record) (a : RecAddr) : List Byte :=
  hidBytes r.hid ++
    [if r.standing = .barred then 1 else 0, if r.mclass = .vehicle then 1 else 0, if r.attach = .attached then 1 else 0,
      cellByte r.location, flagByte r.seen, flagByte r.moved]
    ++ bytes2 a.bucket.val ++ [numByte a.slot]

/-- The nine values of a profile, sized as in LOAD-PROFILE, 14 bytes. -/
def profileData (p : Profile) : List Byte :=
  [BitVec.ofNat 8 p.w] ++ bytes2 p.pe ++ bytes2 p.ps ++ bytes2 p.h ++ [BitVec.ofNat 8 p.t] ++ bytes2 p.f ++ bytes2 p.b
    ++ [BitVec.ofNat 8 p.l, BitVec.ofNat 8 p.m]

/-- A neighbour value in its code. -/
def neighbourByte : Option ProfileId → Byte
  | some i => numByte i
  | none => 0xFF

/-- READ-CALL's 7 bytes of a leg at the count `now`; a leg that is none has cell FFh and every other byte 0 (R177). The
expected sequence of a leg that has none is sent as a free value (R158, log 28). -/
def legData (now : Time) : Option Leg → List Byte
  | none => [0xFF, 0, 0, 0, 0, 0, 0]
  | some g =>
    [numByte g.cell, numByte g.slot] ++ bytes2 g.q ++
      [flagByte g.expected.isSome, g.expected.getD (Config.absentSequence now g.cell g.slot), BitVec.ofNat 8 g.miss]

/-- READ-CALL's summoned set: cell c is bit c mod 8 of byte floor(c / 8). -/
def summonedData (cells : List CellId) : List Byte :=
  (List.range 3).map fun i => cells.eraseDups.foldl (fun b c => if c.val / 8 = i then b ||| (1 <<< (c.val % 8)) else b) 0

/-- A call's direction in READ-CALL's data. -/
def directionByte : Option Direction → Byte
  | none => 0
  | some .incoming => 1
  | some .outgoing => 2

/-- A call's class in READ-CALL's data. -/
def classByte : Option MobClass → Byte
  | some .vehicle => 1
  | _ => 0

/-- A page stage in READ-CALL's data. -/
def stageByte : Option PageStage → Byte
  | some st => st.code
  | none => 0

/-- READ-CALL data, 46 bytes, at the count `now`; `remaining` is the timer remaining (R177). -/
def callData (now : Time) (n : Circuit) (r : CallRecord) (remaining : Nat) : List Byte :=
  [numByte n, r.state.code] ++ hidBytes (r.hid.getD 0) ++
    [directionByte r.direction, classByte r.mclass]
    ++ legData now r.serving ++ legData now r.candidate ++ [cellByte r.lastServing, BitVec.ofNat 8 r.dwell,
      stageByte r.pageStage, cellByte r.pageCell]
    ++ summonedData r.summoned ++ bytes2 remaining ++ profileData r.profile

/-- A detail field's byte, 0 when none. -/
def optByte {n : Nat} : Option (Fin n) → Byte
  | some i => numByte i
  | none => 0

/-- A call state in READ-CAPTURE's data, 0 when none. -/
def callStateByte : Option CallState → Byte
  | some st => st.code
  | none => 0

/-- The present byte of READ-CAPTURE's data. -/
def CaptureDetail.present (d : CaptureDetail) : Byte :=
  flagByte d.circuit.isSome ||| (flagByte d.hid.isSome <<< 1) ||| (flagByte d.cell.isSome <<< 2)
    ||| (flagByte d.slot.isSome <<< 3) ||| (flagByte d.callState.isSome <<< 4) ||| (flagByte d.qServing.isSome <<< 5)
    ||| (flagByte d.qCandidate.isSome <<< 6) ||| (flagByte d.bucket.isSome <<< 7)

/-- READ-CAPTURE data, 22 bytes; a field whose present bit is 0 is sent as 0. -/
def captureData (c : Capture) : List Byte :=
  let d := c.detail
  [c.kind.code, flagByte c.overflowed] ++ timeBytes c.time ++ [d.present, optByte d.circuit] ++ hidBytes (d.hid.getD 0)
    ++ [optByte d.cell, BitVec.ofNat 8 (d.slot.getD 0), callStateByte d.callState]
    ++ bytes2 (d.qServing.getD 0) ++ bytes2 (d.qCandidate.getD 0) ++ bytes2 ((d.bucket.map Fin.val).getD 0)

end Sys2Proof.Machine
end

