-- ==== Sys2Proof/Machine/Memory.lean ====
section
/-! DEFINITION. Registry memory as bytes, the layout of a record in it (R1, R2, R162, R163), the bucket hash (R3) and
the examination of a bucket by a search (R4, R5). -/

namespace Sys2Proof.Machine

open Sys2Proof

/-! ### Bytes at addresses

A list of (address, byte) in one canonical form: addresses rising, inside the memory, no byte equal to what an
unlisted address reads as. -/

/-- What an address reads as that nothing has written (log 7). -/
def Memory.unlisted : Byte := 0

/-- The byte at an address. -/
def Memory.read : List Host.Cell → Nat → Byte
  | [], _ => Memory.unlisted
  | (k, v) :: rest, a => if k = a then v else Memory.read rest a

/-- The byte at an address replaced. -/
def Memory.write : List Host.Cell → Nat → Byte → List Host.Cell
  | [], a, v => if v = Memory.unlisted then [] else [(a, v)]
  | (k, w) :: rest, a, v =>
    if a < k then (if v = Memory.unlisted then (k, w) :: rest else (a, v) :: (k, w) :: rest)
    else if a = k then (if v = Memory.unlisted then rest else (a, v) :: rest)
    else (k, w) :: Memory.write rest a v

/-- The bytes from an address upward replaced. -/
def Memory.writeAll : List Host.Cell → Nat → List Byte → List Host.Cell
  | mem, _, [] => mem
  | mem, a, v :: vs => Memory.writeAll (Memory.write mem a v) (a + 1) vs

/-- Every listed address is at least `low` and inside the memory, addresses rise, and no listed byte is the unlisted
one. -/
def Memory.wfFrom : Nat → List Host.Cell → Bool
  | _, [] => true
  | low, (k, v) :: rest =>
    decide (low ≤ k) && decide (k < Config.memoryBytes) && decide (v ≠ Memory.unlisted) && Memory.wfFrom (k + 1) rest

/-- The canonical form of registry memory. -/
def Memory.wf (mem : List Host.Cell) : Bool := Memory.wfFrom 0 mem

/-! ### Records in memory -/

/-- The byte address of byte 0 of a registry slot (log 8). -/
def RecAddr.base (a : RecAddr) : Nat := 64 * a.bucket.val + 16 * a.slot.val

/-- R2: an empty record. -/
def Record.empty : Record :=
  { hid := 0, standing := .permitted, mclass := .standard, attach := .detached, location := none, seen := false
    moved := false }

def Standing.code : Standing → Byte
  | .permitted => 0
  | .barred => 1

def MobClass.code : MobClass → Byte
  | .standard => 0
  | .vehicle => 1

def AttachState.code : AttachState → Byte
  | .detached => 0
  | .attached => 1

/-- The record's location byte: 0 for none, 1 to 24 for cells 0 to 23. -/
def locationByte : Option CellId → Byte
  | none => 0
  | some c => BitVec.ofNat 8 (c.val + 1)

/-- Bytes 0 to 14 of a record (R163). -/
def Record.fields (r : Record) : List Byte :=
  hidBytes r.hid ++ [r.standing.code, r.mclass.code, r.attach.code, locationByte r.location, flagByte r.seen,
    flagByte r.moved, 0, 0, 0, 0]

/-- R2: the sum of the other 15 bytes mod 256. -/
def byteSum (bytes : List Byte) : Byte := bytes.foldl (· + ·) 0

/-- R163: the 16 bytes of a record write, the check computed afresh. -/
def Record.bytes (r : Record) : List Byte := r.fields ++ [byteSum r.fields]

/-- R162: attach state and location, read together. -/
def readLocation (attach location : Byte) : Option CellId :=
  if attach = 0 then none
  else if h : 1 ≤ location.toNat ∧ location.toNat ≤ 24 then some ⟨location.toNat - 1, by omega⟩
  else none

/-- R2, R162: what a slot of 16 bytes holds. -/
inductive SlotView where
  | damaged
  | empty
  | occupied (r : Record)
  deriving DecidableEq, Repr

/-- R162: the fields of a slot whose check is good. -/
def readFields (bytes : List Byte) : Record :=
  match bytes with
  | b0 :: b1 :: b2 :: b3 :: b4 :: st :: cl :: att :: loc :: seen :: moved :: _ =>
    let location := readLocation att loc
    { hid := hidOf b0 b1 b2 b3 b4
      standing := if st = 0 then .permitted else .barred
      mclass := if cl = 0 then .standard else .vehicle
      attach := if location.isSome then .attached else .detached
      location
      seen := seen != 0
      moved := moved != 0 }
  | _ => Record.empty

/-- The 16 bytes of a registry slot. -/
def slotBytes (mem : List Host.Cell) (a : RecAddr) : List Byte :=
  (List.range 16).map fun i => Memory.read mem (a.base + i)

/-- R2: the condition of a slot, and its fields. -/
def slotView (mem : List Host.Cell) (a : RecAddr) : SlotView :=
  let bytes := slotBytes mem a
  if bytes.drop 15 ≠ [byteSum (bytes.take 15)] then .damaged
  else
    let r := readFields bytes
    if r.hid = 0 then .empty else .occupied r

/-- R1, R163: the memory after a whole-record write. -/
def writeRecord (mem : List Host.Cell) (a : RecAddr) (r : Record) : List Host.Cell :=
  Memory.writeAll mem a.base r.bytes

/-- R30: the HID a slot holds, if it is occupied (log 20). -/
def heldHid (mem : List Host.Cell) (a : RecAddr) : Option Hid :=
  match slotView mem a with
  | .occupied r => some r.hid
  | _ => none

/-! ### Bucket hash and examination -/

/-- R3: the primary bucket of a HID. -/
def primaryBucket (h : Hid) : BucketId :=
  let n := h.toNat
  ⟨(n % 2048 + n / 2048 % 2048 + n / 2 ^ 22 % 2048 + n / 2 ^ 33) % 2048, Nat.mod_lt _ (by decide)⟩

/-- R3: the alternate bucket of a HID. -/
def alternateBucket (h : Hid) : BucketId :=
  ⟨((primaryBucket h).val + Config.alternateStep) % 2048, Nat.mod_lt _ (by decide)⟩

/-- R3, R23: the cache set of a HID. -/
def cacheSetOf (h : Hid) : SetId := ⟨(primaryBucket h).val % 64, Nat.mod_lt _ (by decide)⟩

/-- What the examination of one bucket gives: a match, and the first damaged slot passed so far. -/
structure Scan where
  found : Option (RecAddr × Record)
  damaged : Option RecAddr
  deriving DecidableEq, Repr

/-- R4: the slots of a bucket examined in order, stopping at the first occupied slot with the HID sought. -/
def scanSlots (mem : List Host.Cell) (h : Hid) (b : BucketId) : List RegSlot → Option RecAddr → Scan
  | [], d => ⟨none, d⟩
  | k :: ks, d =>
    match slotView mem ⟨b, k⟩ with
    | .damaged => scanSlots mem h b ks (d <|> some ⟨b, k⟩)
    | .empty => scanSlots mem h b ks d
    | .occupied r => if r.hid = h then ⟨some (⟨b, k⟩, r), d⟩ else scanSlots mem h b ks d

/-- R4: one bucket examined as it stands at the read's completion. -/
def scanBucket (mem : List Host.Cell) (h : Hid) (b : BucketId) (d : Option RecAddr) : Scan :=
  scanSlots mem h b (ascending 4) d

/-- R7: the first empty slot of a bucket in slot order. -/
def firstEmpty (mem : List Host.Cell) (b : BucketId) : Option RegSlot :=
  (ascending 4).find? fun k => slotView mem ⟨b, k⟩ = .empty

/-- R18: the four slot images a sweep keeps of a bucket. -/
def bucketImage (mem : List Host.Cell) (b : BucketId) : Table Record 4 :=
  Vector.ofFn fun k => readFields (slotBytes mem ⟨b, k⟩)

end Sys2Proof.Machine
end

