-- ==== Sys2Proof/Machine/Cache.lean ====
section
/-! DEFINITION. The Location Cache (02_location_cache.md): lookup by HID, the LRU mark, fills, and the search by record
address. -/

namespace Sys2Proof.Machine

open Sys2Proof

/-- The way not named. -/
def Way.other : Way → Way
  | .way0 => .way1
  | .way1 => .way0

/-- The entry in a way, if it is valid. -/
def CacheSet.get (s : CacheSet) : Way → Option CacheEntry
  | .way0 => s.way0
  | .way1 => s.way1

/-- A way of a set replaced. -/
def CacheSet.set (s : CacheSet) (w : Way) (e : Option CacheEntry) : CacheSet :=
  match w with
  | .way0 => { s with way0 := e }
  | .way1 => { s with way1 := e }

/-- The way holds a valid entry for the HID. -/
def CacheSet.holds (s : CacheSet) (h : Hid) (w : Way) : Bool :=
  match s.get w with
  | some e => e.record.hid == h
  | none => false

/-- R23: the way in which a lookup by HID hits. -/
def CacheSet.hit (s : CacheSet) (h : Hid) : Option Way :=
  if s.holds h .way0 then some .way0 else if s.holds h .way1 then some .way1 else none

/-- R24: the mark set to the way not used. -/
def CacheSet.used (s : CacheSet) (w : Way) : CacheSet := { s with lru := w.other }

/-- R24: the way a fill uses: an invalid way if there is one, way 0 if both are, and otherwise the way the mark names. -/
def CacheSet.fillWay (s : CacheSet) : Way :=
  if s.way0.isNone then .way0 else if s.way1.isNone then .way1 else s.lru

/-- R24: a set after a fill. -/
def CacheSet.fill (s : CacheSet) (e : CacheEntry) : CacheSet :=
  let w := s.fillWay
  (s.set w (some e)).used w

/-- R23: the valid entry for a HID. -/
def State.entryOf (s : State) (h : Hid) : Option CacheEntry :=
  let set := s.cache.at (cacheSetOf h)
  match set.hit h with
  | some w => set.get w
  | none => none

/-- R24: the mark moved at a hit. -/
def State.touch (s : State) (h : Hid) : State :=
  let set := s.cache.at (cacheSetOf h)
  match set.hit h with
  | some w => { s with cache := s.cache.put (cacheSetOf h) (set.used w) }
  | none => s

/-- R32: the record of the valid entry for a HID replaced. -/
def State.setEntry (s : State) (h : Hid) (r : Record) : State :=
  let set := s.cache.at (cacheSetOf h)
  match set.hit h with
  | some w => { s with cache := s.cache.put (cacheSetOf h) (set.set w ((set.get w).map fun e => { e with record := r })) }
  | none => s

/-- R28: a found record installed. -/
def State.installEntry (s : State) (e : CacheEntry) : State :=
  let i := cacheSetOf e.record.hid
  { s with cache := s.cache.put i ((s.cache.at i).fill e) }

/-- An entry changed, or invalidated by `none`, if it names the record address. -/
def changeIfNames (a : RecAddr) (f : CacheEntry → Option CacheEntry) (e : Option CacheEntry) : Option CacheEntry :=
  match e with
  | some e => if e.addr = a then f e else some e
  | none => none

/-- R23: the entries that name a record address changed; the marks stay as they stand. -/
def State.modEntriesAt (s : State) (a : RecAddr) (f : CacheEntry → Option CacheEntry) : State :=
  { s with cache := s.cache.map fun set =>
      { set with way0 := changeIfNames a f set.way0, way1 := changeIfNames a f set.way1 } }

/-- The set's entry that names a record address. -/
def CacheSet.naming (s : CacheSet) (a : RecAddr) : Option CacheEntry :=
  (s.way0.filter fun e => e.addr = a) <|> (s.way1.filter fun e => e.addr = a)

/-- R23: the valid entry that names a record address. -/
def State.entryAt (s : State) (a : RecAddr) : Option CacheEntry :=
  s.cache.toList.findSome? fun set => set.naming a

end Sys2Proof.Machine
end

