-- ==== Sys2Proof/Machine/Port.lean ====
section
/-! DEFINITION. The memory port (01_handset_registry.md): the write-through queue (R14, R16), the search contexts'
phases (R6), the arbiter (R12, R13), and what a grant to each requester starts, with the composition of management
writes (R9) and of sweep writes (R19). -/

namespace Sys2Proof.Machine

open Sys2Proof

/-! ### Write-through queue -/

/-- R16: the queue holds a write to the bucket. -/
def hasWriteTo (writes : List QueuedWrite) (b : BucketId) : Bool := writes.any fun w => w.addr.bucket == b

/-- R14: the queued write for a record. -/
def queuedAt (writes : List QueuedWrite) (a : RecAddr) : Option QueuedWrite := writes.find? fun w => w.addr == a

/-- R14: a write replaces one for the same record in place, and otherwise joins at the tail. -/
def joinWrite (writes : List QueuedWrite) (a : RecAddr) (r : Record) : List QueuedWrite :=
  if (queuedAt writes a).isSome then writes.map fun w => if w.addr = a then ⟨a, r⟩ else w else writes ++ [⟨a, r⟩]

/-- R8, R9: any write for a record removed. -/
def dropWrite (writes : List QueuedWrite) (a : RecAddr) : List QueuedWrite := writes.filter fun w => w.addr ≠ a

/-- R9, R36: the image of any queued write for a record changed. -/
def changeWrite (writes : List QueuedWrite) (a : RecAddr) (f : Record → Record) : List QueuedWrite :=
  writes.map fun w => if w.addr = a then { w with image := f w.image } else w

/-- R15: the queue has room for a write to the record, or holds one. -/
def writeFits (writes : List QueuedWrite) (a : RecAddr) : Bool :=
  writes.length < Config.writeQueueSize || (queuedAt writes a).isSome

/-! ### Search contexts -/

/-- R4: the bucket a search reads next. -/
def Search.bucket (x : Search) : BucketId := if x.alternate then alternateBucket x.hid else primaryBucket x.hid

/-- R6: the context whose read holds the port. -/
def Registry.reading (r : Registry) : Option ContextId :=
  match r.port with
  | some (.searchRead c _) => some c
  | _ => none

/-- R6: the context holds a search whose next read is not on the port and not held back by R16. -/
def Registry.contextReady (r : Registry) (c : ContextId) : Bool :=
  match r.contexts.at c with
  | some x => r.reading != some c && !hasWriteTo r.writes x.bucket
  | none => false

/-- R6: the READY contexts in order. Those READY when the event began keep their order; those that became READY in it
follow in the order their searches were first started (log 11). -/
def Registry.refresh (r : Registry) (before : List ContextId) : Registry :=
  { r with readyOrder := before.filter r.contextReady ++
      r.startOrder.filter fun c => r.contextReady c && !before.contains c }

/-! ### Who waits -/

/-- The port carries an operation of M. -/
def PortOp.ofM : PortOp → Bool
  | .mgmtRead _ | .mgmtWrite _ _ | .emptyWrite _ => true
  | _ => false

/-- The port carries an operation of B. -/
def PortOp.ofB : PortOp → Bool
  | .formatWrite _ | .sweepRead _ | .sweepWrite _ _ => true
  | _ => false

/-- The HID a memory request searches for. -/
def MgmtJob.hid : MgmtJob → Hid
  | .read h | .write h _ _ | .delete h => h
  | .clear => 0

/-- R12, R16: M has an operation to present that is not held back. -/
def State.waitsM (s : State) : Bool :=
  match s.mgmt.op with
  | none => false
  | some op =>
    !(s.reg.port.any PortOp.ofM) &&
    match op.stage with
    | .primary => !hasWriteTo s.reg.writes (primaryBucket op.job.hid)
    | .alternate _ => !hasWriteTo s.reg.writes (alternateBucket op.job.hid)
    | .write _ _ _ => true

/-- R12, R16: B has an operation to present that is not held back. Format writes are never held. -/
def State.waitsB (s : State) : Bool :=
  !(s.reg.port.any PortOp.ofB) &&
  (s.reg.format == .formatting ||
    match s.reg.sweep with
    | .running _ b _ .reading => !hasWriteTo s.reg.writes b
    | .running _ b _ (.writing _ todo) => !todo.isEmpty && !hasWriteTo s.reg.writes b
    | _ => false)

/-- R12: the requester is waiting. -/
def State.waits (s : State) : Requester → Bool
  | .w => !s.reg.writes.isEmpty
  | .s => !s.reg.readyOrder.isEmpty
  | .m => s.waitsM
  | .b => s.waitsB

/-! ### The arbiter -/

/-- R13: the pass count of a requester. -/
def PassCounts.of (p : PassCounts) : Requester → Nat
  | .w => p.w
  | .s => p.s
  | .m => p.m
  | .b => p.b

/-- R12: the requesters, first priority first. -/
def priorityOrder : List Requester := [.w, .s, .m, .b]

/-- R12, R13: the requester the next grant goes to: the overdue one of highest priority, and otherwise the waiting one
of highest priority. -/
def State.chosen (s : State) : Option Requester :=
  match priorityOrder.find? fun r => s.waits r && decide (Config.overdue ≤ s.reg.pass.of r) with
  | some r => some r
  | none => priorityOrder.find? s.waits

/-- R13: one pass count at a grant. -/
def State.passAfterGrant (s : State) (granted r : Requester) : Nat :=
  if r = granted then 0 else if s.waits r then min (s.reg.pass.of r + 1) Config.overdue else 0

/-- R13: the pass counts at a grant. -/
def State.countGrant (s : State) (granted : Requester) : State :=
  { s with reg := { s.reg with pass :=
      ⟨s.passAfterGrant granted .w, s.passAfterGrant granted .s, s.passAfterGrant granted .m,
        s.passAfterGrant granted .b⟩ } }

/-- R13: the count of a requester that has ceased to be waiting returns to 0. -/
def State.dropPasses (s : State) : State :=
  let keep (r : Requester) : Nat := if s.waits r then s.reg.pass.of r else 0
  { s with reg := { s.reg with pass := ⟨keep .w, keep .s, keep .m, keep .b⟩ } }

/-! ### What a grant starts -/

/-- R7: the change a management write makes to a found record. -/
def Record.managed (r : Record) (standing : Standing) (mclass : MobClass) : Record :=
  match standing with
  | .permitted => { r with standing, mclass }
  | .barred => { r with standing, mclass, attach := .detached, location := none }

/-- R7: an inserted record. -/
def Record.inserted (h : Hid) (standing : Standing) (mclass : MobClass) : Record :=
  { Record.empty with hid := h, standing, mclass }

/-- R9: the image a management write is composed from: the queued write, else the valid cache entry, else the image the
search delivered. -/
def State.baseImage (s : State) (a : RecAddr) (searched : Record) : Record :=
  match queuedAt s.reg.writes a with
  | some w => w.image
  | none =>
    match s.entryAt a with
    | some e => e.record
    | none => searched

/-- R7, R8, R9: the operation with which a management write goes on the port. -/
def State.composeWrite (s : State) (job : MgmtJob) (a : RecAddr) (image : Record) (insert : Bool) : PortOp :=
  match job with
  | .write h standing mclass =>
    .mgmtWrite a (if insert then .inserted h standing mclass else (s.baseImage a image).managed standing mclass)
  | .read _ | .delete _ | .clear => .emptyWrite a

/-- R11: the registry slot at a format position. -/
def formatAddr (pos : Nat) : RecAddr :=
  { bucket := ⟨pos / 4 % 2048, Nat.mod_lt _ (by decide)⟩, slot := ⟨pos % 4, Nat.mod_lt _ (by decide)⟩ }

/-- R19, R36: the mark a sweep clears. -/
def Record.clearMark (r : Record) : SweepMode → Record
  | .stale => { r with seen := false }
  | .moved => { r with moved := false }

/-- R20: the sweep ends with a resume point, and the result list becomes unread. -/
def State.sweepEnd (s : State) (resume : Option BucketId) : State :=
  { s with reg := { s.reg with sweep := .ended resume }, mgmt := { s.mgmt with unread := true } }

/-- R20: the sweep after a bucket is done: it ends, or goes on to the next bucket. -/
def State.sweepOn (s : State) (mode : SweepMode) (b last : BucketId) : State :=
  if b = last then s.sweepEnd none
  else if s.mgmt.sweepList.length = Config.sweepListSize then s.sweepEnd (some (b + 1))
  else { s with reg := { s.reg with sweep := .running mode (b + 1) last .reading } }

/-- R19: the sweep after one of its writes has completed or been skipped. -/
def State.sweepWritten (s : State) (mode : SweepMode) (b last : BucketId) (image : Table Record 4)
    (todo : List SweepWrite) : State :=
  match todo with
  | [] => s.sweepOn mode b last
  | _ :: _ => { s with reg := { s.reg with sweep := .running mode b last (.writing image todo) } }

/-- An operation put on the port. -/
def State.setPort (s : State) (op : Option PortOp) : State := { s with reg := { s.reg with port := op } }

/-- R14: a grant to W. -/
def State.grantW (s : State) : State :=
  match s.reg.writes with
  | w :: rest => { s with reg := { s.reg with writes := rest, port := some (.writeThrough w.addr w.image) } }
  | [] => s

/-- R6: a grant to S: the read of the context READY longest. -/
def State.grantS (s : State) : State :=
  match s.reg.readyOrder with
  | c :: _ =>
    match s.reg.contexts.at c with
    | some x => s.setPort (some (.searchRead c x.bucket))
    | none => s
  | [] => s

/-- R7, R8, R9: a grant to M. A queued write for the record is removed at the grant of a write. -/
def State.grantM (s : State) : State :=
  match s.mgmt.op with
  | none => s
  | some op =>
    match op.stage with
    | .primary => s.setPort (some (.mgmtRead (primaryBucket op.job.hid)))
    | .alternate _ => s.setPort (some (.mgmtRead (alternateBucket op.job.hid)))
    | .write a image insert =>
      { s with reg := { s.reg with
          port := some (s.composeWrite op.job a image insert)
          writes := dropWrite s.reg.writes a } }

/-- R11, R18, R19: a grant to B. A sweep write whose slot now holds another HID is skipped, and no operation begins
(log 12). -/
def State.grantB (s : State) : State :=
  if s.reg.format = .formatting then s.setPort (some (.formatWrite (formatAddr s.reg.formatPos)))
  else
    match s.reg.sweep with
    | .running _ b _ .reading => s.setPort (some (.sweepRead b))
    | .running mode b last (.writing image (w :: todo)) =>
      let now := image.at w.slot
      if now.hid = w.hid then s.setPort (some (.sweepWrite ⟨b, w.slot⟩ (now.clearMark mode)))
      else s.sweepWritten mode b last image todo
    | _ => s

/-- What a grant starts. -/
def State.grant (s : State) : Requester → State
  | .w => s.grantW
  | .s => s.grantS
  | .m => s.grantM
  | .b => s.grantB

/-- R12: grants made while the port is idle and a requester waits. More than one is made only past skipped sweep
writes, of which a bucket has at most 4. -/
def State.grants (before : List ContextId) : Nat → State → State
  | 0, s => s
  | n + 1, s =>
    if s.reg.port.isSome then s
    else
      match s.chosen with
      | none => s
      | some r =>
        let t := (s.countGrant r).grant r
        State.grants before n { t with reg := t.reg.refresh before }

/-- R6, R12, R13: the port at the end of an event that began in `before`: contexts become READY, an idle port is
granted, and the counts of requesters that do not wait are 0. -/
def State.settlePort (s before : State) : State :=
  let order := before.reg.readyOrder
  (State.grants order 8 { s with reg := s.reg.refresh order }).dropPasses

end Sys2Proof.Machine
end

