-- ==== Sys2Proof/Machine/Parking.lean ====
section
/-! DEFINITION. The lookup parking and its groups (R26 to R29), the taking and freeing of search contexts, and the stale
and reopen tests (R29, R30). -/

namespace Sys2Proof.Machine

open Sys2Proof

/-- R26: a group that asks for a context. -/
def GroupPhase.asks : GroupPhase → Bool
  | .awaiting | .reopened => true
  | .searching _ | .ready _ => false

/-- The group of a HID. -/
def SigProc.groupOf (p : SigProc) (h : Hid) : Option Group := p.groups.find? fun g => g.hid == h

/-- R26: the HID of the group that asks for a context and whose oldest parked message arrived first. -/
def SigProc.firstAsking (p : SigProc) : Option Hid :=
  (p.parked.find? fun m => p.groups.any fun g => g.hid == m.hid && g.phase.asks).map Parked.hid

/-- A group's phase changed in its place. -/
def SigProc.setPhase (p : SigProc) (h : Hid) (phase : GroupPhase) : SigProc :=
  { p with groups := p.groups.map fun g => if g.hid = h then ⟨h, phase⟩ else g }

/-- R27: a group becomes READY, behind the groups that became READY before it. -/
def SigProc.setReady (p : SigProc) (h : Hid) (found : Bool) : SigProc :=
  { p with groups := p.groups.filter (fun g => g.hid ≠ h) ++ [⟨h, .ready found⟩] }

/-- R27: a message joins parking at its tail. -/
def SigProc.park (p : SigProc) (m : Parked) : SigProc := { p with parked := p.parked ++ [m] }

/-- R28: the oldest message of a HID leaves parking, and its group ceases to exist with its last message. -/
def SigProc.takeOldest (p : SigProc) (h : Hid) : SigProc :=
  let parked := p.parked.eraseP fun m => m.hid == h
  { p with parked, groups := if parked.any fun m => m.hid == h then p.groups else p.groups.filter fun g => g.hid ≠ h }

/-- R6: a FREE context; the lowest-numbered (log 22). -/
def Registry.freeContext (r : Registry) : Option ContextId := (ascending 4).find? fun c => (r.contexts.at c).isNone

/-- R6, R26: a context takes up a search at its primary read. -/
def Registry.startSearch (r : Registry) (c : ContextId) (h : Hid) : Registry :=
  { r with contexts := r.contexts.put c (some ⟨h, false, none, false⟩), startOrder := r.startOrder.erase c ++ [c] }

/-- R6: a context becomes FREE. -/
def Registry.freeUp (r : Registry) (c : ContextId) : Registry :=
  { r with contexts := r.contexts.put c none, startOrder := r.startOrder.erase c }

/-- R26: while a context is FREE and a group asks for one, the group that comes first takes it; while the registry is
not FORMATTED it takes none and becomes READY with NOT FOUND. -/
def State.assign : Nat → State → State
  | 0, s => s
  | n + 1, s =>
    match s.reg.freeContext, s.sig.firstAsking with
    | some c, some h =>
      State.assign n
        (if s.reg.format = .formatted then
          { s with reg := s.reg.startSearch c h, sig := s.sig.setPhase h (.searching c) }
        else { s with sig := s.sig.setReady h false })
    | _, _ => s

/-- R26: contexts given out as far as they go; parking holds at most 8 groups. -/
def State.assignContexts (s : State) : State := State.assign Config.parkingSize s

/-- R28, R6: a search completes: its context becomes FREE and its group READY. -/
def State.searchDone (s : State) (c : ContextId) (h : Hid) (found : Bool) : State :=
  { s with reg := s.reg.freeUp c, sig := s.sig.setReady h found }.assignContexts

/-- R30: the search is for one of the HIDs of a completed write. -/
def Search.markStale (hids : List Hid) (x : Search) : Search := if hids.contains x.hid then { x with stale := true } else x

/-- R29: a READY group with outcome NOT FOUND for one of the HIDs becomes REOPENED. -/
def Group.reopenFor (hids : List Hid) (g : Group) : Group :=
  if g.phase = .ready false ∧ hids.contains g.hid then { g with phase := .reopened } else g

/-- R29, R30: a completed management write, empty write or sweep write reported to the cache, with the HIDs the slot
held before and holds after. -/
def State.reportWrite (s : State) (hids : List Hid) : State :=
  { s with
    reg := { s.reg with contexts := s.reg.contexts.map (Option.map (Search.markStale hids)) }
    sig := { s.sig with groups := s.sig.groups.map (Group.reopenFor hids) } }.assignContexts

/-- R168: the watch cleared if it names the record address. -/
def State.clearWatchAt (s : State) (a : RecAddr) : State :=
  { s with mgmt := { s.mgmt with watch := s.mgmt.watch.filter fun w => w.addr ≠ a } }

/-- R32, R14, R168: a changed entry installed, its write-through queued, and the watch cleared. -/
def State.changeEntry (s : State) (h : Hid) (a : RecAddr) (r : Record) : State :=
  let s := s.setEntry h r
  { s with reg := { s.reg with writes := joinWrite s.reg.writes a r } }.clearWatchAt a

end Sys2Proof.Machine
end

