-- ==== Sys2Proof/Machine/Intake.lean ====
section
/-! DEFINITION. The intake of the Signalling Processor (03_enrolment_and_location.md): the work it takes next (R40,
R41), the lookup of a message that names a handset (R25, R28), the change through the entry, and the hold of a message
and its release (R15). -/

namespace Sys2Proof.Machine

open Sys2Proof

/-! ### The next work -/

/-- R40: the work the Signalling Processor takes next. A held message is no work to be taken: it is released inside the
event that makes room for it (R15, log 6). -/
inductive Work where
  | parked (g : Group) (m : Parked)
  | frame (l : LinkId) (f : Frame)
  deriving DecidableEq, Repr

/-- R41: the links in round-robin order. -/
def links : List LinkId := (ascending 24).map .cell ++ [.exchange]

/-- R41: how many links stand before and at a link. -/
def placesTo : LinkId → Nat
  | .cell c => c.val + 1
  | .exchange => 25

/-- R41: the links in the order considered: from the one after the intake position to the position itself. -/
def linksAfter (p : LinkId) : List LinkId := links.drop (placesTo p) ++ links.take (placesTo p)

/-- R41: the oldest message of the first link whose FIFO is not empty. -/
def State.nextFrame (s : State) : Option (LinkId × Frame) :=
  (linksAfter s.sig.intake).findSome? fun l => (s.unit l).rxFifo.head?.map fun f => (l, f)

/-- R28: the group that became READY first. -/
def SigProc.firstReady (p : SigProc) : Option Group :=
  p.groups.find? fun g => match g.phase with
    | .ready _ => true
    | _ => false

/-- R42: intake is stopped while parking is full. -/
def SigProc.parkingFull (p : SigProc) : Bool := decide (Config.parkingSize ≤ p.parked.length)

/-- R40: the first source that has something to give; nothing is taken while a message is held. -/
def State.work (s : State) : Option Work :=
  if s.sig.held.isSome then none
  else
    match s.sig.firstReady with
    | some g => (s.sig.parked.find? fun m => m.hid == g.hid).map (.parked g)
    | none => if s.sig.parkingFull then none else s.nextFrame.map fun lf => .frame lf.1 lf.2

/-- R41: the oldest message of a link leaves its FIFO, and the intake position names the link. -/
def State.takeFrame (s : State) (l : LinkId) : State :=
  let s := s.modUnit l fun u => { u with rxFifo := u.rxFifo.tail }
  { s with sig := { s.sig with intake := l } }

/-! ### Acting on a message -/

/-- What acting on a message gives: the state, with the cache not yet touched, and the record of the entry as the
action leaves it. -/
structure Acted where
  state : State
  record : Option Record
  deriving DecidableEq, Repr

/-- The action of a message kind: from the state, the link, the message and the record found. -/
abbrev Act := State → LinkId → Msg → Option Record → Acted

/-- R32, R15: a message acted on with its valid entry. A change goes to the entry and one write-through is queued; when
that write does not fit, nothing is done and the message is held. -/
def State.actWith (s : State) (act : Act) (l : LinkId) (m : Msg) (e : CacheEntry) : State :=
  let a := act s l m (some e.record)
  match a.record with
  | none => a.state
  | some r =>
    if r = e.record then a.state
    else if writeFits s.reg.writes e.addr then a.state.changeEntry e.record.hid e.addr r
    else { s with sig := { s.sig with held := some { link := l, msg := m } } }

/-- A message acted on as NOT FOUND. -/
def State.actWithout (s : State) (act : Act) (l : LinkId) (m : Msg) : State := (act s l m none).state

/-- R25, R26: a message that misses forms a new group and asks for a context. -/
def State.newGroup (s : State) (h : Hid) (l : LinkId) (m : Msg) : State :=
  let p := s.sig.park { hid := h, link := l, msg := m }
  let t : State := { s with sig := { p with groups := p.groups ++ [⟨h, .awaiting⟩] } }
  t.assignContexts

/-- R25: the lookup of a message that names a HID. -/
def State.lookup (s : State) (act : Act) (l : LinkId) (m : Msg) (h : Hid) : State :=
  if (s.sig.groupOf h).isSome then { s with sig := s.sig.park { hid := h, link := l, msg := m } }
  else if s.reg.format ≠ .formatted then s.actWithout act l m
  else
    match s.entryOf h with
    | some e => (s.touch h).actWith act l m e
    | none => s.newGroup h l m

/-- R28, R29: a READY message taken from parking. -/
def State.takeParked (s : State) (act : Act) (g : Group) (m : Parked) : State :=
  let taken : State := { s with sig := s.sig.takeOldest g.hid }
  if g.phase = .ready true then
    match s.entryOf g.hid with
    | some e => (taken.touch g.hid).actWith act m.link m.msg e
    | none => { s with sig := s.sig.setPhase g.hid .reopened }.assignContexts
  else taken.actWithout act m.link m.msg

/-- R15, R40: the write-through queue has room, or holds a write for the record of the held message. -/
def State.releasable (s : State) (m : Held) : Bool :=
  decide (s.reg.writes.length < Config.writeQueueSize) ||
    match m.msg.hid.bind s.entryOf with
    | some e => (queuedAt s.reg.writes e.addr).isSome
    | none => false

/-- R15: a held message released: acted on with its entry as that stands, or looked up afresh (log 19). -/
def State.release (s : State) (act : Act) (m : Held) : State :=
  let s : State := { s with sig := { s.sig with held := none } }
  match m.msg.hid with
  | none => s.actWithout act m.link m.msg
  | some h =>
    match s.entryOf h with
    | some e => s.actWith act m.link m.msg e
    | none => s.lookup act m.link m.msg h

/-- R45: a message taken from a link is looked up, or goes straight to its owner. -/
def State.dispatch (s : State) (act : Act) (l : LinkId) (m : Msg) : State :=
  match m.hid with
  | some h => s.lookup act l m h
  | none => s.actWithout act l m

/-- One turn of the Signalling Processor, if the work it takes next is a message that passes the test (log 5). -/
def State.turn (s : State) (mine : Msg → Bool) (act : Act) : Option State :=
  match s.work with
  | some (.parked g m) => if mine m.msg then some (s.takeParked act g m) else none
  | some (.frame l f) =>
    match parseFrom l f with
    | some m => if mine m then some ((s.takeFrame l).dispatch act l m) else none
    | none => none
  | none => none

/-- R43, R44: the discard of a malformed message, if it is the work taken next. -/
def State.discardMalformed (s : State) : Option State :=
  match s.work with
  | some (.frame l f) =>
    match parseFrom l f with
    | some _ => none
    | none => some ((s.takeFrame l).protocolError l (slotField f) (hidField f))
  | _ => none

end Sys2Proof.Machine
end

