-- ==== Sys2Proof/Machine/Paging.lean ====
section
/-! DEFINITION. The Paging Unit (05_paging.md): the cells of a stage, the three stages and the unanswered page. -/

namespace Sys2Proof.Machine

open Sys2Proof

/-- R81: the list of a zone. -/
def Tables.zoneCells (t : Tables) (z : ZoneId) : List CellId :=
  let d := t.zones.at z
  (List.range d.count).filterMap fun i =>
    if h : d.first + i < 128 then some (t.zoneStore.at ⟨d.first + i, h⟩) else none

/-- R86, R87, R88: the cells a stage chooses from a list: each whose link is UP and which is not summoned yet, at its
first appearance. -/
def State.chooseCells (s : State) (summoned : List CellId) (list : List CellId) : List CellId :=
  list.foldl (fun chosen c =>
    if s.cellUp c && !summoned.contains c && !chosen.contains c then chosen ++ [c] else chosen) []

/-- R85, step 3: SUMMON placed for each chosen cell. -/
def State.summon (s : State) (n : Circuit) (chosen : List CellId) : State :=
  let h := (s.callOf n).hid.getD 0
  chosen.foldl (fun s c => s.placeSig c (summonFrame h n)) s

/-- R85: a stage begins with the cells of a list. `otherwise` is what follows when it chooses none. -/
def State.beginStage (s : State) (n : Circuit) (stage : PageStage) (list : List CellId) (ms : Nat)
    (otherwise : State) : State :=
  let r := s.callOf n
  match s.chooseCells r.summoned list with
  | [] => otherwise
  | chosen =>
    (s.summon n chosen).modCall n fun r =>
      { r with pageStage := some stage, summoned := r.summoned ++ chosen, stageTimer := some (s.after ms) }

/-- R89: the page ends unanswered. -/
def State.pageUnanswered (s : State) (n : Circuit) : State := (s.placeExch (endedFrame n .unreachable)).toFree n

/-- R88: stage 3: every cell, in ascending order. -/
def State.stage3 (s : State) (n : Circuit) : State :=
  s.beginStage n .stage3 (ascending 24) s.tables.timing.stage3 (s.pageUnanswered n)

/-- R87: stage 2: the list of the zone of the page cell. -/
def State.stage2 (s : State) (n : Circuit) : State :=
  let list := match (s.callOf n).pageCell with
    | some c => s.tables.zoneCells (s.tables.cellConfigs.at c).zone
    | none => []
  s.beginStage n .stage2 list s.tables.timing.stage2 (s.stage3 n)

/-- R86: stage 1: the page cell. -/
def State.stage1 (s : State) (n : Circuit) : State :=
  s.beginStage n .stage1 (s.callOf n).pageCell.toList s.tables.timing.stage1 (s.stage2 n)

/-- R89: the stage timer of a PAGING call expires. -/
def State.stageExpired (s : State) (n : Circuit) : State :=
  match (s.callOf n).pageStage with
  | some .stage1 => s.stage2 n
  | some .stage2 => s.stage3 n
  | some .stage3 => s.pageUnanswered n
  | none => s

end Sys2Proof.Machine
end

