-- ==== Sys2Proof/Machine/Acts.lean ====
section
/-! DEFINITION. What the Signalling Processor does on each signalling message once its lookup is known (R44 to R49, R59
to R68, R75, R76, R100, R149). -/

namespace Sys2Proof.Machine

open Sys2Proof

/-! ### Enrolment messages -/

/-- R46: a location update to cell `c`, made only on a record whose standing is PERMITTED. -/
def Record.locate (r : Record) (c : CellId) : Record :=
  match r.standing with
  | .barred => r
  | .permitted =>
    { r with attach := .attached, location := some c, seen := true, moved := r.moved || r.location != some c }

/-- R49: a record taken out of reach. -/
def Record.retire (r : Record) : Record := { r with attach := .detached, location := none, seen := true, moved := true }

/-- R47: ENROL from cell `c`. -/
def State.enrolAt (s : State) (c : CellId) (h : Hid) (found : Option Record) : Acted :=
  match found with
  | none => ⟨s.placeSig c (enrolNoFrame h .unknown), none⟩
  | some r =>
    if r.standing = .barred then ⟨s.placeSig c (enrolNoFrame h .barred), some r⟩
    else ⟨s.placeSig c (enrolOkFrame h), some (r.locate c)⟩

/-- R48: CAMP from cell `c`. -/
def State.campAt (s : State) (c : CellId) (h : Hid) (found : Option Record) : Acted :=
  match found with
  | none => ⟨s.placeSig c (enrolNoFrame h .notEnrolled), none⟩
  | some r =>
    if r.attach = .detached then ⟨s.placeSig c (enrolNoFrame h .notEnrolled), some r⟩ else ⟨s, some (r.locate c)⟩

/-- R47 as an action. A cell message comes on a cell link only (R43). -/
def actEnrol : Act := fun s l m found =>
  match l, m with
  | .cell c, .enrol h _ => s.enrolAt c h found
  | _, _ => ⟨s, found⟩

/-- R48 as an action. -/
def actCamp : Act := fun s l m found =>
  match l, m with
  | .cell c, .camp h => s.campAt c h found
  | _, _ => ⟨s, found⟩

/-- R49 as an action. -/
def actRetire : Act := fun s _ _ found => ⟨s, found.map Record.retire⟩

/-! ### SEIZE -/

/-- R61: the three steps of a SEIZE. `purpose` handles it once its bearer has been freed (R59). -/
def State.seizeWith (s : State) (z : Seize) (found : Option Record) (purpose : State → Handled) : Acted :=
  if s.cellUp z.cell then
    let a := purpose (s.freeBearer z.cell z.slot)
    ⟨a.state, if a.accepted then found.map (Record.locate · z.cell) else found⟩
  else ⟨s.stray (.cell z.cell), found⟩

/-- R63 as an action. -/
def actSeizeOrigin : Act := fun s l m found =>
  match l, m with
  | .cell c, .seize k h _ level => let z : Seize := ⟨c, k, h, level⟩; s.seizeWith z found fun s => s.seizeForOrigin z found
  | _, _ => ⟨s, found⟩

/-- R64 as an action. -/
def actSeizeAnswer : Act := fun s l m found =>
  match l, m with
  | .cell c, .seize k h _ level => let z : Seize := ⟨c, k, h, level⟩; s.seizeWith z found fun s => s.seizeForAnswer z
  | _, _ => ⟨s, found⟩

/-- R100 as an action. -/
def actSeizeMoveIn : Act := fun s l m found =>
  match l, m with
  | .cell c, .seize k h _ level => let z : Seize := ⟨c, k, h, level⟩; s.seizeWith z found fun s => s.seizeForMoveIn z
  | _, _ => ⟨s, found⟩

/-! ### OFFER -/

/-- R62, R85: an OFFER accepted: the call is PAGING, and stage 1 begins. -/
def State.acceptOffer (s : State) (n : Circuit) (h : Hid) (r : Record) : State :=
  let s := { s with call := { s.call with freeQueue := s.call.freeQueue.filter (· ≠ n) } }
  let s := s.modCall n fun rec =>
    { CallRecord.free rec.profile with
      state := .paging, hid := some h, direction := some .incoming, mclass := some r.mclass, pageCell := r.location }
  s.stage1 n

/-- R62: an OFFER of circuit `n`; the first test that applies decides. -/
def State.offered (s : State) (n : Circuit) (h : Hid) (found : Option Record) : State :=
  if s.exchUp then
    if (s.callOf n).state ≠ .free then s.placeExch (endedFrame n .circuitBusy)
    else
      match found with
      | none => s.placeExch (endedFrame n .unknown)
      | some r =>
        if (s.findCall h).isSome then s.placeExch (endedFrame n .handsetBusy)
        else if r.attach = .detached then s.placeExch (endedFrame n .unreachable)
        else s.acceptOffer n h r
  else s

/-- R62 as an action: an OFFER changes no field or mark of the record. -/
def actOffer : Act := fun s _ m found =>
  match m with
  | .offer n h => ⟨s.offered n h found, found⟩
  | _ => ⟨s, found⟩

/-! ### Messages that name no handset -/

/-- R68: VACATE of bearer (c, k). -/
def State.vacated (s : State) (c : CellId) (k : SlotId) : State :=
  if s.bearer c k = .free then s.stray (.cell c) else s.freeBearer c k

/-- R68 as an action. -/
def actVacate : Act := fun s l m found =>
  match l, m with
  | .cell c, .vacate k => ⟨s.vacated c k, found⟩
  | _, _ => ⟨s, found⟩

/-- R149: the change marks after a report: an item's mark is set where the report differs from the kept one. -/
def CellReport.remark (marks kept new : CellReport) : CellReport :=
  ⟨marks.radio || kept.radio != new.radio, marks.sync || kept.sync != new.sync, marks.fault || kept.fault != new.fault⟩

/-- R113: the candidate leg of a call at cell `c` is lost. -/
def State.loseCandidateAt (c : CellId) (s : State) (n : Circuit) : State :=
  s.loseLegs n false (legAt c (s.callOf n).candidate)

/-- R149: a STATE report from cell `c`. -/
def State.reported (s : State) (c : CellId) (r : CellReport) : State :=
  let s := s.modCell c fun u => { u with marks := u.marks.remark u.report r, report := r }
  if r.admits then s else (ascending 192).foldl (State.loseCandidateAt c) s

/-- R149 as an action. -/
def actState : Act := fun s l m found =>
  match l, m with
  | .cell c, .stateReport r => ⟨s.reported c r, found⟩
  | _, _ => ⟨s, found⟩

/-- R75: RELAY from bearer (c, k). -/
def State.relayUp (s : State) (c : CellId) (k : SlotId) (payload : List Byte) : State :=
  match s.bearer c k with
  | .serving n | .candidate n => s.placeExch (relayToExchFrame n payload)
  | .free | .releasing _ => s.stray (.cell c)

/-- R75 as an action. -/
def actRelayFromCell : Act := fun s l m found =>
  match l, m with
  | .cell c, .relayFromCell k payload => ⟨s.relayUp c k payload, found⟩
  | _, _ => ⟨s, found⟩

/-- R76: RELAY for circuit `n`. -/
def State.relayDown (s : State) (n : Circuit) (payload : List Byte) : State :=
  let r := s.callOf n
  match r.state, r.serving with
  | .active, some g | .bridged, some g => s.placeSig g.cell (relayToCellFrame g.slot payload)
  | _, _ => s.stray .exchange

/-- R76 as an action. -/
def actRelayFromExchange : Act := fun s _ m found =>
  match m with
  | .relayFromExchange n payload => ⟨s.relayDown n payload, found⟩
  | _ => ⟨s, found⟩

/-- R65 as an action. -/
def actEnd : Act := fun s _ m found =>
  match m with
  | .endCall n => ⟨s.endCircuit n, found⟩
  | _ => ⟨s, found⟩

/-! ### By the kind of the message -/

/-- The action of a message, by its kind (R45). -/
def actOf : Msg → Act
  | .enrol _ _ => actEnrol
  | .camp _ => actCamp
  | .retire _ => actRetire
  | .seize _ _ .origin _ => actSeizeOrigin
  | .seize _ _ .answer _ => actSeizeAnswer
  | .seize _ _ .moveIn _ => actSeizeMoveIn
  | .offer _ _ => actOffer
  | .vacate _ => actVacate
  | .stateReport _ => actState
  | .relayFromCell _ _ => actRelayFromCell
  | .endCall _ => actEnd
  | .relayFromExchange _ _ => actRelayFromExchange

end Sys2Proof.Machine
end

