-- ==== Sys2Proof/Machine/Settle.lean ====
section
/-! DEFINITION. The end of an event: the release of a held message (R15), the memory port (R12, R13) and the attention
set (R183). -/

namespace Sys2Proof.Machine

open Sys2Proof

/-- R15: the held message released, if its write has room in the write-through queue or a write for its record stands
there. -/
def State.tryRelease (s : State) : Option State :=
  match s.sig.held with
  | some m => if s.releasable m then some (s.release (actOf m.msg) m) else none
  | none => none

/-- R15, R12, R183: the end of an event that may present or complete a memory operation. A held message is released as
soon as there is room for it: once the event's own effects are done, and otherwise once a grant has made the room
(log 6). -/
def State.settle (s before : State) : State :=
  let s := (s.tryRelease.getD s).settlePort before
  (match s.tryRelease with
    | some t => t.settlePort before
    | none => s).judgeAttention before

/-- The state after an event that may touch the memory port; an event that does not take place changes nothing
(log 3). -/
def State.settled (s : State) (t : Option State) : State :=
  match t with
  | some t => t.settle s
  | none => s

/-- The state after an event that does not touch the memory port; an event that does not take place changes nothing
(log 3). -/
def State.judged (s : State) (t : Option State) : State :=
  match t with
  | some t => t.judgeAttention s
  | none => s

end Sys2Proof.Machine
end

