-- ==== Sys2Proof/Machine/LinkEvents.lean ====
section
/-! DEFINITION. The meanings of what happens on the lines of the links (08_cell_and_exchange_links.md): arrivals (R141
to R143, R164, R151), sending (R145, R152) and silence (R139, R140). -/

namespace Sys2Proof.Machine

open Sys2Proof

/-! ### Arrivals -/

/-- R137: a link whose receive line is watched. -/
def LinkState.listens : LinkState → Bool
  | .down | .up => true
  | .off | .loop => false

/-- R138, R139: a valid frame moves a DOWN link to UP and restarts the silence timer for 16 ms. -/
def State.heard (s : State) (l : LinkId) : State :=
  s.modUnit l fun u =>
    { u with
      state := .up, silence := some (s.after Config.linkSilence)
      idleStart := if u.state = .up then u.idleStart else s.timeBase }

/-- R141, R147: a valid frame other than fill also counts as received. -/
def State.received (s : State) (l : LinkId) : State := (s.heard l).modUnit l LinkUnit.countReceived

/-- The valid frame that a run brings on a link that listens, if its kind passes the test. -/
def State.arrival (s : State) (l : LinkId) (run : List Byte) (test : Byte → Bool) : Option Frame :=
  if (s.unit l).state.listens then
    match judge run with
    | .valid f => if test f.kind then some f else none
    | _ => none
  else none

/-- FILL_FRAME_RECEIVED (R141). -/
def execFillFrameReceived (l : LinkId) (run : List Byte) (s : State) : Host.Outcome State Fault Refusal :=
  .next (s.judged ((s.arrival l run (· == Kind.fill)).map fun _ => s.heard l))

/-- R156, R157: the flag that a run which fails sets. -/
def State.flagRun (s : State) (l : LinkId) (run : List Byte) : Option State :=
  match judge run with
  | .framingError => some (s.modUnit l LinkUnit.setFramingError)
  | .checkError => some (s.modUnit l LinkUnit.setCheckError)
  | .valid _ => none

/-- INVALID_FRAME_RECEIVED (R156, R157). -/
def execInvalidFrameReceived (l : LinkId) (run : List Byte) (s : State) : Host.Outcome State Fault Refusal :=
  .next (s.judged (if (s.unit l).state.listens then s.flagRun l run else none))

/-- R143: the messages a link's signalling receive FIFO holds. -/
def fifoSize : LinkId → Nat
  | .cell _ => Config.cellFifoSize
  | .exchange => Config.exchFifoSize

/-- R143: a frame joins the FIFO, or is lost at a full one. -/
def LinkUnit.enqueue (u : LinkUnit) (size : Nat) (f : Frame) : LinkUnit :=
  if u.rxFifo.length < size then { u with rxFifo := u.rxFifo ++ [f] } else u.setRxOverrun

/-- SIGNALLING_ARRIVAL (R143). -/
def execSignallingArrival (l : LinkId) (run : List Byte) (s : State) : Host.Outcome State Fault Refusal :=
  .next (s.judged ((s.arrival l run (isSignallingKind l)).map fun f =>
    (s.received l).modUnit l fun u => u.enqueue (fifoSize l) f))

/-- R164: a request offered to the management queue. -/
def State.offerRequest (s : State) (q : MgmtRequest) : State :=
  if s.mgmt.queue.length < Config.mgmtQueueSize then { s with mgmt := { s.mgmt with queue := s.mgmt.queue ++ [q] } }
  else s.placeExch (replyFrame q.tag q.command .queueFull [])

/-- R161: the header of a MGMT body; a body without one is discarded. -/
def State.readHeader (s : State) (body : List Byte) : State :=
  match body with
  | tag :: command :: operands => s.offerRequest { tag, command, operands }
  | _ => s.protocolError .exchange none none

/-- MGMT_ARRIVAL (R164). -/
def execMgmtArrival (run : List Byte) (s : State) : Host.Outcome State Fault Refusal :=
  .next (s.judged ((s.arrival .exchange run (· == Kind.mgmt)).map fun f => (s.received .exchange).readHeader f.body))

/-- R142: a voice frame from cell `c` goes to the Voice Path, or is discarded for a field out of range. -/
def State.voiceFromCell (s : State) (c : CellId) (v : Voice) : State :=
  match finOf 12 v.tag with
  | some k => if v.level.toNat ≤ 63 then s.uplinkFrame c k v else s.protocolError (.cell c) (some k) none
  | none => s.protocolError (.cell c) none none

/-- UPLINK_VOICE_FRAME (R120). -/
def execUplinkVoiceFrame (c : CellId) (run : List Byte) (s : State) : Host.Outcome State Fault Refusal :=
  .next (s.judged (((s.arrival (.cell c) run (· == Kind.voice)).bind fun f => voiceOf f.body).map fun v =>
    (s.received (.cell c)).voiceFromCell c v))

/-- R142: a voice frame from the exchange goes to the Voice Path, or is discarded for a tag out of range. -/
def State.voiceFromExchange (s : State) (v : Voice) : State :=
  match finOf 192 v.tag with
  | some n => s.downlink n v
  | none => s.protocolError .exchange none none

/-- DOWNLINK_VOICE_FRAME (R134). -/
def execDownlinkVoiceFrame (run : List Byte) (s : State) : Host.Outcome State Fault Refusal :=
  .next (s.judged (((s.arrival .exchange run (· == Kind.voice)).bind fun f => voiceOf f.body).map fun v =>
    (s.received .exchange).voiceFromExchange v))

/-- R151: the oldest of the frames sent in LOOP has returned. -/
def CellLink.returned (u : CellLink) : CellLink := { u with returning := u.returning.tail }

/-- R151: the oldest frame that has not returned comes back as `run`. A returned frame that is valid counts unless it is a
fill frame; one that fails sets its flag. -/
def State.looped (s : State) (c : CellId) (run : List Byte) : State :=
  let s := s.modCell c CellLink.returned
  match judge run with
  | .framingError => s.modUnit (.cell c) LinkUnit.setFramingError
  | .checkError => s.modUnit (.cell c) LinkUnit.setCheckError
  | .valid f => if f.kind = Kind.fill then s else s.modUnit (.cell c) LinkUnit.countLooped

/-- R151: a frame that the unit of a link in LOOP has sent is still to return. -/
def CellLink.awaitsReturn (u : CellLink) : Bool := u.link.state == .loop && !u.returning.isEmpty

/-- LOOPED_FRAME_RETURN (R151): a frame that the unit has sent returns, and no other. When it returns, and with which
bytes, is the line's: `run` is the frame's own run or what the line has made of it (DESIGN CHOICE, log 27). -/
def execLoopedFrameReturn (c : CellId) (run : List Byte) (s : State) : Host.Outcome State Fault Refusal :=
  .next (s.judged (if (s.cells.at c).awaitsReturn then some (s.looped c run) else none))

/-! ### Sending -/

/-- R145: a link that sends, and is free to. -/
def LinkUnit.free (u : LinkUnit) : Bool := u.state != .off && u.sending.isNone

/-- A frame whose sending begins. -/
def LinkUnit.send (u : LinkUnit) (f : Frame) : LinkUnit := { u with sending := some f }

/-- R145: the transmit queue a cell's unit sends from next: the one it did not send from last when both hold frames,
and otherwise the one that holds frames. -/
def CellLink.nextQueue (u : CellLink) : Option SendMark :=
  match u.sigQueue.isEmpty, u.voiceQueue.isEmpty, u.sendMark with
  | true, true, _ => none
  | true, false, _ => some .voice
  | false, true, _ => some .signalling
  | false, false, .signalling => some .voice
  | false, false, .voice => some .signalling

/-- R145: a cell's unit begins to send the oldest frame of its next queue. -/
def CellLink.sendQueued (u : CellLink) : CellLink :=
  match u.nextQueue with
  | some .signalling =>
    match u.sigQueue with
    | f :: rest => { u with link := u.link.send f, sigQueue := rest, sendMark := .signalling }
    | [] => u
  | some .voice =>
    match u.voiceQueue with
    | f :: rest => { u with link := u.link.send f, voiceQueue := rest, sendMark := .voice }
    | [] => u
  | none => u

/-- R145: the exchange's unit begins to send the oldest frame of its queue. -/
def ExchLink.sendQueued (u : ExchLink) : ExchLink :=
  match u.txQueue with
  | f :: rest => { u with link := u.link.send f, txQueue := rest }
  | [] => u

/-- R145: a queued frame's sending begins on a link that is free. -/
def State.sendQueued (s : State) (l : LinkId) : State :=
  if (s.unit l).free then
    match l with
    | .cell c => s.modCell c CellLink.sendQueued
    | .exchange => s.modExch ExchLink.sendQueued
  else s

/-- FRAME_SEND (R145). -/
def execFrameSend (l : LinkId) (s : State) : Host.Outcome State Fault Refusal := .next (s.sendQueued l)

/-- R145: the frame being sent has left whole; the 4 ms of idle are counted from now. -/
def LinkUnit.sent (u : LinkUnit) (now : Time) : LinkUnit :=
  if u.sending.isSome then { u with sending := none, idleStart := now } else u

/-- R145, R151: the frame that a cell's unit was sending has left whole; in LOOP it is to return. -/
def CellLink.sent (u : CellLink) (now : Time) : CellLink :=
  { u with
    link := u.link.sent now
    returning := if u.link.state = .loop then u.returning ++ u.link.sending.toList else u.returning }

/-- R145: the frame being sent on a link has left whole. -/
def State.sent (s : State) (l : LinkId) : State :=
  match l with
  | .cell c => s.modCell c (CellLink.sent · s.timeBase)
  | .exchange => s.modExch fun u => { u with link := u.link.sent s.timeBase }

/-- FRAME_SEND_END (R145). -/
def execFrameSendEnd (l : LinkId) (s : State) : Host.Outcome State Fault Refusal := .next (s.sent l)

/-- R145: the link has sent no frame for 4 ms. -/
def State.idleLong (s : State) (u : LinkUnit) : Bool := decide (Config.fillIdle ≤ (s.timeBase - u.idleStart).toNat)

/-- R145: nothing is queued on the link, and no test runs. -/
def State.nothingToSend (s : State) : LinkId → Bool
  | .cell c => let u := s.cells.at c; u.sigQueue.isEmpty && u.voiceQueue.isEmpty && u.testCount == 0
  | .exchange => s.exch.txQueue.isEmpty

/-- R145: a fill frame's sending begins on a link that is free, idle for 4 ms and has nothing to send. -/
def State.sendFill (s : State) (l : LinkId) : State :=
  if (s.unit l).free && s.idleLong (s.unit l) && s.nothingToSend l then s.modUnit l (LinkUnit.send · fillFrame) else s

/-- FILL_FRAME_SEND (R145). -/
def execFillFrameSend (l : LinkId) (s : State) : Host.Outcome State Fault Refusal := .next (s.sendFill l)

/-- R152: a test frame is to be sent: the link is in LOOP and free, both queues are empty and the count is not 0. -/
def CellLink.testDue (u : CellLink) : Bool :=
  u.link.state == .loop && u.link.sending.isNone && u.sigQueue.isEmpty && u.voiceQueue.isEmpty && u.testCount != 0

/-- R152: a test frame's sending begins, and the count falls by 1. -/
def CellLink.sendTest (u : CellLink) : CellLink :=
  if u.testDue then { u with link := u.link.send (testFrame u.testCount), testCount := u.testCount - 1 } else u

/-- TEST_FRAME_SEND (R152). -/
def execTestFrameSend (c : CellId) (s : State) : Host.Outcome State Fault Refusal := .next (s.modCell c CellLink.sendTest)

/-! ### Leaving a state -/

/-- R138, R139, R145: a link unit in a new state that is not UP; a frame being sent is cut off (R140, log 13). -/
def LinkUnit.enter (u : LinkUnit) (st : LinkState) (now : Time) : LinkUnit :=
  { u with state := st, silence := none, sending := none, idleStart := now }

/-- R140: a cell's unit in a new state that is not UP, its transmit queues emptied and its test ended (R152). Nothing is on
its way round a loop (log 27). -/
def CellLink.enter (u : CellLink) (st : LinkState) (now : Time) : CellLink :=
  { u with link := u.link.enter st now, sigQueue := [], voiceQueue := [], testCount := 0, returning := [] }

/-- R138, R140: the link of cell `c` moves to a state that is not UP; a link that leaves UP is lost to the Call
Table. -/
def State.moveCell (s : State) (c : CellId) (st : LinkState) : State :=
  let t := s.modCell c fun u => u.enter st s.timeBase
  if s.cellUp c then t.cellLost c else t

/-- R139: the expiry on a cell link. -/
def State.cellSilent (s : State) (c : CellId) : State := (s.modUnit (.cell c) LinkUnit.setSilence).moveCell c .down

/-- R139, R140: the expiry on the exchange link. -/
def State.exchSilent (s : State) : State :=
  (s.modExch fun u => { u with link := u.link.setSilence.enter .down s.timeBase, txQueue := [] }).exchLost

/-- R139: the silence timer of an UP link has come due. -/
def State.silenceDue (s : State) (l : LinkId) : Bool := (s.unit l).state == .up && s.dueTimer (s.unit l).silence

/-- LINK_SILENCE_EXPIRY (R139). -/
def execLinkSilenceExpiry (l : LinkId) (s : State) : Host.Outcome State Fault Refusal :=
  .next (s.judged (if s.silenceDue l then
    some (match l with
      | .cell c => s.cellSilent c
      | .exchange => s.exchSilent)
    else none))

end Sys2Proof.Machine
end

