-- ==== Sys2Proof/Machine/Registry.lean ====
section
/-! DEFINITION. The meanings of the completions of memory operations (01_handset_registry.md, 02_location_cache.md).
Each takes place only while the port carries the operation it names. -/

namespace Sys2Proof.Machine

open Sys2Proof

/-! ### Record writes -/

/-- R1, R163: a record write has taken effect in memory, and the port is free. -/
def State.store (s : State) (a : RecAddr) (r : Record) : State :=
  { s with reg := { s.reg with mem := writeRecord s.reg.mem a r, port := none } }

/-- R9: the image that a search delivered is replaced by a record write to its slot. -/
def MgmtOp.refresh (op : MgmtOp) (a : RecAddr) (r : Record) : MgmtOp :=
  match op.stage with
  | .write b _ insert => if b = a then { op with stage := .write b r insert } else op
  | .primary | .alternate _ => op

/-- R19: the slot of a sweep's bucket image is replaced by a record write to it. -/
def SweepState.refresh (x : SweepState) (a : RecAddr) (r : Record) : SweepState :=
  match x with
  | .running mode b last (.writing image todo) =>
    if b = a.bucket then .running mode b last (.writing (image.put a.slot r) todo) else x
  | .idle | .running _ _ _ .reading | .ended _ => x

/-- R9, R168: a record write completes: the watch on its slot is cleared and a management image is replaced. -/
def State.written (s : State) (a : RecAddr) (r : Record) : State :=
  let s := (s.store a r).clearWatchAt a
  { s with mgmt := { s.mgmt with op := s.mgmt.op.map (MgmtOp.refresh · a r) } }

/-- R19: a record write that is not the sweep's own completes. -/
def State.writtenByOther (s : State) (a : RecAddr) (r : Record) : State :=
  let s := s.written a r
  { s with reg := { s.reg with sweep := s.reg.sweep.refresh a r } }

/-- R9, R36: the change of a completed write applied to the entry that names its slot and to a write queued for it. -/
def State.carry (s : State) (a : RecAddr) (f : Record → Record) : State :=
  let s := s.modEntriesAt a fun e => some { e with record := f e.record }
  { s with reg := { s.reg with writes := changeWrite s.reg.writes a f } }

/-! ### Searches -/

/-- R5: a REGISTRY_DAMAGED report for the first damaged slot passed, if one was. -/
def State.reportDamaged (s : State) (h : Hid) : Option RecAddr → State
  | some a => s.capture .registryDamaged { hid := some h, slot := some a.slot.val, bucket := some a.bucket }
  | none => s

/-- R6, R28, R30: a read of the search `x` in context `c` completes, its bucket examined as `found` and `damaged`. -/
def State.searchRead (s : State) (c : ContextId) (x : Search) (scan : Scan) : State :=
  if scan.found.isNone && !x.alternate then
    { s with reg := { s.reg with contexts := s.reg.contexts.put c (some { x with alternate := true, damaged := scan.damaged }) } }
  else if x.stale then
    { s with reg := { s.reg with contexts := s.reg.contexts.put c (some ⟨x.hid, false, none, false⟩) } }
  else
    match scan.found with
    | some (a, r) => (s.installEntry ⟨r, a⟩).searchDone c x.hid true
    | none => (s.reportDamaged x.hid scan.damaged).searchDone c x.hid false

/-- SEARCH_READ_COMPLETE (R6), if the port carries a search's read. -/
def State.completeSearchRead (s : State) : Option State :=
  match s.reg.port with
  | some (.searchRead c b) =>
    let t := s.setPort none
    match s.reg.contexts.at c with
    | some x => some (t.searchRead c x (scanBucket s.reg.mem x.hid b x.damaged))
    | none => some t
  | _ => none

/-- SEARCH_READ_COMPLETE (R6). -/
def execSearchReadComplete (s : State) : Host.Outcome State Fault Refusal := .next (s.settled s.completeSearchRead)

/-! ### Write-throughs -/

/-- WRITE_THROUGH_COMPLETE (R14), if the port carries one. -/
def State.completeWriteThrough (s : State) : Option State :=
  match s.reg.port with
  | some (.writeThrough a r) => some (s.writtenByOther a r)
  | _ => none

/-- WRITE_THROUGH_COMPLETE (R14). -/
def execWriteThroughComplete (s : State) : Host.Outcome State Fault Refusal := .next (s.settled s.completeWriteThrough)

/-! ### Management operations -/

/-- R165: the request leaves the queue and its reply is placed. -/
def State.reply (s : State) (q : MgmtRequest) (outcome : MgmtOutcome) (data : List Byte) : State :=
  let s : State := { s with mgmt := { s.mgmt with queue := s.mgmt.queue.tail, op := none } }
  s.placeExch (replyFrame q.tag q.command outcome data)

/-- R165: the memory request at the head ends. -/
def State.finish (s : State) (outcome : MgmtOutcome) (data : List Byte) : State :=
  match s.mgmt.queue with
  | q :: _ => s.reply q outcome data
  | [] => { s with mgmt := { s.mgmt with op := none } }

/-- The memory request in progress replaced. -/
def State.setOp (s : State) (op : MgmtOp) : State := { s with mgmt := { s.mgmt with op := some op } }

/-- The watch replaced. -/
def State.setWatch (s : State) (w : Option Watch) : State := { s with mgmt := { s.mgmt with watch := w } }

/-- R7, R8, R167: a management search ends FOUND. -/
def State.mgmtFound (s : State) (op : MgmtOp) (a : RecAddr) (r : Record) : State :=
  match op.job with
  | .read h => (s.setWatch (some ⟨a, h⟩)).finish .done (recordData r a)
  | .write _ _ _ | .delete _ | .clear => s.setOp { op with stage := .write a r false }

/-- R7: the slot an insert uses: the first empty slot of the primary bucket, and otherwise of the alternate. -/
def insertSlot (mem : List Host.Cell) (h : Hid) (primaryEmpty : Option RegSlot) : Option RecAddr :=
  match primaryEmpty with
  | some k => some ⟨primaryBucket h, k⟩
  | none => (firstEmpty mem (alternateBucket h)).map fun k => ⟨alternateBucket h, k⟩

/-- R7, R8, R167: a management search ends NOT FOUND or DAMAGED. `primaryEmpty` is the first empty slot its primary
read delivered. -/
def State.mgmtNotFound (s : State) (op : MgmtOp) (primaryEmpty : Option RegSlot) (damaged : Option RecAddr) : State :=
  let t := s.reportDamaged op.job.hid damaged
  match op.job with
  | .write h standing mclass =>
    match insertSlot s.reg.mem h primaryEmpty with
    | some a => t.setOp { op with stage := .write a (.inserted h standing mclass) true }
    | none => t.finish .tableFull []
  | .read _ | .delete _ | .clear => t.finish .notFound []

/-- R7: a read of the management search completes, its bucket examined as `scan`. -/
def State.mgmtRead (s : State) (op : MgmtOp) (scan : Scan) : State :=
  match scan.found, op.stage with
  | some (a, r), _ => s.mgmtFound op a r
  | none, .primary =>
    s.setOp { op with stage := .alternate (firstEmpty s.reg.mem (primaryBucket op.job.hid)), damaged := scan.damaged }
  | none, .alternate e => s.mgmtNotFound op e scan.damaged
  | none, .write _ _ _ => s

/-- MGMT_READ_COMPLETE (R7), if the port carries a management read. -/
def State.completeMgmtRead (s : State) : Option State :=
  match s.reg.port with
  | some (.mgmtRead b) =>
    let t := s.setPort none
    match s.mgmt.op with
    | some op => some (t.mgmtRead op (scanBucket s.reg.mem op.job.hid b op.damaged))
    | none => some t
  | _ => none

/-- MGMT_READ_COMPLETE (R7). -/
def execMgmtReadComplete (s : State) : Host.Outcome State Fault Refusal := .next (s.settled s.completeMgmtRead)

/-- R9: the change of the management write in progress. -/
def MgmtJob.change : MgmtJob → Record → Record
  | .write _ standing mclass => (Record.managed · standing mclass)
  | .read _ | .delete _ | .clear => id

/-- MGMT_WRITE_COMPLETE (R9), if the port carries a management write. -/
def State.completeMgmtWrite (s : State) : Option State :=
  match s.reg.port with
  | some (.mgmtWrite a r) =>
    let held := heldHid s.reg.mem a
    let t := s.writtenByOther a r
    let t := match s.mgmt.op with
      | some op => t.carry a op.job.change
      | none => t
    some ((t.reportWrite (held.toList ++ [r.hid])).finish .done [])
  | _ => none

/-- MGMT_WRITE_COMPLETE (R9). -/
def execMgmtWriteComplete (s : State) : Host.Outcome State Fault Refusal := .next (s.settled s.completeMgmtWrite)

/-- EMPTY_WRITE_COMPLETE (R8), if the port carries an empty write. -/
def State.completeEmptyWrite (s : State) : Option State :=
  match s.reg.port with
  | some (.emptyWrite a) =>
    let held := heldHid s.reg.mem a
    let t := (s.writtenByOther a .empty).modEntriesAt a fun _ => none
    let t : State := { t with reg := { t.reg with writes := dropWrite t.reg.writes a } }
    some ((t.reportWrite held.toList).finish .done [])
  | _ => none

/-- EMPTY_WRITE_COMPLETE (R8). -/
def execEmptyWriteComplete (s : State) : Host.Outcome State Fault Refusal := .next (s.settled s.completeEmptyWrite)

/-! ### Format and sweep -/

/-- R11: the format position after a write, and the end of the format after the last (log 21). -/
def State.formatOn (s : State) : State :=
  let pos := s.reg.formatPos + 1
  { s with reg := { s.reg with formatPos := pos, format := if pos = Config.registrySlots then .formatted else s.reg.format } }

/-- FORMAT_WRITE_COMPLETE (R11), if the port carries a format write. -/
def State.completeFormatWrite (s : State) : Option State :=
  match s.reg.port with
  | some (.formatWrite a) => some (s.store a .empty).formatOn
  | _ => none

/-- FORMAT_WRITE_COMPLETE (R11). -/
def execFormatWriteComplete (s : State) : Host.Outcome State Fault Refusal := .next (s.settled s.completeFormatWrite)

/-- R18: what a sweep decides on a slot: an entry to be added, and a write to be made. -/
structure Decision where
  entry : Option SweepEntry
  write : Option SweepWrite
  deriving DecidableEq, Repr

/-- R18: the decision on an occupied slot. -/
def decideOn (mode : SweepMode) (k : RegSlot) (r : Record) : Decision :=
  match mode with
  | .stale =>
    if r.seen then ⟨none, some ⟨k, r.hid⟩⟩
    else if r.attach = .attached then ⟨some ⟨r.hid, r.location⟩, none⟩
    else ⟨none, none⟩
  | .moved => if r.moved then ⟨some ⟨r.hid, r.location⟩, some ⟨k, r.hid⟩⟩ else ⟨none, none⟩

/-- R18: the decisions on a bucket's slots in order; empty and damaged slots are passed over. -/
def decideBucket (mem : List Host.Cell) (mode : SweepMode) (b : BucketId) : List Decision :=
  (ascending 4).filterMap fun k =>
    match slotView mem ⟨b, k⟩ with
    | .occupied r => some (decideOn mode k r)
    | .empty | .damaged => none

/-- R18, R19: the read of a sweep's bucket completes with its decisions. -/
def State.sweepRead (s : State) (mode : SweepMode) (b last : BucketId) (image : Table Record 4) (ds : List Decision) :
    State :=
  let entries := ds.filterMap Decision.entry
  if s.mgmt.sweepList.length + entries.length ≤ Config.sweepListSize then
    let t : State := { s with mgmt := { s.mgmt with sweepList := s.mgmt.sweepList ++ entries } }
    t.sweepWritten mode b last image (ds.filterMap Decision.write)
  else s.sweepEnd (some b)

/-- SWEEP_READ_COMPLETE (R18), if the port carries a sweep's read. -/
def State.completeSweepRead (s : State) : Option State :=
  match s.reg.port with
  | some (.sweepRead _) =>
    let t := s.setPort none
    match s.reg.sweep with
    | .running mode b last .reading => some (t.sweepRead mode b last (bucketImage s.reg.mem b) (decideBucket s.reg.mem mode b))
    | _ => some t
  | _ => none

/-- SWEEP_READ_COMPLETE (R18). -/
def execSweepReadComplete (s : State) : Host.Outcome State Fault Refusal := .next (s.settled s.completeSweepRead)

/-- SWEEP_WRITE_COMPLETE (R19, R36), if the port carries a sweep's write. -/
def State.completeSweepWrite (s : State) : Option State :=
  match s.reg.port with
  | some (.sweepWrite a r) =>
    let held := heldHid s.reg.mem a
    let t := s.written a r
    match s.reg.sweep with
    | .running mode b last (.writing image todo) =>
      let t := (t.carry a (Record.clearMark · mode)).reportWrite (held.toList ++ [r.hid])
      some (t.sweepWritten mode b last image todo.tail)
    | _ => some t
  | _ => none

/-- SWEEP_WRITE_COMPLETE (R19). -/
def execSweepWriteComplete (s : State) : Host.Outcome State Fault Refusal := .next (s.settled s.completeSweepWrite)

/-! ### Operations that have lost their requester -/

/-- R1: the operation on the port once its requester is gone: a read delivers to nobody, and a write takes effect in
memory (log 14). -/
def PortOp.orphan : PortOp → PortOp
  | .searchRead _ b | .mgmtRead b | .sweepRead b | .orphanRead b => .orphanRead b
  | .writeThrough a r | .mgmtWrite a r | .sweepWrite a r | .orphanWrite a r => .orphanWrite a r
  | .emptyWrite a | .formatWrite a => .orphanWrite a .empty

/-- PORT_OPERATION_COMPLETES_INTO_NOTHING (R1), if the port carries an operation without a requester. -/
def State.completeOrphan (s : State) : Option State :=
  match s.reg.port with
  | some (.orphanRead _) => some (s.setPort none)
  | some (.orphanWrite a r) => some (s.store a r)
  | _ => none

/-- PORT_OPERATION_COMPLETES_INTO_NOTHING (R1). -/
def execPortOperationCompletesIntoNothing (s : State) : Host.Outcome State Fault Refusal :=
  .next (s.settled s.completeOrphan)

end Sys2Proof.Machine
end

