-- ==== Sys2Proof/Machine/Management.lean ====
section
/-! DEFINITION. The meanings of the management requests (10_management.md, 11_attention_and_fault_capture.md): each
executes the request at the head of the queue, if it is its own (R165, R166). -/

namespace Sys2Proof.Machine

open Sys2Proof

/-! ### The request at the head -/

/-- R165: the request at the head of the queue, if its execution has not begun and its command number passes the
test. -/
def State.headIf (s : State) (test : Byte → Bool) : Option MgmtRequest :=
  match s.mgmt.op, s.mgmt.queue with
  | none, q :: _ => if test q.command then some q else none
  | _, _ => none

/-- R165: the request at the head, if its command number is `cmd`. -/
def State.head (s : State) (cmd : Byte) : Option MgmtRequest := s.headIf (· == cmd)

/-- R166, checks 2 and 3: the request executed with its operands, or refused with BAD_VALUE. -/
def State.withOperands {α : Type} (s : State) (q : MgmtRequest) (ops : Option α) (run : α → State) : State :=
  match ops with
  | some x => run x
  | none => s.reply q .badValue []

/-- The operands of a command that has none. -/
def readNothing (ops : List Byte) : Option Unit := if ops.isEmpty then some () else none

/-- R10, R166, check 4: the outcome by which the format state refuses a request. -/
def FormatState.refusal : FormatState → Option MgmtOutcome
  | .unformatted => some .notFormatted
  | .formatting => some .formatting
  | .formatted => none

/-- R10: the request executed while the registry is FORMATTED, and otherwise refused. -/
def State.whenFormatted (s : State) (q : MgmtRequest) (run : State) : State :=
  match s.reg.format.refusal with
  | some o => s.reply q o []
  | none => run

/-- R17: a sweep is RUNNING. -/
def SweepState.isRunning : SweepState → Bool
  | .running _ _ _ _ => true
  | .idle | .ended _ => false

/-- R166, check 5: the request executed unless a sweep is RUNNING. -/
def State.unlessSweeping (s : State) (q : MgmtRequest) (run : State) : State :=
  if s.reg.sweep.isRunning then s.reply q .sweepBusy [] else run

/-! ### Records -/

/-- R167: READ-RECORD of a HID: from the entry at a hit, and otherwise by a search as requester M. -/
def State.readHid (s : State) (q : MgmtRequest) (h : Hid) : State :=
  match s.entryOf h with
  | some e => ((s.touch h).setWatch (some ⟨e.addr, h⟩)).reply q .done (recordData e.record e.addr)
  | none => s.setOp ⟨.read h, .primary, none⟩

/-- R167: READ-RECORD at the head; it clears the watch whatever its outcome. -/
def State.runReadRecord (s : State) (q : MgmtRequest) : State :=
  let s := s.setWatch none
  s.withOperands q (readHidOperand q.operands) fun h => s.whenFormatted q (s.readHid q h)

/-- READ_RECORD (R167). -/
def execReadRecord (s : State) : Host.Outcome State Fault Refusal :=
  .next (s.settled ((s.head Cmd.readRecord).map s.runReadRecord))

/-- R169: WRITE-RECORD at the head. -/
def State.runWriteRecord (s : State) (q : MgmtRequest) : State :=
  s.withOperands q (readWriteOperands q.operands) fun w =>
    s.whenFormatted q (s.setOp ⟨.write w.1 w.2.1 w.2.2, .primary, none⟩)

/-- WRITE_RECORD (R169). -/
def execWriteRecord (s : State) : Host.Outcome State Fault Refusal :=
  .next (s.settled ((s.head Cmd.writeRecord).map s.runWriteRecord))

/-- R170: the watch test: the watch was valid and named the HID. -/
def Watch.passes (w : Option Watch) (h : Hid) : Bool :=
  match w with
  | some w => w.hid == h
  | none => false

/-- R170: WRITE-IF-UNCHANGED at the head; the watch is cleared whatever the outcome. -/
def State.runWriteIfUnchanged (s : State) (q : MgmtRequest) : State :=
  let watch := s.mgmt.watch
  let s := s.setWatch none
  s.withOperands q (readWriteOperands q.operands) fun w =>
    s.whenFormatted q
      (if Watch.passes watch w.1 then s.setOp ⟨.write w.1 w.2.1 w.2.2, .primary, none⟩ else s.reply q .watchLost [])

/-- WRITE_IF_UNCHANGED (R170). -/
def execWriteIfUnchanged (s : State) : Host.Outcome State Fault Refusal :=
  .next (s.settled ((s.head Cmd.writeIfUnchanged).map s.runWriteIfUnchanged))

/-- R171: DELETE-RECORD at the head. -/
def State.runDeleteRecord (s : State) (q : MgmtRequest) : State :=
  s.withOperands q (readHidOperand q.operands) fun h => s.whenFormatted q (s.setOp ⟨.delete h, .primary, none⟩)

/-- DELETE_RECORD (R171). -/
def execDeleteRecord (s : State) : Host.Outcome State Fault Refusal :=
  .next (s.settled ((s.head Cmd.deleteRecord).map s.runDeleteRecord))

/-- R8, R171: CLEAR-SLOT at the head; it makes no search. -/
def State.runClearSlot (s : State) (q : MgmtRequest) : State :=
  s.withOperands q (readSlotOperands q.operands) fun a =>
    s.whenFormatted q (s.setOp ⟨.clear, .write a .empty false, none⟩)

/-- CLEAR_SLOT (R8). -/
def execClearSlot (s : State) : Host.Outcome State Fault Refusal :=
  .next (s.settled ((s.head Cmd.clearSlot).map s.runClearSlot))

/-! ### Registry background work -/

/-- R11: a group whose search ends with FORMAT-REGISTRY; it asks for a context and is given NOT FOUND (R26, R31). -/
def Group.searchEnds (g : Group) : Group :=
  match g.phase with
  | .searching _ => { g with phase := .awaiting }
  | .awaiting | .ready _ | .reopened => g

/-- R38: a set with its entries invalid and its mark as it stands. -/
def CacheSet.invalid (c : CacheSet) : CacheSet := { c with way0 := none, way1 := none }

/-- R11, R31, R38, R168: FORMAT-REGISTRY accepted. -/
def State.startFormat (s : State) : State :=
  let t : State :=
    { s with
      reg := { s.reg with
        format := .formatting, formatPos := 0, contexts := Table.all 4 none, startOrder := [], writes := []
        port := s.reg.port.map PortOp.orphan }
      cache := s.cache.map CacheSet.invalid
      sig := { s.sig with groups := s.sig.groups.map Group.searchEnds } }
  t.assignContexts.setWatch none

/-- R11, R166: FORMAT-REGISTRY at the head. -/
def State.runFormat (s : State) (q : MgmtRequest) : State :=
  s.withOperands q (readNothing q.operands) fun _ =>
    if s.reg.format = .formatting then s.reply q .formatting []
    else s.unlessSweeping q (s.startFormat.reply q .done [])

/-- FORMAT_REGISTRY (R11). -/
def execFormatRegistry (s : State) : Host.Outcome State Fault Refusal :=
  .next (s.settled ((s.head Cmd.formatRegistry).map s.runFormat))

/-- R17: a SWEEP accepted. -/
def State.startSweep (s : State) (mode : SweepMode) (first last : BucketId) : State :=
  { s with
    reg := { s.reg with sweep := .running mode first last .reading }
    mgmt := { s.mgmt with sweepList := [], unread := false } }

/-- R17, R166: SWEEP at the head. -/
def State.runSweep (s : State) (q : MgmtRequest) : State :=
  s.withOperands q (readSweepOperands q.operands) fun x =>
    s.whenFormatted q (s.unlessSweeping q ((s.startSweep x.1 x.2.1 x.2.2).reply q .done []))

/-- SWEEP (R17). -/
def execSweep (s : State) : Host.Outcome State Fault Refusal := .next (s.settled ((s.head Cmd.sweep).map s.runSweep))

/-- A sweep entry as 6 bytes. -/
def SweepEntry.bytes (e : SweepEntry) : List Byte := hidBytes e.hid ++ [cellByte e.location]

/-- The resume point; none is sent as FFFFh. -/
def resumeBytes : Option BucketId → List Byte
  | some b => bytes2 b.val
  | none => [0xFF, 0xFF]

/-- The entry count and the entries, in list order. -/
def entryBytes (l : List SweepEntry) : List Byte := BitVec.ofNat 8 l.length :: l.flatMap SweepEntry.bytes

/-- R173: READ-SWEEP's data. -/
def State.sweepData (s : State) : List Byte :=
  match s.reg.sweep with
  | .idle => 0 :: (resumeBytes none ++ [0])
  | .running _ _ _ _ => 1 :: (resumeBytes none ++ entryBytes s.mgmt.sweepList)
  | .ended resume => 2 :: (resumeBytes resume ++ entryBytes s.mgmt.sweepList)

/-- R173: the unread mark cleared, when the sweep has ENDED. -/
def State.readUnread (s : State) : State :=
  match s.reg.sweep with
  | .ended _ => { s with mgmt := { s.mgmt with unread := false } }
  | .idle | .running _ _ _ _ => s

/-- R173: READ-SWEEP at the head. -/
def State.runReadSweep (s : State) (q : MgmtRequest) : State :=
  s.withOperands q (readNothing q.operands) fun _ => s.readUnread.reply q .done s.sweepData

/-- READ_SWEEP (R173). -/
def execReadSweep (s : State) : Host.Outcome State Fault Refusal :=
  .next (s.judged ((s.head Cmd.readSweep).map s.runReadSweep))

/-! ### Tables -/

/-- The tables changed. -/
def State.modTables (s : State) (f : Tables → Tables) : State := { s with tables := f s.tables }

/-- R98: LOAD-PROFILE at the head. -/
def State.runLoadProfile (s : State) (q : MgmtRequest) : State :=
  s.withOperands q (readProfileOperands q.operands) fun x =>
    (s.modTables fun t => { t with profiles := t.profiles.put x.1 x.2 }).reply q .done []

/-- LOAD_PROFILE (R98). -/
def execLoadProfile (s : State) : Host.Outcome State Fault Refusal :=
  .next (s.judged ((s.head Cmd.loadProfile).map s.runLoadProfile))

/-- R95: LOAD-NEIGHBOUR-ROW at the head. -/
def State.runLoadNeighbourRow (s : State) (q : MgmtRequest) : State :=
  s.withOperands q (readNeighbourOperands q.operands) fun x =>
    (s.modTables fun t => { t with neighbours := t.neighbours.put x.1 x.2 }).reply q .done []

/-- LOAD_NEIGHBOUR_ROW (R95). -/
def execLoadNeighbourRow (s : State) : Host.Outcome State Fault Refusal :=
  .next (s.judged ((s.head Cmd.loadNeighbourRow).map s.runLoadNeighbourRow))

/-- R82: cells written into the store from an entry upward. -/
def putCells : Table CellId 128 → Nat → List CellId → Table CellId 128
  | store, _, [] => store
  | store, i, c :: rest => if h : i < 128 then putCells (store.put ⟨i, h⟩ c) (i + 1) rest else store

/-- R82: a zone loaded. -/
def Tables.loadZone (t : Tables) (z : ZoneId) (d : ZoneDesc) (cells : List CellId) : Tables :=
  { t with zones := t.zones.put z d, zoneStore := putCells t.zoneStore d.first cells }

/-- R82: LOAD-ZONE at the head. -/
def State.runLoadZone (s : State) (q : MgmtRequest) : State :=
  s.withOperands q (readZoneOperands q.operands) fun x =>
    (s.modTables fun t => t.loadZone x.1 x.2.1 x.2.2).reply q .done []

/-- LOAD_ZONE (R82). -/
def execLoadZone (s : State) : Host.Outcome State Fault Refusal :=
  .next (s.judged ((s.head Cmd.loadZone).map s.runLoadZone))

/-- R96: LOAD-CELL at the head. -/
def State.runLoadCell (s : State) (q : MgmtRequest) : State :=
  s.withOperands q (readCellOperands q.operands) fun x =>
    (s.modTables fun t => { t with cellConfigs := t.cellConfigs.put x.1 x.2 }).reply q .done []

/-- LOAD_CELL (R96). -/
def execLoadCell (s : State) : Host.Outcome State Fault Refusal :=
  .next (s.judged ((s.head Cmd.loadCell).map s.runLoadCell))

/-- R174: LOAD-TIMING at the head. -/
def State.runLoadTiming (s : State) (q : MgmtRequest) : State :=
  s.withOperands q (readTimingOperands q.operands) fun x =>
    (s.modTables fun t => { t with timing := x }).reply q .done []

/-- LOAD_TIMING (R174). -/
def execLoadTiming (s : State) : Host.Outcome State Fault Refusal :=
  .next (s.judged ((s.head Cmd.loadTiming).map s.runLoadTiming))

/-- R175: the data of a table item, in the layout of the operands of its load. -/
def Tables.itemData (t : Tables) : TableItem → List Byte
  | .profile i => numByte i :: profileData (t.profiles.at i)
  | .neighbourRow c =>
    numByte c :: (t.neighbours.at c).toList.flatMap fun e => [neighbourByte e.standard, neighbourByte e.vehicle]
  | .zone z =>
    [numByte z, BitVec.ofNat 8 (t.zones.at z).first, BitVec.ofNat 8 (t.zones.at z).count] ++ (t.zoneCells z).map numByte
  | .cell c =>
    let x := t.cellConfigs.at c
    [numByte c, numByte x.zone, numByte x.standard, numByte x.vehicle]
  | .timing =>
    bytes2 t.timing.stage1 ++ bytes2 t.timing.stage2 ++ bytes2 t.timing.stage3 ++ bytes2 t.timing.hold
      ++ bytes2 t.timing.clear

/-- R175: READ-TABLE at the head. -/
def State.runReadTable (s : State) (q : MgmtRequest) : State :=
  s.withOperands q (readTableOperands q.operands) fun x => s.reply q .done (s.tables.itemData x)

/-- READ_TABLE (R175). -/
def execReadTable (s : State) : Host.Outcome State Fault Refusal :=
  .next (s.judged ((s.head Cmd.readTable).map s.runReadTable))

/-! ### Links and cells -/

/-- R138: the state a CELL-CONTROL action takes a cell link to; none where the table says "no change". -/
def LinkState.control (st : LinkState) (a : CellAction) : Option LinkState :=
  match a, st with
  | .enable, .off | .enable, .loop => some .down
  | .enable, .down | .enable, .up => none
  | .disable, .off => none
  | .disable, .down | .disable, .up | .disable, .loop => some .off
  | .loop, .loop => none
  | .loop, .off | .loop, .down | .loop, .up => some .loop

/-- R138, R140, R176: the transition of CELL-CONTROL with its consequences. -/
def State.controlCell (s : State) (c : CellId) (a : CellAction) : State :=
  match (s.cells.at c).link.state.control a with
  | some st => s.moveCell c st
  | none => s

/-- A CELL-CONTROL request is one for the action: it gives that action, or it is malformed and gives none (log 18). -/
def isControl (a : CellAction) (ops : List Byte) : Bool := (controlAction ops).getD a == a

/-- R138, R166: CELL-CONTROL at the head, if it is one for the action. -/
def State.control (s : State) (a : CellAction) : Option State :=
  match s.head Cmd.cellControl with
  | some q =>
    if isControl a q.operands then
      some (s.withOperands q (readControlOperands q.operands) fun x => (s.controlCell x.1 a).reply q .done [])
    else none
  | none => none

/-- CELL_CONTROL_ENABLE (R138). -/
def execCellControlEnable (s : State) : Host.Outcome State Fault Refusal := .next (s.judged (s.control .enable))

/-- CELL_CONTROL_DISABLE (R138). -/
def execCellControlDisable (s : State) : Host.Outcome State Fault Refusal := .next (s.judged (s.control .disable))

/-- CELL_CONTROL_LOOP (R138). -/
def execCellControlLoop (s : State) : Host.Outcome State Fault Refusal := .next (s.judged (s.control .loop))

/-- R152: LINK-TEST at the head; it is refused with BAD_VALUE when the link is not in LOOP. -/
def State.runLinkTest (s : State) (q : MgmtRequest) : State :=
  s.withOperands q (readTestOperands q.operands) fun x =>
    if (s.cells.at x.1).link.state = .loop then (s.modCell x.1 fun u => { u with testCount := x.2 }).reply q .done []
    else s.reply q .badValue []

/-- LINK_TEST (R152). -/
def execLinkTest (s : State) : Host.Outcome State Fault Refusal :=
  .next (s.judged ((s.head Cmd.linkTest).map s.runLinkTest))

/-- R148: the test count of a link; 0 for the exchange link. -/
def State.testCount (s : State) : LinkId → Nat
  | .cell c => (s.cells.at c).testCount
  | .exchange => 0

/-- R148: READ-LINK's data. -/
def State.linkData (s : State) (l : LinkId) : List Byte :=
  let u := s.unit l
  [u.state.code, u.flags.byte] ++ bytes2 u.counters.received ++ bytes2 u.counters.strays ++ bytes2 u.counters.late
    ++ bytes2 u.counters.looped ++ [BitVec.ofNat 8 (s.testCount l)]

/-- R148, R186: a link's flags and counters cleared, and its PROTOCOL limit mark. -/
def State.clearLink (s : State) (l : LinkId) : State :=
  (s.modUnit l fun u => { u with flags := .clear, counters := .zero }).setLimit l false

/-- R148: READ-LINK at the head. -/
def State.runReadLink (s : State) (q : MgmtRequest) : State :=
  s.withOperands q (readOne 25 q.operands) fun i =>
    (s.clearLink (linkNumber i)).reply q .done (s.linkData (linkNumber i))

/-- READ_LINK (R148). -/
def execReadLink (s : State) : Host.Outcome State Fault Refusal :=
  .next (s.judged ((s.head Cmd.readLink).map s.runReadLink))

/-- R150: READ-CELL's data. -/
def CellLink.data (u : CellLink) : List Byte :=
  [u.link.state.code, flagByte u.report.radio, flagByte u.report.sync, flagByte u.report.fault, u.marks.marksByte]

/-- R150: READ-CELL at the head; it clears the change marks. -/
def State.runReadCell (s : State) (q : MgmtRequest) : State :=
  s.withOperands q (readOne 24 q.operands) fun c =>
    (s.modCell c fun u => { u with marks := .unmarked }).reply q .done (s.cells.at c).data

/-- READ_CELL (R150). -/
def execReadCell (s : State) : Host.Outcome State Fault Refusal :=
  .next (s.judged ((s.head Cmd.readCell).map s.runReadCell))

/-! ### Calls -/

/-- R177: the timer that the state of a call runs. -/
def CallRecord.timer (r : CallRecord) : Option Time :=
  match r.state with
  | .paging => r.stageTimer
  | .bridged => r.bridgeTimer
  | .holding => r.holdTimer
  | .clearing => r.clearTimer
  | .free | .active => none

/-- R177: READ-CALL at the head. -/
def State.runReadCall (s : State) (q : MgmtRequest) : State :=
  s.withOperands q (readOne 192 q.operands) fun n =>
    let r := s.callOf n
    s.reply q .done (callData s.timeBase n r (s.remaining r.timer))

/-- READ_CALL (R177). -/
def execReadCall (s : State) : Host.Outcome State Fault Refusal :=
  .next (s.judged ((s.head Cmd.readCall).map s.runReadCall))

/-- R69: FORCE-CLEAR acts as END does, and places ENDED(FORCED) for a call in PAGING, ACTIVE, BRIDGED or HOLDING. -/
def State.forceClear (s : State) (n : Circuit) : State :=
  if (s.callOf n).state.inCall then (s.endCircuit n).placeExch (endedFrame n .forced) else s

/-- R178: FORCE-CLEAR at the head. -/
def State.runForceClear (s : State) (q : MgmtRequest) : State :=
  s.withOperands q (readOne 192 q.operands) fun n => (s.forceClear n).reply q .done []

/-- FORCE_CLEAR (R178). -/
def execForceClear (s : State) : Host.Outcome State Fault Refusal :=
  .next (s.judged ((s.head Cmd.forceClear).map s.runForceClear))

/-! ### Attention and capture -/

/-- R182: the code of the cause of highest priority, or 0. -/
def Causes.code (a : Causes) : Byte :=
  if a.capture then 1 else if a.link then 2 else if a.cell then 3 else if a.sweep then 4 else 0

/-- R182: READ-CAUSE at the head. -/
def State.runReadCause (s : State) (q : MgmtRequest) : State :=
  s.withOperands q (readNothing q.operands) fun _ => s.reply q .done [s.attentionSet.code]

/-- READ_CAUSE (R182). -/
def execReadCause (s : State) : Host.Outcome State Fault Refusal :=
  .next (s.judged ((s.head Cmd.readCause).map s.runReadCause))

/-- The Attention and Capture Unit changed. -/
def State.modAttn (s : State) (f : Attention → Attention) : State := { s with attn := f s.attn }

/-- R181: SET-ATTENTION at the head. -/
def State.runSetAttention (s : State) (q : MgmtRequest) : State :=
  s.withOperands q (readAttentionOperands q.operands) fun x => (s.modAttn fun a => { a with enables := x }).reply q .done []

/-- SET_ATTENTION (R181). -/
def execSetAttention (s : State) : Host.Outcome State Fault Refusal :=
  .next (s.judged ((s.head Cmd.setAttention).map s.runSetAttention))

/-- R185: the data of the presented record; none when no capture is held. -/
def Attention.presentedData (a : Attention) : List Byte :=
  match a.captures with
  | c :: _ => captureData c
  | [] => []

/-- R185: READ-CAPTURE at the head; the presented record leaves the queue. -/
def State.runReadCapture (s : State) (q : MgmtRequest) : State :=
  s.withOperands q (readNothing q.operands) fun _ =>
    (s.modAttn fun a => { a with captures := a.captures.tail }).reply q .done s.attn.presentedData

/-- READ_CAPTURE (R185). -/
def execReadCapture (s : State) : Host.Outcome State Fault Refusal :=
  .next (s.judged ((s.head Cmd.readCapture).map s.runReadCapture))

/-- R184: SET-CAPTURE at the head. -/
def State.runSetCapture (s : State) (q : MgmtRequest) : State :=
  s.withOperands q (readCaptureOperands q.operands) fun x =>
    (s.modAttn fun a => { a with captureEnables := x }).reply q .done []

/-- SET_CAPTURE (R184). -/
def execSetCapture (s : State) : Host.Outcome State Fault Refusal :=
  .next (s.judged ((s.head Cmd.setCapture).map s.runSetCapture))

/-! ### Unassigned numbers -/

/-- UNKNOWN_COMMAND (R166). -/
def execUnknownCommand (s : State) : Host.Outcome State Fault Refusal :=
  .next (s.judged ((s.headIf fun b => !Cmd.assigned.contains b).map fun q => s.reply q .unknownCommand []))

end Sys2Proof.Machine
end

