-- ==== Sys2Proof/Machine/Reset.lean ====
section
/-! DEFINITION. The meanings of the two resets: RESTART (R179) and pin reset (R180), as every chapter states them (R21,
R22, R38, R53, R80, R93, R119, R136, R153, R187). -/

namespace Sys2Proof.Machine

open Sys2Proof

/-- R145, R153: a link unit after RESTART. Its state, its silence timer and the frame being sent stand (log 13). -/
def LinkUnit.restart (u : LinkUnit) (now : Time) : LinkUnit :=
  { u with flags := .clear, counters := .zero, rxFifo := [], idleStart := now }

/-- R149, R152, R153: a Cell Link Unit after RESTART. Its report is kept, and the frames sent in LOOP still return (log 27). -/
def CellLink.restart (u : CellLink) (now : Time) : CellLink :=
  { u with
    link := u.link.restart now, sigQueue := [], voiceQueue := [], marks := .unmarked, testCount := 0, sendMark := .voice }

/-- R153: the Exchange Link Unit after RESTART. -/
def ExchLink.restart (u : ExchLink) (now : Time) : ExchLink := { link := u.link.restart now, txQueue := [] }

/-- R10, R11: the format state after RESTART. -/
def FormatState.restart : FormatState → FormatState
  | .formatting => .unformatted
  | .unformatted => .unformatted
  | .formatted => .formatted

/-- R21: the Registry Controller after RESTART. Memory keeps its contents, and the operation on the port runs on. -/
def Registry.restart (r : Registry) : Registry :=
  { r with
    format := r.format.restart, contexts := Table.all 4 none, startOrder := [], readyOrder := [], writes := []
    port := r.port.map PortOp.orphan, pass := .zero, sweep := .idle }

/-- R80: the Call Table after RESTART. A record keeps the profile in force it last copied (R177). -/
def CallTable.restart (t : CallTable) : CallTable :=
  { CallTable.reset with calls := t.calls.map fun r => .free r.profile }

/-- R187: the Attention and Capture Unit after RESTART. The enables are kept. -/
def Attention.restart (a : Attention) : Attention :=
  { a with captures := [], cellLimits := Table.all 24 false, exchLimit := false }

/-- R179: RESTART takes effect in every block in one event. -/
def State.restart (s : State) : State :=
  { s with
    cells := s.cells.map (CellLink.restart · s.timeBase), exch := s.exch.restart s.timeBase, sig := .reset
    reg := s.reg.restart, cache := Table.all 64 .reset, call := s.call.restart, mgmt := .reset, attn := s.attn.restart }

/-- R179: RESTART at the head; its DONE is the first frame of the emptied exchange queue. -/
def State.runRestart (s : State) (q : MgmtRequest) : State :=
  s.withOperands q (readNothing q.operands) fun _ => s.restart.reply q .done []

/-- RESTART (R179). -/
def execRestart (s : State) : Host.Outcome State Fault Refusal :=
  .next (s.judged ((s.head Cmd.restart).map s.runRestart))

/-- PIN_RESET (R180): the whole assertion and release of the reset pin (log 24). Commands that wait stay (log 1), memory is not
written, and the operation on the port runs on (R1). -/
def execPinReset (s : State) : Host.Outcome State Fault Refusal :=
  .next (.pinReset s.pending (s.reg.port.map PortOp.orphan) s.reg.mem)

end Sys2Proof.Machine
end

