-- ==== Sys2Proof/Machine/Signalling.lean ====
section
/-! DEFINITION. The meanings of the signalling rows (R40, R41): one turn of the Signalling Processor each, on a message
of the row's kind. -/

namespace Sys2Proof.Machine

open Sys2Proof

/-! ### Enrolment messages -/

/-- The message is an ENROL. -/
def Msg.isEnrol : Msg → Bool
  | .enrol _ _ => true
  | _ => false

/-- The message is a CAMP. -/
def Msg.isCamp : Msg → Bool
  | .camp _ => true
  | _ => false

/-- The message is a RETIRE. -/
def Msg.isRetire : Msg → Bool
  | .retire _ => true
  | _ => false

/-- ENROL (R47). -/
def execEnrol (s : State) : Host.Outcome State Fault Refusal := .next (s.settled (s.turn Msg.isEnrol actEnrol))

/-- CAMP (R48). -/
def execCamp (s : State) : Host.Outcome State Fault Refusal := .next (s.settled (s.turn Msg.isCamp actCamp))

/-- RETIRE (R49). -/
def execRetire (s : State) : Host.Outcome State Fault Refusal := .next (s.settled (s.turn Msg.isRetire actRetire))

/-- MALFORMED_MESSAGE (R43, R44). -/
def execMalformedMessage (s : State) : Host.Outcome State Fault Refusal := .next (s.judged s.discardMalformed)

/-! ### SEIZE -/

/-- The message is a SEIZE with the purpose. -/
def Msg.isSeize (p : Purpose) : Msg → Bool
  | .seize _ _ q _ => p == q
  | _ => false

/-- SEIZE_ORIGIN (R63). -/
def execSeizeOrigin (s : State) : Host.Outcome State Fault Refusal :=
  .next (s.settled (s.turn (Msg.isSeize .origin) actSeizeOrigin))

/-- SEIZE_ANSWER (R64). -/
def execSeizeAnswer (s : State) : Host.Outcome State Fault Refusal :=
  .next (s.settled (s.turn (Msg.isSeize .answer) actSeizeAnswer))

/-- SEIZE_MOVE_IN (R100). -/
def execSeizeMoveIn (s : State) : Host.Outcome State Fault Refusal :=
  .next (s.settled (s.turn (Msg.isSeize .moveIn) actSeizeMoveIn))

/-! ### OFFER -/

/-- The message is an OFFER. -/
def Msg.isOffer : Msg → Bool
  | .offer _ _ => true
  | _ => false

/-- OFFER (R62). -/
def execOffer (s : State) : Host.Outcome State Fault Refusal := .next (s.settled (s.turn Msg.isOffer actOffer))

/-! ### Messages that name no handset -/

/-- The message is a VACATE. -/
def Msg.isVacate : Msg → Bool
  | .vacate _ => true
  | _ => false

/-- The message is a STATE. -/
def Msg.isState : Msg → Bool
  | .stateReport _ => true
  | _ => false

/-- The message is a RELAY from a cell. -/
def Msg.isRelayFromCell : Msg → Bool
  | .relayFromCell _ _ => true
  | _ => false

/-- The message is an END. -/
def Msg.isEnd : Msg → Bool
  | .endCall _ => true
  | _ => false

/-- The message is a RELAY from the exchange. -/
def Msg.isRelayFromExchange : Msg → Bool
  | .relayFromExchange _ _ => true
  | _ => false

/-- VACATE (R68). -/
def execVacate (s : State) : Host.Outcome State Fault Refusal := .next (s.judged (s.turn Msg.isVacate actVacate))

/-- STATE (R149). -/
def execState (s : State) : Host.Outcome State Fault Refusal := .next (s.judged (s.turn Msg.isState actState))

/-- RELAY_FROM_CELL (R75). -/
def execRelayFromCell (s : State) : Host.Outcome State Fault Refusal :=
  .next (s.judged (s.turn Msg.isRelayFromCell actRelayFromCell))

/-- END (R65). -/
def execEnd (s : State) : Host.Outcome State Fault Refusal := .next (s.judged (s.turn Msg.isEnd actEnd))

/-- RELAY_FROM_EXCHANGE (R76). -/
def execRelayFromExchange (s : State) : Host.Outcome State Fault Refusal :=
  .next (s.judged (s.turn Msg.isRelayFromExchange actRelayFromExchange))

end Sys2Proof.Machine
end

