-- ==== Sys2Proof/Machine/Timers.lean ====
section
/-! DEFINITION. The meanings of the expiries of the timers of calls: hold (R74), clear (R67), stage (R89), bridge
(R109), a leg's silence (R126) and a merge slot's hold deadline (R130). A timer that does not run, or is not due, does
not expire (R56, log 4). -/

namespace Sys2Proof.Machine

open Sys2Proof

/-- R74: the hold timer of call `n` is due. -/
def State.holdDue (s : State) (n : Circuit) : Bool := (s.callOf n).state == .holding && s.dueTimer (s.callOf n).holdTimer

/-- HOLD_TIMER_EXPIRY (R74). -/
def execHoldTimerExpiry (n : Circuit) (s : State) : Host.Outcome State Fault Refusal :=
  .next (s.judged (if s.holdDue n then some (s.loseCall n) else none))

/-- R67: the clear timer of call `n` is due. -/
def State.clearDue (s : State) (n : Circuit) : Bool := (s.callOf n).state == .clearing && s.dueTimer (s.callOf n).clearTimer

/-- CLEAR_TIMER_EXPIRY (R67). -/
def execClearTimerExpiry (n : Circuit) (s : State) : Host.Outcome State Fault Refusal :=
  .next (s.judged (if s.clearDue n then some ((s.freeReleasing n).toFree n) else none))

/-- R89: the stage timer of call `n` is due. -/
def State.stageDue (s : State) (n : Circuit) : Bool := (s.callOf n).state == .paging && s.dueTimer (s.callOf n).stageTimer

/-- STAGE_TIMER_EXPIRY (R89). -/
def execStageTimerExpiry (n : Circuit) (s : State) : Host.Outcome State Fault Refusal :=
  .next (s.judged (if s.stageDue n then some (s.stageExpired n) else none))

/-- R109: the bridge timer of call `n` is due. -/
def State.bridgeDue (s : State) (n : Circuit) : Bool := (s.callOf n).state == .bridged && s.dueTimer (s.callOf n).bridgeTimer

/-- R109: the bridge is settled on the two estimates; a tie keeps the serving leg. -/
def State.bridgeExpired (s : State) (n : Circuit) : State :=
  let r := s.callOf n
  match r.serving, r.candidate with
  | some sl, some cl => if sl.q < cl.q then s.commit n sl cl else s.abandonByExpiry n sl cl
  | _, _ => s

/-- BRIDGE_TIMER_EXPIRY (R109). -/
def execBridgeTimerExpiry (n : Circuit) (s : State) : Host.Outcome State Fault Refusal :=
  .next (s.judged (if s.bridgeDue n then some (s.bridgeExpired n) else none))

/-- R126: the silence timer of a leg of call `n` is due. -/
def State.legSilent (s : State) (n : Circuit) (role : LegRole) : Bool :=
  s.dueTimer (((s.callOf n).leg role).map Leg.silence)

/-- LEG_SILENCE_EXPIRY (R126). -/
def execLegSilenceExpiry (n : Circuit) (role : LegRole) (s : State) : Host.Outcome State Fault Refusal :=
  .next (s.judged (if s.legSilent n role then some (s.loseLeg n role) else none))

/-- R130: the hold deadline of the merge slot at offset `k` of call `n` is due. -/
def State.deadlineDue (s : State) (n : Circuit) (k : Fin 4) : Bool :=
  (s.callOf n).state == .bridged && s.dueTimer ((s.callOf n).deadline k)

/-- HOLD_DEADLINE_EXPIRY (R130). -/
def execHoldDeadlineExpiry (n : Circuit) (k : Fin 4) (s : State) : Host.Outcome State Fault Refusal :=
  .next (s.judged (if s.deadlineDue n k then some (s.deadlineExpired n k) else none))

end Sys2Proof.Machine
end

