-- ==== Sys2Proof/Machine/Dispatch.lean ====
section
/-! DEFINITION. One arm per command: each is one direct call of the command's meaning. -/

namespace Sys2Proof.Machine

open Sys2Proof

/-- The effect of a command on everything but the queue of commands. -/
def exec (i : Instr) (s : State) : Host.Outcome State Fault Refusal :=
  match i with
  | .pinReset => Sys2Proof.Machine.execPinReset s
  | .fillFrameReceived link run => Sys2Proof.Machine.execFillFrameReceived link run s
  | .invalidFrameReceived link run => Sys2Proof.Machine.execInvalidFrameReceived link run s
  | .signallingArrival link run => Sys2Proof.Machine.execSignallingArrival link run s
  | .mgmtArrival run => Sys2Proof.Machine.execMgmtArrival run s
  | .uplinkVoiceFrame c run => Sys2Proof.Machine.execUplinkVoiceFrame c run s
  | .downlinkVoiceFrame run => Sys2Proof.Machine.execDownlinkVoiceFrame run s
  | .loopedFrameReturn c run => Sys2Proof.Machine.execLoopedFrameReturn c run s
  | .frameSend link => Sys2Proof.Machine.execFrameSend link s
  | .frameSendEnd link => Sys2Proof.Machine.execFrameSendEnd link s
  | .fillFrameSend link => Sys2Proof.Machine.execFillFrameSend link s
  | .testFrameSend c => Sys2Proof.Machine.execTestFrameSend c s
  | .linkSilenceExpiry link => Sys2Proof.Machine.execLinkSilenceExpiry link s
  | .malformedMessage => Sys2Proof.Machine.execMalformedMessage s
  | .enrol => Sys2Proof.Machine.execEnrol s
  | .camp => Sys2Proof.Machine.execCamp s
  | .retire => Sys2Proof.Machine.execRetire s
  | .seizeOrigin => Sys2Proof.Machine.execSeizeOrigin s
  | .seizeAnswer => Sys2Proof.Machine.execSeizeAnswer s
  | .seizeMoveIn => Sys2Proof.Machine.execSeizeMoveIn s
  | .vacate => Sys2Proof.Machine.execVacate s
  | .stateReport => Sys2Proof.Machine.execState s
  | .relayFromCell => Sys2Proof.Machine.execRelayFromCell s
  | .offer => Sys2Proof.Machine.execOffer s
  | .endCall => Sys2Proof.Machine.execEnd s
  | .relayFromExchange => Sys2Proof.Machine.execRelayFromExchange s
  | .holdTimerExpiry n => Sys2Proof.Machine.execHoldTimerExpiry n s
  | .clearTimerExpiry n => Sys2Proof.Machine.execClearTimerExpiry n s
  | .stageTimerExpiry n => Sys2Proof.Machine.execStageTimerExpiry n s
  | .bridgeTimerExpiry n => Sys2Proof.Machine.execBridgeTimerExpiry n s
  | .legSilenceExpiry n leg => Sys2Proof.Machine.execLegSilenceExpiry n leg s
  | .holdDeadlineExpiry n k => Sys2Proof.Machine.execHoldDeadlineExpiry n k s
  | .searchReadComplete => Sys2Proof.Machine.execSearchReadComplete s
  | .writeThroughComplete => Sys2Proof.Machine.execWriteThroughComplete s
  | .mgmtReadComplete => Sys2Proof.Machine.execMgmtReadComplete s
  | .mgmtWriteComplete => Sys2Proof.Machine.execMgmtWriteComplete s
  | .emptyWriteComplete => Sys2Proof.Machine.execEmptyWriteComplete s
  | .formatWriteComplete => Sys2Proof.Machine.execFormatWriteComplete s
  | .sweepReadComplete => Sys2Proof.Machine.execSweepReadComplete s
  | .sweepWriteComplete => Sys2Proof.Machine.execSweepWriteComplete s
  | .readRecord => Sys2Proof.Machine.execReadRecord s
  | .writeRecord => Sys2Proof.Machine.execWriteRecord s
  | .writeIfUnchanged => Sys2Proof.Machine.execWriteIfUnchanged s
  | .deleteRecord => Sys2Proof.Machine.execDeleteRecord s
  | .clearSlot => Sys2Proof.Machine.execClearSlot s
  | .formatRegistry => Sys2Proof.Machine.execFormatRegistry s
  | .sweep => Sys2Proof.Machine.execSweep s
  | .readSweep => Sys2Proof.Machine.execReadSweep s
  | .loadProfile => Sys2Proof.Machine.execLoadProfile s
  | .loadNeighbourRow => Sys2Proof.Machine.execLoadNeighbourRow s
  | .loadZone => Sys2Proof.Machine.execLoadZone s
  | .loadCell => Sys2Proof.Machine.execLoadCell s
  | .loadTiming => Sys2Proof.Machine.execLoadTiming s
  | .readTable => Sys2Proof.Machine.execReadTable s
  | .cellControlEnable => Sys2Proof.Machine.execCellControlEnable s
  | .cellControlDisable => Sys2Proof.Machine.execCellControlDisable s
  | .cellControlLoop => Sys2Proof.Machine.execCellControlLoop s
  | .linkTest => Sys2Proof.Machine.execLinkTest s
  | .readLink => Sys2Proof.Machine.execReadLink s
  | .readCell => Sys2Proof.Machine.execReadCell s
  | .readCall => Sys2Proof.Machine.execReadCall s
  | .forceClear => Sys2Proof.Machine.execForceClear s
  | .readCause => Sys2Proof.Machine.execReadCause s
  | .setAttention => Sys2Proof.Machine.execSetAttention s
  | .readCapture => Sys2Proof.Machine.execReadCapture s
  | .setCapture => Sys2Proof.Machine.execSetCapture s
  | .restart => Sys2Proof.Machine.execRestart s
  | .unknownCommand => Sys2Proof.Machine.execUnknownCommand s
  | .portOperationCompletesIntoNothing => Sys2Proof.Machine.execPortOperationCompletesIntoNothing s

end Sys2Proof.Machine
end

