-- ==== Sys2Proof/Safety.lean ====
section
/-! DEFINITION. What counts as a safe state of the block: the properties that every step keeps and that hold after
reset. Each names the rule that promises it. -/

namespace Sys2Proof.Machine

open Sys2Proof

/-- R1: registry memory is in its canonical form, inside its 131072 bytes. -/
def State.MemoryOk (s : State) : Prop := Memory.wf s.reg.mem = true

/-- R137, R139, R140: the exchange link is DOWN or UP; it holds frames to send only in UP, and its silence timer runs
exactly in UP. -/
structure State.ExchangeOk (s : State) : Prop where
  state : s.exch.link.state = .down ∨ s.exch.link.state = .up
  queue : s.exch.link.state ≠ .up → s.exch.txQueue = []
  silence : s.exch.link.silence.isSome = true ↔ s.exch.link.state = .up

/-- R183: the attention pin is active exactly while the attention set is not empty. -/
def State.PinOk (s : State) : Prop := s.attn.pin = s.attentionSet.any

/-- R143, R144, R135: the FIFO and the queues of a Cell Link Unit hold no more than their sizes. -/
structure CellLink.Fits (u : CellLink) : Prop where
  fifo : u.link.rxFifo.length ≤ Config.cellFifoSize
  signalling : u.sigQueue.length ≤ Config.sigQueueSize
  voice : u.voiceQueue.length ≤ Config.voiceQueueSize

/-- R143, R144: the FIFO and the queue of the Exchange Link Unit hold no more than their sizes. -/
structure ExchLink.Fits (u : ExchLink) : Prop where
  fifo : u.link.rxFifo.length ≤ Config.exchFifoSize
  queue : u.txQueue.length ≤ Config.exchQueueSize

/-- R143, R144: every link's FIFO and queues hold no more than their sizes. -/
def State.LinksFit (s : State) : Prop := (∀ c, (s.cells.at c).Fits) ∧ s.exch.Fits

/-- R14, R13: the write-through queue holds no more than 16 writes, and no pass count exceeds 8. -/
structure Registry.Fits (r : Registry) : Prop where
  writes : r.writes.length ≤ Config.writeQueueSize
  passW : r.pass.w ≤ Config.overdue
  passS : r.pass.s ≤ Config.overdue
  passM : r.pass.m ≤ Config.overdue
  passB : r.pass.b ≤ Config.overdue

/-- R27, R39: parking holds no more than 8 messages, and fewer while a message is held. -/
def SigProc.Fits (p : SigProc) : Prop :=
  p.parked.length ≤ Config.parkingSize ∧ (p.held.isSome = true → p.parked.length < Config.parkingSize)

/-- R164, R18: the management queue holds no more than 4 requests, and the sweep result list no more than 32
entries. -/
def Management.Fits (m : Management) : Prop :=
  m.queue.length ≤ Config.mgmtQueueSize ∧ m.sweepList.length ≤ Config.sweepListSize

/-- R185: the capture queue holds no more than 4 records. -/
def Attention.Fits (a : Attention) : Prop := a.captures.length ≤ Config.captureQueueSize

/-- R57: the free queue holds the circuits whose calls are FREE, and each at most once. -/
def State.FreeQueueOk (s : State) : Prop :=
  s.call.freeQueue.Nodup ∧ ∀ n, n ∈ s.call.freeQueue ↔ (s.callOf n).state = .free

/-- R55: which legs, last serving cell and merge window a call holds in its state. -/
def CallRecord.shapeOk (r : CallRecord) : Bool :=
  match r.state with
  | .free | .paging | .clearing => r.serving.isNone && r.candidate.isNone && r.lastServing.isNone && r.window.isNone
  | .active => r.serving.isSome && r.candidate.isNone && r.lastServing.isNone && r.window.isNone
  | .bridged => r.serving.isSome && r.candidate.isSome && r.lastServing.isNone && r.window.isSome
  | .holding => r.serving.isNone && r.candidate.isNone && r.lastServing.isSome && r.window.isNone

/-- R55: which HID, direction and class a call holds in its state. -/
def CallRecord.claimOk (r : CallRecord) : Bool :=
  match r.state with
  | .free | .clearing => r.hid.isNone && r.direction.isNone && r.mclass.isNone
  | .paging | .active | .bridged | .holding => r.hid.isSome && r.direction.isSome && r.mclass.isSome

/-- R55: the state of every call decides the fields it holds. -/
def State.CallsOk (s : State) : Prop := ∀ n, (s.callOf n).shapeOk = true ∧ (s.callOf n).claimOk = true

/-- A leg stands on the bearer (c, k). -/
def legOn (c : CellId) (k : SlotId) (g : Option Leg) : Prop := g.map (fun g => (g.cell, g.slot)) = some (c, k)

/-- R58: a bearer is SERVING or CANDIDATE for a circuit exactly when that call's leg of the role stands on it. -/
def State.BearersOk (s : State) : Prop :=
  ∀ c k n, (s.bearer c k = .serving n ↔ legOn c k (s.callOf n).serving) ∧
    (s.bearer c k = .candidate n ↔ legOn c k (s.callOf n).candidate)

/-- R107: a bearer is RELEASING only for a call in ACTIVE, BRIDGED or CLEARING: a call enters HOLDING with no RELEASING
bearer, and one that goes to FREE leaves none. -/
def State.ReleasingOk (s : State) : Prop :=
  ∀ c k n, s.bearer c k = .releasing n →
    (s.callOf n).state = .active ∨ (s.callOf n).state = .bridged ∨ (s.callOf n).state = .clearing

/-- R43: the level of a waiting message is at most 63. -/
def Msg.levelOk : Msg → Bool
  | .seize _ _ _ level => level ≤ 63
  | .enrol _ _ | .retire _ | .camp _ | .vacate _ | .stateReport _ | .relayFromCell _ _ | .offer _ _ | .endCall _
  | .relayFromExchange _ _ => true

/-- R122: every leg's estimate lies within 0 to 4032, and the levels that wait to seed one are at most 63. -/
structure State.EstimatesOk (s : State) : Prop where
  serving : ∀ n g, (s.callOf n).serving = some g → g.q ≤ Config.qualityMax
  candidate : ∀ n g, (s.callOf n).candidate = some g → g.q ≤ Config.qualityMax
  held : ∀ m, s.sig.held = some m → m.msg.levelOk = true
  parked : ∀ m ∈ s.sig.parked, m.msg.levelOk = true

/-- Conventions, Counters: no counter of a link exceeds 65535. -/
structure LinkCounters.Ok (k : LinkCounters) : Prop where
  received : k.received ≤ Config.counterMax
  strays : k.strays ≤ Config.counterMax
  late : k.late ≤ Config.counterMax
  looped : k.looped ≤ Config.counterMax

/-- Conventions, Counters: every link's counters. -/
def State.CountersOk (s : State) : Prop := ∀ l, (s.unit l).counters.Ok

/-- R139, R140, R151: a cell link holds frames to send only in UP and LOOP, a silence timer only in UP, and a test count
and frames that are to return only in LOOP. -/
structure CellLink.StateOk (u : CellLink) : Prop where
  queues : u.link.state.queues = false → u.sigQueue = [] ∧ u.voiceQueue = []
  silence : u.link.silence.isSome = true ↔ u.link.state = .up
  test : u.testCount ≠ 0 → u.link.state = .loop
  returning : u.returning ≠ [] → u.link.state = .loop

/-- R139, R140, R151: every cell link's queues, timer, test count and returning frames agree with its state. -/
def State.CellsOk (s : State) : Prop := ∀ c, (s.cells.at c).StateOk

/-- R55: at most one call in PAGING, ACTIVE, BRIDGED or HOLDING names a given HID. -/
def State.HidsOk (s : State) : Prop :=
  ∀ n m, (s.callOf n).state.inCall = true → (s.callOf m).state.inCall = true → (s.callOf n).hid = (s.callOf m).hid →
    (s.callOf n).hid ≠ none → n = m

/-- R127: between events slot 0 of a merge window does not hold frames from both legs, and a slot has a hold deadline
exactly when it holds a frame. -/
structure Window.Ok (w : Window) : Prop where
  first : (w.slots.at 0).full = false
  deadline : ∀ k, (w.slots.at k).deadline.isSome = ((w.slots.at k).serving.isSome || (w.slots.at k).candidate.isSome)

/-- R127: every merge window. -/
def State.WindowsOk (s : State) : Prop := ∀ n w, (s.callOf n).window = some w → w.Ok

/-- R14: the write-through queue holds at most one write per record. -/
def State.WritesOk (s : State) : Prop := (s.reg.writes.map QueuedWrite.addr).Nodup

/-- R23, R37: each valid entry stands in the set of its HID, and no HID has two. The rest is what a fill rests on: one
group per HID (R27), a SEARCHING group for each context that holds a search (R26), and no valid entry for the HID of a
group that is not READY with FOUND (R25, R29). -/
structure State.LookupOk (s : State) : Prop where
  place : ∀ i w e, (s.cache.at i).get w = some e → cacheSetOf e.record.hid = i
  alone : ∀ i e f, (s.cache.at i).way0 = some e → (s.cache.at i).way1 = some f → e.record.hid ≠ f.record.hid
  groups : (s.sig.groups.map Group.hid).Nodup
  searches : ∀ c x, s.reg.contexts.at c = some x → ⟨x.hid, .searching c⟩ ∈ s.sig.groups
  misses : ∀ g ∈ s.sig.groups, g.phase ≠ .ready true → s.entryOf g.hid = none

/-- R15: the held message, if there is one, waits: the write-through queue has no room and holds no write for its
record. -/
def State.HeldWaits (s : State) : Prop := ∀ m, s.sig.held = some m → s.releasable m = false

/-- A safe state: the properties that every step keeps. -/
structure State.Safe (s : State) : Prop where
  memory : s.MemoryOk
  exchange : s.ExchangeOk
  pin : s.PinOk
  links : s.LinksFit
  registry : s.reg.Fits
  parking : s.sig.Fits
  management : s.mgmt.Fits
  captures : s.attn.Fits
  freeQueue : s.FreeQueueOk
  calls : s.CallsOk
  bearers : s.BearersOk
  releasing : s.ReleasingOk
  hids : s.HidsOk
  windows : s.WindowsOk
  estimates : s.EstimatesOk
  counters : s.CountersOk
  cells : s.CellsOk
  writes : s.WritesOk
  lookups : s.LookupOk
  held : s.HeldWaits

/-! ### Terms of the claims -/

/-- The row of the opcode table that takes a message of a kind. -/
def Msg.row : Msg → Instr
  | .enrol _ _ => .enrol
  | .camp _ => .camp
  | .retire _ => .retire
  | .seize _ _ .origin _ => .seizeOrigin
  | .seize _ _ .answer _ => .seizeAnswer
  | .seize _ _ .moveIn _ => .seizeMoveIn
  | .vacate _ => .vacate
  | .stateReport _ => .stateReport
  | .relayFromCell _ _ => .relayFromCell
  | .offer _ _ => .offer
  | .endCall _ => .endCall
  | .relayFromExchange _ _ => .relayFromExchange

/-- R183: the ATTENTION frame that the end of an event owes: one when the attention set went from empty to not empty. -/
def owed (before after : Causes) : List Frame := if after.any && !before.any then [attentionFrame] else []

/-- R183: `t` is `u` once the attention set has been judged at the end of an event that began in `s`. The last two
clauses say what becomes of an ATTENTION frame: it is the last frame placed when the link is UP with room for it, and
it is dropped when the link is DOWN. -/
structure Ends (s u t : State) : Prop where
  pending : t.pending = u.pending
  timeBase : t.timeBase = u.timeBase
  cells : t.cells = u.cells
  sig : t.sig = u.sig
  reg : t.reg = u.reg
  cache : t.cache = u.cache
  call : t.call = u.call
  tables : t.tables = u.tables
  mgmt : t.mgmt = u.mgmt
  attn : t.attn = { u.attn with pin := t.attentionSet.any }
  placed : u.exchUp = true → u.exch.txQueue.length < Config.exchQueueSize →
    t.exch = { u.exch with txQueue := u.exch.txQueue ++ owed s.attentionSet t.attentionSet }
  dropped : u.exch.link.state = .down → t.exch = u.exch

/-- R15: no message is held, or one is and waits while the port is busy, so that no grant makes room for it. -/
def State.KeepsHeld (s : State) : Prop := s.sig.held = none ∨ (s.reg.port.isSome = true ∧ s.HeldWaits)

/-- R12, R13, R183: `t` is `u` once the memory port has been granted and the attention set judged at the end of an event
that began in `s`. While the port is busy nothing leaves the write-through queue; at an idle port its oldest write may go
on the port (R14), or a write of M may take the queued write of its slot away (R9). Only a sweep that has a write to make
may move on, past a write that is skipped (R19). -/
structure Settles (s u t : State) : Prop where
  pending : t.pending = u.pending
  timeBase : t.timeBase = u.timeBase
  cells : t.cells = u.cells
  sig : t.sig = u.sig
  cache : t.cache = u.cache
  call : t.call = u.call
  tables : t.tables = u.tables
  mem : t.reg.mem = u.reg.mem
  format : t.reg.format = u.reg.format
  formatPos : t.reg.formatPos = u.reg.formatPos
  contexts : t.reg.contexts = u.reg.contexts
  queue : t.mgmt.queue = u.mgmt.queue
  op : t.mgmt.op = u.mgmt.op
  watch : t.mgmt.watch = u.mgmt.watch
  sweepList : t.mgmt.sweepList = u.mgmt.sweepList
  busy : u.reg.port.isSome = true →
    t.reg.port = u.reg.port ∧ t.reg.writes = u.reg.writes ∧ t.reg.sweep = u.reg.sweep ∧ t.mgmt.unread = u.mgmt.unread
  idle : u.reg.port = none → t.reg.writes = u.reg.writes ∨
    (∃ w, u.reg.writes = w :: t.reg.writes ∧ t.reg.port = some (.writeThrough w.addr w.image)) ∨
    ∃ job a image insert damaged, u.mgmt.op = some ⟨job, .write a image insert, damaged⟩ ∧
      t.reg.port = some (u.composeWrite job a image insert) ∧ t.reg.writes = u.reg.writes.filter (·.addr ≠ a)
  sweep : (∀ mode b last image todo, u.reg.sweep ≠ .running mode b last (.writing image todo)) →
    t.reg.sweep = u.reg.sweep ∧ t.mgmt.unread = u.mgmt.unread
  attn : t.attn = { u.attn with pin := t.attentionSet.any }
  placed : u.exchUp = true → u.exch.txQueue.length < Config.exchQueueSize →
    t.exch = { u.exch with txQueue := u.exch.txQueue ++ owed s.attentionSet t.attentionSet }
  dropped : u.exch.link.state = .down → t.exch = u.exch

/-- R32, R14, R9: at the end of an event that queued the write-through of the record `r` at address `a`, that write stands in
the write-through queue, is on the port, or has been taken away at the grant of M's write to the slot, an update being
composed from it. -/
def State.WriteQueued (t : State) (a : RecAddr) (r : Record) : Prop :=
  ⟨a, r⟩ ∈ t.reg.writes ∨ t.reg.port = some (.writeThrough a r) ∨
    ∃ job image insert damaged, t.mgmt.op = some ⟨job, .write a image insert, damaged⟩ ∧
      t.reg.port = some (match job with
        | .write h standing mclass =>
          .mgmtWrite a (if insert then .inserted h standing mclass else r.managed standing mclass)
        | .read _ | .delete _ | .clear => .emptyWrite a)

/-- R40, R41: the Signalling Processor takes next the message `m`, carried by the frame `f`, from the FIFO of link `l`;
no group of its HID is parked (R25). -/
structure TakesNext (s : State) (l : LinkId) (f : Frame) (m : Msg) : Prop where
  held : s.sig.held = none
  ready : s.sig.firstReady = none
  room : s.sig.parked.length < Config.parkingSize
  first : s.nextFrame = some (l, f)
  parsed : parseFrom l f = some m
  alone : ∀ h, m.hid = some h → s.sig.groupOf h = none

/-- R25: the lookup of a HID ends at once: NOT FOUND while the registry is not FORMATTED, and otherwise a hit. -/
def State.Finds (s : State) (h : Hid) (found : Option CacheEntry) : Prop :=
  match found with
  | none => s.reg.format ≠ .formatted
  | some e => s.reg.format = .formatted ∧ s.entryOf h = some e

/-- The state in which a message taken from a link is acted on: the message has left its FIFO, the intake position names
the link (R41), and a hit has moved the set's mark (R24). -/
def State.takenFor (s : State) (l : LinkId) (h : Hid) (found : Option CacheEntry) : State :=
  match found with
  | none => s.takeFrame l
  | some _ => (s.takeFrame l).touch h

/-- R165: the request `q` is at the head of the management queue, its execution not begun, before `rest`. -/
def State.AtHead (s : State) (q : MgmtRequest) (rest : List MgmtRequest) : Prop :=
  s.mgmt.op = none ∧ s.mgmt.queue = q :: rest

/-- R165: the state with the head request gone and its reply placed. -/
def State.answered (s : State) (q : MgmtRequest) (rest : List MgmtRequest) (outcome : MgmtOutcome) (data : List Byte) :
    State :=
  let t : State := { s with mgmt := { s.mgmt with queue := rest, op := none } }
  t.placeExch (replyFrame q.tag q.command outcome data)

/-- R138, R139, R147: a link unit once a valid frame other than fill has arrived at the count `now`. -/
def LinkUnit.afterArrival (u : LinkUnit) (now : Time) : LinkUnit :=
  { u with
    state := .up, silence := some (now + 16), idleStart := if u.state = .up then u.idleStart else now
    counters := { u.counters with received := min (u.counters.received + 1) 65535 } }

/-- R60: the leg that a SEIZE of level `level` creates on (c, k) at the count `now`, with L from the profile. -/
def Leg.seeded (c : CellId) (k : SlotId) (level : Nat) (now : Time) (p : Profile) : Leg :=
  { cell := c, slot := k, q := 64 * level, expected := none, miss := 0, silence := now + BitVec.ofNat 32 (p.l * 10) }

/-- R96, R99: the profile a call takes when it enters ACTIVE with its serving leg at a cell. -/
def Tables.activeProfile (t : Tables) (c : CellId) : MobClass → Profile
  | .standard => t.profiles.at (t.cellConfigs.at c).standard
  | .vehicle => t.profiles.at (t.cellConfigs.at c).vehicle

/-- R108, R106, R110, R111: a call back in ACTIVE on the leg kept at the end of a bridge, its window's base as given. -/
def CallRecord.closedOn (r : CallRecord) (g : Leg) (base : Option Seq) (p : Profile) : CallRecord :=
  { r with
    state := .active, serving := some { g with expected := base, miss := 0 }, candidate := none, dwell := 0
    bridgeTimer := none, window := none, profile := p }

/-- R72: a call in HOLDING after the loss of its serving leg `g`, its hold timer set to `expiry`. -/
def CallRecord.heldFrom (r : CallRecord) (g : Leg) (expiry : Time) : CallRecord :=
  { r with
    state := .holding, serving := none, candidate := none, lastServing := some g.cell, dwell := 0, bridgeTimer := none
    window := none, holdTimer := some expiry }

/-- R66: a call in CLEARING, its clear timer set to `expiry`. -/
def CallRecord.clearingFrom (r : CallRecord) (expiry : Time) : CallRecord :=
  { CallRecord.free r.profile with state := .clearing, clearTimer := some expiry }

/-- R72, R110: the LEG_LOST capture of the serving leg `g` of the call `r` on circuit `n`; `qc` is the candidate's
estimate. -/
def legLostOf (r : CallRecord) (n : Circuit) (g : Leg) (qc : Option Nat) (now : Time) : Capture :=
  ⟨.legLost, now, false,
    { circuit := some n, hid := r.hid, cell := some g.cell, slot := some g.slot.val, callState := some r.state
      qServing := some g.q, qCandidate := qc }⟩

/-- R118: the HANDOVER_ABANDONED capture of a bridge whose candidate leg `cl` is given up. -/
def abandonedOf (r : CallRecord) (n : Circuit) (sl cl : Leg) (now : Time) : Capture :=
  ⟨.handoverAbandoned, now, false,
    { circuit := some n, hid := r.hid, cell := some cl.cell, slot := some cl.slot.val, callState := some r.state
      qServing := some sl.q, qCandidate := some cl.q }⟩

/-- The legs and calls of other circuits, and the bearers other than (c, k), are as they were. -/
def CallTable.SameBut (u t : CallTable) (n : Circuit) (c : CellId) (k : SlotId) : Prop :=
  (∀ m, m ≠ n → t.calls.at m = u.calls.at m) ∧
    ∀ d j, ¬(d = c ∧ j = k) → (t.bearers.at d).at j = (u.bearers.at d).at j

/-- R55, R57: `t` is `s` with the call of circuit `n` gone to FREE and its circuit at the tail of the free queue. -/
structure FreesCall (s t : State) (n : Circuit) : Prop where
  call : t.callOf n = .free (s.callOf n).profile
  queue : t.call.freeQueue = s.call.freeQueue ++ [n]
  others : ∀ m, m ≠ n → t.callOf m = s.callOf m

/-- R72, R74: with a hold time of 0 the loss of the serving leg `g` of the ACTIVE call `n` loses the call in the same
event: LEG_LOST is captured first and CALL_LOST next, and ENDED(LOST) is placed. `u` is the state with which the event
began, and `s` that state with what the event had taken. -/
structure LosesCall (u s t : State) (n : Circuit) (g : Leg) : Prop where
  freed : FreesCall s t n
  bearer : t.bearer g.cell g.slot = .free
  ended : s.exchUp = true → s.exch.txQueue.length + 2 ≤ 64 →
    t.exch.txQueue = s.exch.txQueue ++ endedFrame n .lost :: owed u.attentionSet t.attentionSet
  captures : s.attn.captureEnables.legLost = true → s.attn.captureEnables.callLost = true →
    s.attn.captures.length + 2 ≤ 4 → t.attn.captures = s.attn.captures ++
      [legLostOf (s.callOf n) n g none s.timeBase,
        ⟨.callLost, s.timeBase, false,
          { circuit := some n, hid := (s.callOf n).hid, cell := some g.cell, callState := some .holding }⟩]

/-- R65, R66, R69: `t` is `s` once END or FORCE-CLEAR has acted on circuit `n`, as far as the Call Table and the cell
links go. -/
structure EndsCall (s t : State) (n : Circuit) : Prop where
  ended : (s.callOf n).state = .free ∨ (s.callOf n).state = .clearing → t.call = s.call ∧ t.cells = s.cells
  paging : (s.callOf n).state = .paging →
    FreesCall s t n ∧ t.call.bearers = s.call.bearers ∧ t.cells = s.cells
  active : ∀ g, (s.callOf n).state = .active → (s.callOf n).serving = some g → (s.callOf n).candidate = none →
    t.callOf n = (s.callOf n).clearingFrom (s.timeBase + BitVec.ofNat 32 s.tables.timing.clear) ∧
    t.bearer g.cell g.slot = .releasing n ∧ s.call.SameBut t.call n g.cell g.slot ∧
    t.call.freeQueue = s.call.freeQueue ∧ t.cells = (s.placeSig g.cell (clearFrame g.slot)).cells
  bridged : ∀ g h, (s.callOf n).state = .bridged → (s.callOf n).serving = some g → (s.callOf n).candidate = some h →
    t.callOf n = (s.callOf n).clearingFrom (s.timeBase + BitVec.ofNat 32 s.tables.timing.clear) ∧
    t.bearer g.cell g.slot = .releasing n ∧ t.bearer h.cell h.slot = .releasing n ∧
    (∀ m, m ≠ n → t.callOf m = s.callOf m) ∧
    (∀ c k, ¬(c = g.cell ∧ k = g.slot) → ¬(c = h.cell ∧ k = h.slot) → t.bearer c k = s.bearer c k) ∧
    t.call.freeQueue = s.call.freeQueue ∧
    t.cells = ((s.placeSig g.cell (clearFrame g.slot)).placeSig h.cell (clearFrame h.slot)).cells
  holding : (s.callOf n).state = .holding → (s.callOf n).serving = none → (s.callOf n).candidate = none →
    (∀ c k, s.bearer c k ≠ .releasing n) →
    FreesCall s t n ∧ t.call.bearers = s.call.bearers ∧ t.cells = s.cells

/-- R71, R114: `t` is `s` once every bearer of cell `c` has left its use with the cell's link. -/
structure LosesCell (s t : State) (c : CellId) : Prop where
  bearers : ∀ k, t.bearer c k = .free
  serving : ∀ n g, (t.callOf n).serving = some g → g.cell ≠ c
  candidate : ∀ n g, (t.callOf n).candidate = some g → g.cell ≠ c
  active : ∀ n g, (s.callOf n).state = .active → (s.callOf n).serving = some g → g.cell = c →
    0 < s.tables.timing.hold →
    t.callOf n = (s.callOf n).heldFrom g (s.timeBase + BitVec.ofNat 32 s.tables.timing.hold)
  lost : ∀ n g, (s.callOf n).state = .active → (s.callOf n).serving = some g → g.cell = c →
    s.tables.timing.hold = 0 → t.callOf n = .free (s.callOf n).profile ∧ n ∈ t.call.freeQueue
  both : ∀ n g h, (s.callOf n).state = .bridged → (s.callOf n).serving = some g → (s.callOf n).candidate = some h →
    g.cell = c → h.cell = c → 0 < s.tables.timing.hold →
    t.callOf n = (s.callOf n).heldFrom g (s.timeBase + BitVec.ofNat 32 s.tables.timing.hold)
  committed : ∀ n g h, (s.callOf n).state = .bridged → (s.callOf n).serving = some g →
    (s.callOf n).candidate = some h → g.cell = c → h.cell ≠ c →
    t.callOf n = (s.callOf n).closedOn h ((s.callOf n).window.bind Window.base)
      (s.tables.activeProfile h.cell (s.callOf n).classOr) ∧ t.bearer h.cell h.slot = .serving n
  abandoned : ∀ n g h, (s.callOf n).state = .bridged → (s.callOf n).serving = some g →
    (s.callOf n).candidate = some h → g.cell ≠ c → h.cell = c →
    t.callOf n = (s.callOf n).closedOn g ((s.callOf n).window.bind Window.base)
      (s.tables.activeProfile g.cell (s.callOf n).classOr) ∧ t.bearer g.cell g.slot = .serving n
  cleared : ∀ n, (s.callOf n).state = .clearing → (∀ d k, d ≠ c → s.bearer d k ≠ .releasing n) →
    t.callOf n = .free (s.callOf n).profile ∧ n ∈ t.call.freeQueue
  clearing : ∀ n, (s.callOf n).state = .clearing → (∃ d k, d ≠ c ∧ s.bearer d k = .releasing n) →
    t.callOf n = s.callOf n
  untouched : ∀ n, (s.callOf n).state ≠ .clearing → legAt c (s.callOf n).serving = false →
    legAt c (s.callOf n).candidate = false → t.callOf n = s.callOf n

/-- R129: emissions of slot 0 of a window, as long as the call is still BRIDGED. -/
def State.emissions (n : Circuit) (est : Nat × Nat) : Nat → State → State
  | 0, s => s
  | k + 1, s => if (s.callOf n).state = .bridged then State.emissions n est k (s.emit n est) else s

end Sys2Proof.Machine
end

