-- ==== Sys2Proof/Certificates/Slice0/Obligations.lean ====
section
/-! DEFINITION. The statements for the provers. Each docstring names the rules of spec/ that it formalises. -/

open Sys2Proof Sys2Proof.Machine

/-! ### The machine as a whole -/

/-- A step with a command at the front of the queue runs that command on the rest. -/
def Obligations.StepRunsTheFrontCommand : Prop :=
  ∀ (s : State) (c : Instr) (rest : List Instr), s.pending = c :: rest → step s = exec c { s with pending := rest }

/-- The model's choice (log 2): a step with no command waiting counts one millisecond and changes nothing else. -/
def Obligations.IdleStepCountsOneMillisecond : Prop :=
  ∀ s : State, s.pending = [] → step s = .next { s with timeBase := s.timeBase + 1 }

/-- Every property that steps keep holds right after reset. -/
def Obligations.ResetIsSafe : Prop := State.reset.Safe

/-- R180, R22, R38, R53, R80, R153, R187: what a pin reset leaves. That the commands that wait stay waiting is the
model's choice (log 24). -/
def Obligations.PinResetStartsEveryBlockAfresh : Prop :=
  ∀ s : State, ∃ t, exec .pinReset s = .next t ∧ t.timeBase = 0 ∧
    (∀ c, (t.cells.at c).link.state = .off ∧ (t.cells.at c).link.silence = none ∧ (t.cells.at c).link.rxFifo = [] ∧
      (t.cells.at c).sigQueue = [] ∧ (t.cells.at c).voiceQueue = [] ∧ (t.cells.at c).testCount = 0 ∧
      (t.cells.at c).returning = [] ∧ (t.cells.at c).report = ⟨true, true, false⟩ ∧ (t.cells.at c).marks = ⟨false, false, false⟩) ∧
    t.exch.link.state = .down ∧ t.exch.txQueue = [] ∧ t.exch.link.rxFifo = [] ∧
    (∀ l, (t.unit l).flags.any = false ∧ (t.unit l).counters = ⟨0, 0, 0, 0⟩) ∧
    t.sig = ⟨.exchange, none, [], []⟩ ∧
    t.reg.format = .unformatted ∧ t.reg.mem = s.reg.mem ∧ t.reg.writes = [] ∧ t.reg.sweep = .idle ∧
    t.reg.formatPos = 0 ∧ t.reg.pass = ⟨0, 0, 0, 0⟩ ∧ (∀ c, t.reg.contexts.at c = none) ∧
    (∀ i, t.cache.at i = ⟨none, none, .way0⟩) ∧
    (∀ n, t.callOf n = .free ⟨4, 1536, 256, 192, 8, 1280, 300, 12, 4⟩) ∧ t.call.freeQueue = ascending 192 ∧
    (∀ c k, t.bearer c k = .free) ∧
    (∀ i, t.tables.profiles.at i = ⟨4, 1536, 256, 192, 8, 1280, 300, 12, 4⟩) ∧
    (∀ a b, (t.tables.neighbours.at a).at b = ⟨some 0, some 0⟩) ∧ (∀ c, t.tables.cellConfigs.at c = ⟨0, 0, 0⟩) ∧
    (∀ z, t.tables.zones.at z = ⟨0, 0⟩) ∧ (∀ i, t.tables.zoneStore.at i = 0) ∧
    t.tables.timing = ⟨800, 1200, 2000, 2000, 500⟩ ∧ t.mgmt = ⟨[], none, none, [], false⟩ ∧
    t.attn.enables = ⟨false, false, false, false⟩ ∧ t.attn.captureEnables = ⟨true, true, true, true, true, true⟩ ∧
    t.attn.captures = [] ∧ t.attn.pin = false ∧ t.pending = s.pending

/-! ### Invariants that every step keeps -/

/-- R1. -/
def Obligations.MemoryStaysCanonical : Prop := ∀ s t : State, s.MemoryOk → step s = .next t → t.MemoryOk

/-- R183. -/
def Obligations.PinShowsTheAttentionSet : Prop := ∀ s t : State, s.PinOk → step s = .next t → t.PinOk

/-- R143, R144, R135, R14, R13, R27, R164, R18, R185. -/
def Obligations.QueuesStayWithinTheirSizes : Prop :=
  ∀ s t : State, (s.LinksFit ∧ s.reg.Fits ∧ s.sig.Fits ∧ s.mgmt.Fits ∧ s.attn.Fits) → step s = .next t →
    t.LinksFit ∧ t.reg.Fits ∧ t.sig.Fits ∧ t.mgmt.Fits ∧ t.attn.Fits

/-- R57. -/
def Obligations.FreeQueueHoldsTheFreeCircuits : Prop := ∀ s t : State, s.FreeQueueOk → step s = .next t → t.FreeQueueOk

/-- R55, R127: the state of each call decides the fields it holds; no two calls in PAGING, ACTIVE, BRIDGED or HOLDING hold
the same HID; and slot 0 of a merge window never waits with frames from both legs, and its deadlines go with its
frames. -/
def Obligations.CallRecordsStayConsistent : Prop :=
  (∀ s t : State, s.CallsOk → step s = .next t → t.CallsOk) ∧ (∀ s t : State, s.HidsOk → step s = .next t → t.HidsOk) ∧
    ∀ s t : State, (s.CallsOk ∧ s.WindowsOk) → step s = .next t → t.WindowsOk

/-- R58, R107: a bearer is SERVING or CANDIDATE exactly for the legs of calls; and it is RELEASING only for a call in
ACTIVE, BRIDGED or CLEARING. -/
def Obligations.BearersMatchLegs : Prop :=
  (∀ s t : State, (s.FreeQueueOk ∧ s.CallsOk ∧ s.BearersOk) → step s = .next t → t.BearersOk) ∧
    ∀ s t : State, (s.FreeQueueOk ∧ s.CallsOk ∧ s.BearersOk ∧ s.ReleasingOk) → step s = .next t → t.ReleasingOk

/-- R122; Conventions, Counters; R147: every estimate stays within 0 to 4032 and every link counter within 0 to 65535. -/
def Obligations.EstimatesAndCountersStayInRange : Prop :=
  (∀ s t : State, s.EstimatesOk → step s = .next t → t.EstimatesOk) ∧
    ∀ s t : State, s.CountersOk → step s = .next t → t.CountersOk

/-- R37, R23, R27, R14: no HID has two valid cache entries and each stands in the set of its HID, one group per HID with
at most one search; and the write-through queue holds at most one write per record. -/
def Obligations.CacheAndWritesStayUnique : Prop :=
  (∀ s t : State, s.LookupOk → step s = .next t → t.LookupOk) ∧
    ∀ s t : State, s.WritesOk → step s = .next t → t.WritesOk

/-- R137, R139, R140, R151, R152: the exchange link is DOWN or UP, with its transmit queue empty in DOWN and its silence
timer running exactly in UP; and every cell link's queues, timer, test count and returning frames agree with its state. That
nothing is to return once a link has left LOOP is the model's reading (log 27). -/
def Obligations.LinksAgreeWithTheirState : Prop :=
  (∀ s t : State, s.ExchangeOk → step s = .next t → t.ExchangeOk) ∧
    ∀ s t : State, s.CellsOk → step s = .next t → t.CellsOk

/-! ### Frames, records, arithmetic -/

/-- R157, R156: a frame whose length its class allows is sent as a run of length + 5 bytes that is judged valid and
read back as the same frame. -/
def Obligations.EveryFrameIsReadBack : Prop :=
  ∀ f : Frame, classAllows (classOf f.kind) f.body.length = true →
    f.run.length = f.body.length + 5 ∧ judge f.run = .valid f

/-- R163, R162, R2: a record written is read back, an empty record reads as an empty slot, and no other slot changes. -/
def Obligations.EveryRecordIsReadBack : Prop :=
  ∀ (mem : List Host.Cell) (a : RecAddr) (r : Record), Memory.wf mem = true →
    (r.hid ≠ 0 → (r.location.isSome = true ↔ r.attach = .attached) → slotView (writeRecord mem a r) a = .occupied r) ∧
    slotView (writeRecord mem a .empty) a = .empty ∧
    ∀ b, b ≠ a → slotView (writeRecord mem a r) b = slotView mem b

/-- R3: the buckets and the cache set of a HID. -/
def Obligations.HidHasTwoBuckets : Prop :=
  ∀ h : Hid,
    (primaryBucket h).val =
      (h.toNat % 2048 + h.toNat / 2048 % 2048 + h.toNat / 4194304 % 2048 + h.toNat / 8589934592) % 2048 ∧
    (alternateBucket h).val = ((primaryBucket h).val + 683) % 2048 ∧ alternateBucket h ≠ primaryBucket h ∧
    (cacheSetOf h).val = (primaryBucket h).val % 64 ∧ h.toNat / 8589934592 ≤ 127

/-- R122: one update of an estimate, for every weight, estimate and sample in range: the rounded step, and the new value
between the old one and the sample. -/
def Obligations.EstimateMovesTowardItsSample : Prop :=
  ∀ w q x : Nat, 1 ≤ w → w ≤ 16 → q ≤ 4032 → x ≤ 4032 →
    (updateEstimate w q x : Int) = (q : Int) + (((x : Int) - q) * w + 8) / 16 ∧
    min q x ≤ updateEstimate w q x ∧ updateEstimate w q x ≤ max q x ∧ updateEstimate 16 q x = x

/-! ### Links -/

/-- R138, R139, R141, R156, R157, R151: a fill frame moves a DOWN link to UP and restarts the silence timer of an UP
link; a run that fails framing or its check sets its flag and has no other effect; and on a looped link the oldest frame
that is to return is counted or flagged, and then discarded. Only a frame that was sent returns. With which bytes it returns
is the line's (log 27). -/
def Obligations.RunsActOnTheirLink : Prop :=
  (∀ (s : State) (l : LinkId) (run : List Byte), (s.unit l).state = .down ∨ (s.unit l).state = .up →
    (∀ f, judge run = .valid f → f.kind = Kind.fill → ∃ t, exec (.fillFrameReceived l run) s = .next t ∧
      Ends s (s.modUnit l fun u =>
        { u with state := .up, silence := some (s.timeBase + 16)
                 idleStart := if u.state = .up then u.idleStart else s.timeBase }) t) ∧
    (judge run = .framingError → ∃ t, exec (.invalidFrameReceived l run) s = .next t ∧
      Ends s (s.modUnit l fun u => { u with flags := { u.flags with framingError := true } }) t) ∧
    (judge run = .checkError → ∃ t, exec (.invalidFrameReceived l run) s = .next t ∧
      Ends s (s.modUnit l fun u => { u with flags := { u.flags with checkError := true } }) t)) ∧
  (∀ (s : State) (c : CellId) (run : List Byte), (s.cells.at c).link.state ≠ .loop ∨ (s.cells.at c).returning = [] →
    exec (.loopedFrameReturn c run) s = .next s) ∧
  ∀ (s : State) (c : CellId) (run : List Byte) (sent : Frame) (rest : List Frame), (s.cells.at c).link.state = .loop →
    (s.cells.at c).returning = sent :: rest →
    let ends (f : LinkUnit → LinkUnit) : Prop := ∃ t, exec (.loopedFrameReturn c run) s = .next t ∧
      Ends s (s.modCell c fun u => { u with link := f u.link, returning := rest }) t
    (run = sent.run → classAllows (classOf sent.kind) sent.body.length = true → sent.kind ≠ Kind.fill →
      ends fun u => { u with counters := { u.counters with looped := min (u.counters.looped + 1) 65535 } }) ∧
    (∀ f, judge run = .valid f → f.kind ≠ Kind.fill →
      ends fun u => { u with counters := { u.counters with looped := min (u.counters.looped + 1) 65535 } }) ∧
    (∀ f, judge run = .valid f → f.kind = Kind.fill → ends id) ∧
    (judge run = .framingError → ends fun u => { u with flags := { u.flags with framingError := true } }) ∧
    (judge run = .checkError → ends fun u => { u with flags := { u.flags with checkError := true } })

/-- R143, R141, R39: a signalling message joins the tail of its link's FIFO, or is lost at a full one with
RX_OVERRUN. -/
def Obligations.SignallingMessageJoinsTheFifo : Prop :=
  ∀ (s : State) (l : LinkId) (run : List Byte) (f : Frame), (s.unit l).state = .down ∨ (s.unit l).state = .up →
    judge run = .valid f → isSignallingKind l f.kind = true →
    let size := match l with | .cell _ => 8 | .exchange => 16
    ∃ t, exec (.signallingArrival l run) s = .next t ∧
      Ends s (s.modUnit l fun u =>
        if u.rxFifo.length < size then { u.afterArrival s.timeBase with rxFifo := u.rxFifo ++ [f] }
        else { u.afterArrival s.timeBase with flags := { u.flags with rxOverrun := true } }) t

/-- R164, R161: a MGMT frame joins the management queue, is answered QUEUE_FULL at a full one, or is discarded for want
of a header. -/
def Obligations.ManagementRequestJoinsTheQueue : Prop :=
  ∀ (s : State) (run : List Byte) (f : Frame), s.exch.link.state = .down ∨ s.exch.link.state = .up →
    judge run = .valid f → f.kind = Kind.mgmt →
    let u := s.modUnit .exchange fun x => x.afterArrival s.timeBase
    (∀ tag command operands, f.body = tag :: command :: operands →
      (s.mgmt.queue.length < 4 → ∃ t, exec (.mgmtArrival run) s = .next t ∧
        Ends s { u with mgmt := { s.mgmt with queue := s.mgmt.queue ++ [⟨tag, command, operands⟩] } } t) ∧
      (4 ≤ s.mgmt.queue.length → ∃ t, exec (.mgmtArrival run) s = .next t ∧
        Ends s (u.placeExch (replyFrame tag command .queueFull [])) t)) ∧
    (f.body.length < 2 → ∃ t, exec (.mgmtArrival run) s = .next t ∧ t.mgmt = s.mgmt ∧ t.call = s.call ∧
      t.exch.link.flags.protocol = true ∧ t.exch.link.rxFifo = s.exch.link.rxFifo)

/-- R142, R141, R147, R185, R186: a voice frame with a field out of range, its tag or level on a cell link and its tag on the
exchange link, counts as received and is discarded with the PROTOCOL flag. The PROTOCOL capture, with the cell and a slot in
range, is made once per clearing of that flag: it joins the capture queue, or at a full one marks the newest record as
overflowed, and it sets the link's limit mark. -/
def Obligations.VoiceFrameOutOfRangeIsDiscarded : Prop :=
  let discarded (s : State) (i : Instr) (l : LinkId) (slot : Option Nat) : Prop :=
    let ends (u : State) : Prop := ∃ t, exec i s = .next t ∧ Ends s u t
    let u := s.modUnit l fun x =>
      let y := x.afterArrival s.timeBase
      { y with flags := { y.flags with protocol := true } }
    let queue := s.attn.captures
    let record : Capture := ⟨.protocol, s.timeBase, false, { cell := linkCell l, slot }⟩
    let limited (captures : List Capture) : State :=
      ({ u with attn := { u.attn with captures } } : State).setLimit l true
    (s.attn.captureEnables.protocol = false ∨ s.limit l = true → ends u) ∧
    (s.attn.captureEnables.protocol = true → s.limit l = false →
      (queue.length < 4 → ends (limited (queue ++ [record]))) ∧
      ∀ older newest, queue = older ++ [newest] → 4 ≤ queue.length →
        ends (limited (older ++ [{ newest with overflowed := true }])))
  (∀ (s : State) (c : CellId) (run : List Byte) (f : Frame) (v : Voice),
    (s.cells.at c).link.state = .down ∨ (s.cells.at c).link.state = .up →
    judge run = .valid f → f.kind = Kind.voice → voiceOf f.body = some v →
    (12 ≤ v.tag.toNat → discarded s (.uplinkVoiceFrame c run) (.cell c) none) ∧
    (v.tag.toNat < 12 → 63 < v.level.toNat → discarded s (.uplinkVoiceFrame c run) (.cell c) (some v.tag.toNat))) ∧
  ∀ (s : State) (run : List Byte) (f : Frame) (v : Voice), s.exch.link.state = .down ∨ s.exch.link.state = .up →
    judge run = .valid f → f.kind = Kind.voice → voiceOf f.body = some v → 191 < v.tag.toNat →
    discarded s (.downlinkVoiceFrame run) .exchange none

/-- R120, R121, R122, R124, R125, R126: an uplink frame on the serving leg of an ACTIVE call: the first frame, a late
frame, and a frame in order or ahead. -/
def Obligations.ActiveUplinkFrameIsForwarded : Prop :=
  ∀ (s : State) (c : CellId) (run : List Byte) (f : Frame) (v : Voice) (k : SlotId) (n : Circuit) (g : Leg),
    (s.cells.at c).link.state = .down ∨ (s.cells.at c).link.state = .up →
    judge run = .valid f → f.kind = Kind.voice → voiceOf f.body = some v → v.tag.toNat = k.val → v.level.toNat ≤ 63 →
    s.bearer c k = .serving n → (s.callOf n).state = .active → (s.callOf n).serving = some g →
    let p := (s.callOf n).profile
    let heard := s.modUnit (.cell c) fun x => x.afterArrival s.timeBase
    let silence := s.timeBase + BitVec.ofNat 32 (p.l * 10)
    let forwarded (q : Nat) : State :=
      (heard.modCall n fun r =>
        { r with serving := some { g with q, expected := some (v.seq + 1), silence } }).placeExch
          ⟨0x01, BitVec.ofNat 8 n.val :: v.seq :: v.level :: (v.quality &&& 7) :: v.speech⟩
    (g.expected = none → ∃ t, exec (.uplinkVoiceFrame c run) s = .next t ∧
      Ends s (forwarded (updateEstimate p.w g.q (score p v))) t) ∧
    ∀ e, g.expected = some e →
      (128 ≤ (v.seq - e).toNat → ∃ t, exec (.uplinkVoiceFrame c run) s = .next t ∧
        Ends s ((heard.modCall n fun r => { r with serving := some { g with silence } }).modUnit (.cell c) fun x =>
          { x with counters := { x.counters with late := min (x.counters.late + 1) 65535 } }) t) ∧
      ((v.seq - e).toNat < 128 → ∃ t, exec (.uplinkVoiceFrame c run) s = .next t ∧
        Ends s (forwarded (updateEstimate p.w (zeroSamples p.w (v.seq - e).toNat g.q) (score p v))) t)

/-- R120, R126, R127, R128, R129: an uplink frame on a FREE or RELEASING bearer is a stray; and a frame from a leg of a
BRIDGED call: late, a duplicate, placed with its score and its slot's hold deadline, completing slot 0, or past the
window, which is advanced first. The base is the first frame's number when it is none. That every emission of an advance
carries the estimates from before the whole event, and with them a capture that a later emission makes (R118), is the model's
reading (log 9). -/
def Obligations.BridgedUplinkFrameIsPlaced : Prop :=
  ∀ (s : State) (c : CellId) (run : List Byte) (f : Frame) (v : Voice) (k : SlotId),
    (s.cells.at c).link.state = .down ∨ (s.cells.at c).link.state = .up →
    judge run = .valid f → f.kind = Kind.voice → voiceOf f.body = some v → v.tag.toNat = k.val → v.level.toNat ≤ 63 →
    let heard := s.modUnit (.cell c) fun x => x.afterArrival s.timeBase
    let ends (u : State) : Prop := ∃ t, exec (.uplinkVoiceFrame c run) s = .next t ∧ Ends s u t
    let stray (u : State) : State := u.modUnit (.cell c) fun x =>
      { x with counters := { x.counters with strays := min (x.counters.strays + 1) 65535 } }
    ((s.bearer c k = .free ∨ ∃ n, s.bearer c k = .releasing n) → ends (stray heard)) ∧
    ∀ (n : Circuit) (role : LegRole) (sl cl : Leg) (win : Window),
      s.bearer c k = (match role with | .serving => .serving n | .candidate => .candidate n) →
      (s.callOf n).state = .bridged → (s.callOf n).serving = some sl → (s.callOf n).candidate = some cl →
      (s.callOf n).window = some win → (win.slots.at 0).full = false →
      let p := (s.callOf n).profile
      let silence := s.timeBase + BitVec.ofNat 32 (p.l * 10)
      let b := win.base.getD v.seq
      let o := (v.seq - b).toNat
      let own : StoredFrame := ⟨v, score p v⟩
      let stored (m : MergeSlot) : MergeSlot :=
        let deadline := some (m.deadline.getD (s.timeBase + BitVec.ofNat 32 p.m))
        match role with
        | .serving => { m with serving := some own, deadline }
        | .candidate => { m with candidate := some own, deadline }
      let restarted (w : Window) : State := heard.modCall n fun r =>
        match role with
        | .serving => { r with serving := some { sl with silence }, window := some w }
        | .candidate => { r with candidate := some { cl with silence }, window := some w }
      (128 ≤ o → ends ((restarted ⟨some b, win.slots⟩).modUnit (.cell c) fun x =>
        { x with counters := { x.counters with late := min (x.counters.late + 1) 65535 } })) ∧
      (∀ h : o < 4,
        let m := win.slots.at ⟨o, h⟩
        let put := restarted ⟨some b, Table.put win.slots ⟨o, h⟩ (stored m)⟩
        ((m.of role).isSome = true → ends (restarted ⟨some b, win.slots⟩)) ∧
        (m.of role = none → ¬(o = 0 ∧ (stored m).full = true) → ends put) ∧
        (m.of role = none → o = 0 → (stored m).full = true → (win.slots.at 1).full = false →
          ends (put.emit n (sl.q, cl.q)))) ∧
      (4 ≤ o → o < 128 → (∀ j : Fin 4, j.val = o - 3 → (win.slots.at j).full = false) →
        let u := State.emissions n (sl.q, cl.q) (o - 3) (restarted ⟨some b, win.slots⟩)
        (∀ w, (u.callOf n).state = .bridged → (u.callOf n).window = some w → ends (u.modCall n fun r =>
          { r with window := some { w with slots := Table.put w.slots 3 (stored (w.slots.at 3)) } })) ∧
        (∀ g e, (u.callOf n).state = .active → u.bearer c k = .serving n → (u.callOf n).serving = some g →
          g.expected = some e → (v.seq - e).toNat < 128 →
          let q := (u.callOf n).profile
          ends ((u.modCall n fun r =>
            { r with serving := some { g with
                q := updateEstimate q.w (zeroSamples q.w (v.seq - e).toNat g.q) (score q v)
                expected := some (v.seq + 1) } }).placeExch
            ⟨0x01, BitVec.ofNat 8 n.val :: v.seq :: v.level :: (v.quality &&& 7) :: v.speech⟩)) ∧
        ((u.callOf n).state ≠ .bridged → ¬((u.callOf n).state = .active ∧ u.bearer c k = .serving n) →
          ends (stray u)))

/-- R131, R132, R105, R106, R108, R110, R111, R112, R118, R72, R74: one emission: the better frame is forwarded, and both
legs and the base move. When neither miss run has reached L, the evaluation commits by rescue or dwell or counts the lead. A
leg whose miss run has reached L is lost: the candidate alone, to ACTIVE on the serving leg; the serving leg alone, to ACTIVE
on the candidate; and both, to HOLDING, or to FREE with a hold time of 0. That the capture shows the estimates given, those
before the whole event, is the model's reading (log 9). -/
def Obligations.EmissionMovesBothLegs : Prop :=
  ∀ (s : State) (n : Circuit) (est : Nat × Nat) (sl cl : Leg) (win : Window) (b : Seq),
    (s.callOf n).state = .bridged → (s.callOf n).serving = some sl → (s.callOf n).candidate = some cl →
    (s.callOf n).window = some win → win.base = some b →
    let r := s.callOf n
    let t := s.emit n est
    let slot := win.slots.at 0
    let sl' : Leg := { sl with
      q := updateEstimate r.profile.w sl.q ((slot.serving.map StoredFrame.score).getD 0)
      miss := if slot.serving.isSome then 0 else sl.miss + 1 }
    let cl' : Leg := { cl with
      q := updateEstimate r.profile.w cl.q ((slot.candidate.map StoredFrame.score).getD 0)
      miss := if slot.candidate.isSome then 0 else cl.miss + 1 }
    let lead := if sl'.q + r.profile.h ≤ cl'.q then r.dwell + 1 else 0
    let commits := (sl'.q < r.profile.f ∧ r.profile.f ≤ cl'.q) ∨ lead = r.profile.t
    let forwarded : List Frame := match slot.serving, slot.candidate with
      | some x, some y => [forwardedFrame n (if x.score < y.score then y.voice else x.voice)]
      | some x, none => [forwardedFrame n x.voice]
      | none, some y => [forwardedFrame n y.voice]
      | none, none => []
    let places (more : List Frame) : Prop := s.exchUp = true → s.exch.txQueue.length + 1 + more.length ≤ 64 →
      t.exch.txQueue = s.exch.txQueue ++ forwarded ++ more
    let bridge (kind : CaptureKind) (g : Leg) : Capture := ⟨kind, s.timeBase, false,
      { circuit := some n, hid := r.hid, cell := some g.cell, slot := some g.slot.val, callState := some .bridged
        qServing := some est.1, qCandidate := some est.2 }⟩
    let apart := ¬(sl.cell = cl.cell ∧ sl.slot = cl.slot)
    let others (freed : Bool) : Prop := ∀ c k, ¬(c = sl.cell ∧ k = sl.slot) → ¬(c = cl.cell ∧ k = cl.slot) →
      t.bearer c k = if freed = true ∧ s.bearer c k = .releasing n then .free else s.bearer c k
    (sl'.miss < r.profile.l → cl'.miss < r.profile.l →
      (commits → t.callOf n = r.closedOn cl' (some (b + 1)) (s.tables.activeProfile cl.cell r.classOr) ∧
        t.bearer cl.cell cl.slot = .serving n ∧ (apart → t.bearer sl.cell sl.slot = .releasing n) ∧ others false ∧
        t.cells = (s.placeSig sl.cell (clearFrame sl.slot)).cells ∧ t.attn = s.attn) ∧
      (¬commits → t.callOf n =
          { r with
            serving := some sl', candidate := some cl', dwell := lead
            window := some ⟨some (b + 1), #v[win.slots.at 1, win.slots.at 2, win.slots.at 3, ⟨none, none, none⟩]⟩ } ∧
        t.call.bearers = s.call.bearers ∧ t.cells = s.cells ∧ t.attn = s.attn) ∧ places []) ∧
    (sl'.miss < r.profile.l → r.profile.l ≤ cl'.miss →
      t.callOf n = r.closedOn sl' (some (b + 1)) (s.tables.activeProfile sl.cell r.classOr) ∧
      t.bearer sl.cell sl.slot = .serving n ∧ (apart → t.bearer cl.cell cl.slot = .free) ∧ others false ∧
      t.cells = s.cells ∧ places [] ∧
      (s.attn.captureEnables.handoverAbandoned = true → s.attn.captures.length < 4 →
        t.attn.captures = s.attn.captures ++ [bridge .handoverAbandoned cl])) ∧
    (r.profile.l ≤ sl'.miss → cl'.miss < r.profile.l →
      t.callOf n = r.closedOn cl' (some (b + 1)) (s.tables.activeProfile cl.cell r.classOr) ∧
      t.bearer cl.cell cl.slot = .serving n ∧ (apart → t.bearer sl.cell sl.slot = .free) ∧ others false ∧
      t.cells = s.cells ∧ places [] ∧
      (s.attn.captureEnables.legLost = true → s.attn.captures.length < 4 →
        t.attn.captures = s.attn.captures ++ [bridge .legLost sl])) ∧
    (r.profile.l ≤ sl'.miss → r.profile.l ≤ cl'.miss →
      t.bearer sl.cell sl.slot = .free ∧ t.bearer cl.cell cl.slot = .free ∧ others true ∧ t.cells = s.cells ∧
      (0 < s.tables.timing.hold →
        t.callOf n = r.heldFrom sl (s.timeBase + BitVec.ofNat 32 s.tables.timing.hold) ∧
        t.call.freeQueue = s.call.freeQueue ∧ places [] ∧
        (s.attn.captureEnables.legLost = true → s.attn.captures.length < 4 →
          t.attn.captures = s.attn.captures ++ [bridge .legLost sl])) ∧
      (s.tables.timing.hold = 0 → t.callOf n = .free r.profile ∧ t.call.freeQueue = s.call.freeQueue ++ [n] ∧
        places [endedFrame n .lost] ∧
        (s.attn.captureEnables.legLost = true → s.attn.captureEnables.callLost = true →
          s.attn.captures.length + 2 ≤ 4 → t.attn.captures = s.attn.captures ++
            [bridge .legLost sl, ⟨.callLost, s.timeBase, false,
              { circuit := some n, hid := r.hid, cell := some sl.cell, callState := some .holding }⟩]))) ∧
    ∀ m, m ≠ n → t.callOf m = s.callOf m

/-- R134: a downlink frame is copied to each leg's cell, with the leg's slot as its tag, the frame's sequence number and
speech, and 0 in level and quality (error flag and slip count), or counted as a stray. -/
def Obligations.DownlinkFrameIsCopiedToEachLeg : Prop :=
  ∀ (s : State) (run : List Byte) (f : Frame) (v : Voice) (n : Circuit),
    s.exch.link.state = .down ∨ s.exch.link.state = .up →
    judge run = .valid f → f.kind = Kind.voice → voiceOf f.body = some v → v.tag.toNat = n.val →
    let u := s.modUnit .exchange fun x => x.afterArrival s.timeBase
    let copy (g : Leg) : Frame := ⟨0x01, BitVec.ofNat 8 g.slot.val :: v.seq :: 0 :: 0 :: v.speech⟩
    (∀ g, (s.callOf n).state = .active → (s.callOf n).serving = some g →
      ∃ t, exec (.downlinkVoiceFrame run) s = .next t ∧ Ends s (u.placeVoice g.cell (copy g)) t) ∧
    (∀ g h, (s.callOf n).state = .bridged → (s.callOf n).serving = some g → (s.callOf n).candidate = some h →
      ∃ t, exec (.downlinkVoiceFrame run) s = .next t ∧
        Ends s ((u.placeVoice g.cell (copy g)).placeVoice h.cell (copy h)) t) ∧
    ((s.callOf n).state ≠ .active → (s.callOf n).state ≠ .bridged →
      ∃ t, exec (.downlinkVoiceFrame run) s = .next t ∧
        Ends s (u.modUnit .exchange fun x =>
          { x with counters := { x.counters with strays := min (x.counters.strays + 1) 65535 } }) t)

/-- R145, R151, R152, R160: the beginnings and the end of sending, on a link that is not OFF. A frame whose sending ends on a
cell link in LOOP is to return. -/
def Obligations.FramesAreSentInTurn : Prop :=
  ∀ (s : State) (c : CellId),
    ((s.cells.at c).link.state ≠ .off → (s.cells.at c).link.sending = none →
      (∀ f rest, (s.cells.at c).sigQueue = f :: rest →
        (s.cells.at c).voiceQueue = [] ∨ (s.cells.at c).sendMark = .voice →
        exec (.frameSend (.cell c)) s = .next (s.modCell c fun u =>
          { u with link := { u.link with sending := some f }, sigQueue := rest, sendMark := .signalling })) ∧
      (∀ f rest, (s.cells.at c).voiceQueue = f :: rest →
        (s.cells.at c).sigQueue = [] ∨ (s.cells.at c).sendMark = .signalling →
        exec (.frameSend (.cell c)) s = .next (s.modCell c fun u =>
          { u with link := { u.link with sending := some f }, voiceQueue := rest, sendMark := .voice })) ∧
      ((s.cells.at c).sigQueue = [] → (s.cells.at c).voiceQueue = [] → (s.cells.at c).testCount = 0 →
        4 ≤ (s.timeBase - (s.cells.at c).link.idleStart).toNat →
        exec (.fillFrameSend (.cell c)) s = .next (s.modCell c fun u =>
          { u with link := { u.link with sending := some fillFrame } })) ∧
      ((s.cells.at c).link.state = .loop → (s.cells.at c).sigQueue = [] → (s.cells.at c).voiceQueue = [] →
        (s.cells.at c).testCount ≠ 0 →
        exec (.testFrameSend c) s = .next (s.modCell c fun u =>
          { u with link := { u.link with sending := some (testFrame u.testCount) }
                   testCount := u.testCount - 1 }))) ∧
    (s.exch.link.state ≠ .off → s.exch.link.sending = none → ∀ f rest, s.exch.txQueue = f :: rest →
      exec (.frameSend .exchange) s = .next (s.modExch fun u =>
        { u with link := { u.link with sending := some f }, txQueue := rest })) ∧
    (s.exch.link.state ≠ .off → s.exch.link.sending = none → s.exch.txQueue = [] →
      4 ≤ (s.timeBase - s.exch.link.idleStart).toNat →
      exec (.fillFrameSend .exchange) s = .next (s.modExch fun u =>
        { u with link := { u.link with sending := some ⟨0x00, []⟩ } })) ∧
    (∀ f, (s.cells.at c).link.sending = some f →
      exec (.frameSendEnd (.cell c)) s = .next (s.modCell c fun u =>
        { u with
          link := { u.link with sending := none, idleStart := s.timeBase }
          returning := if u.link.state = .loop then u.returning ++ [f] else u.returning })) ∧
    ∀ f, s.exch.link.sending = some f →
      exec (.frameSendEnd .exchange) s = .next (s.modExch fun u =>
        { u with link := { u.link with sending := none, idleStart := s.timeBase } })

/-- R139, R140, R71, R72, R110, R111, R67: the silence of a cell link: the link is DOWN, nothing is left to send, every
bearer of the cell is FREE, and each call is as the loss of its legs there leaves it. -/
def Obligations.SilentCellLinkLosesItsBearers : Prop :=
  ∀ (s : State) (c : CellId) (x : Time), (s.cells.at c).link.state = .up → (s.cells.at c).link.silence = some x →
    s.due x = true → s.CallsOk → s.BearersOk →
    ∃ t, exec (.linkSilenceExpiry (.cell c)) s = .next t ∧ (t.cells.at c).link.state = .down ∧
      (t.cells.at c).link.silence = none ∧ (t.cells.at c).link.flags.silence = true ∧ (t.cells.at c).sigQueue = [] ∧
      (t.cells.at c).voiceQueue = [] ∧ (t.cells.at c).link.rxFifo = (s.cells.at c).link.rxFifo ∧
      (∀ d, d ≠ c → t.cells.at d = s.cells.at d) ∧ LosesCell s t c ∧
      t.sig = s.sig ∧ t.reg = s.reg ∧ t.cache = s.cache ∧ t.tables = s.tables ∧ t.mgmt = s.mgmt

/-- R139, R140, R77, R66, R67, R57: the silence of the exchange link: the link is DOWN, and no call is left in PAGING,
ACTIVE, BRIDGED or HOLDING. PAGING and HOLDING calls are FREE, their circuits at the free queue's tail in ascending order;
ACTIVE and BRIDGED calls are CLEARING, the bearer of each leg RELEASING and CLEAR placed for its cell, in ascending circuit
order and for the serving leg first; and one EXCHANGE_LOST capture is made if a call was ACTIVE, BRIDGED or HOLDING. -/
def Obligations.SilentExchangeLinkEndsEveryCall : Prop :=
  ∀ (s : State) (x : Time), s.exch.link.state = .up → s.exch.link.silence = some x → s.due x = true →
    ∃ t, exec (.linkSilenceExpiry .exchange) s = .next t ∧ t.exch.link.state = .down ∧ t.exch.link.silence = none ∧
      t.exch.link.flags.silence = true ∧ t.exch.txQueue = [] ∧ t.exch.link.rxFifo = s.exch.link.rxFifo ∧
      (∀ n, (t.callOf n).state = .free ∨ (t.callOf n).state = .clearing) ∧
      (∀ n, (s.callOf n).state = .free ∨ (s.callOf n).state = .clearing → t.callOf n = s.callOf n) ∧
      (s.CallsOk → s.BearersOk → s.ReleasingOk →
        let legs := (ascending 192).flatMap fun n => (s.callOf n).serving.toList ++ (s.callOf n).candidate.toList
        (∀ n, (s.callOf n).state = .paging ∨ (s.callOf n).state = .holding → t.callOf n = .free (s.callOf n).profile) ∧
        (∀ n, (s.callOf n).state = .active ∨ (s.callOf n).state = .bridged →
          t.callOf n = (s.callOf n).clearingFrom (s.timeBase + BitVec.ofNat 32 s.tables.timing.clear)) ∧
        (∀ c k, t.bearer c k = match s.bearer c k with
          | .serving n | .candidate n => .releasing n
          | b => b) ∧
        t.cells = (legs.foldl (fun v g => v.placeSig g.cell (clearFrame g.slot)) s).cells ∧
        t.call.freeQueue = s.call.freeQueue ++ (ascending 192).filter fun n =>
          (s.callOf n).state = .paging ∨ (s.callOf n).state = .holding) ∧
      let clears : Prop := ∃ n, (s.callOf n).state = .active ∨ (s.callOf n).state = .bridged ∨ (s.callOf n).state = .holding
      (clears → s.attn.captureEnables.exchangeLost = true → s.attn.captures.length < 4 →
        t.attn.captures = s.attn.captures ++ [⟨.exchangeLost, s.timeBase, false, {}⟩]) ∧
      (¬clears → t.attn.captures = s.attn.captures) ∧
      t.sig = s.sig ∧ t.reg = s.reg ∧ t.cache = s.cache ∧ t.tables = s.tables ∧ t.mgmt = s.mgmt

/-! ### Signalling -/

/-- R43, R44, R41: a malformed message is discarded when taken, and the PROTOCOL flag of its link is set. How the
slot and HID of its capture are read from the frame is the model's reading (log 10). -/
def Obligations.MalformedMessageIsDiscarded : Prop :=
  ∀ (s : State) (l : LinkId) (f : Frame), s.sig.held = none → s.sig.firstReady = none →
    s.sig.parked.length < 8 → s.nextFrame = some (l, f) → parseFrom l f = none →
    ∃ t, exec .malformedMessage s = .next t ∧ t.sig = { s.sig with intake := l } ∧
      (t.unit l).rxFifo = (s.unit l).rxFifo.tail ∧ (t.unit l).flags.protocol = true ∧
      (s.attn.captureEnables.protocol = true → s.limit l = false → s.attn.captures.length < 4 →
        t.attn.captures = s.attn.captures ++
          [⟨.protocol, s.timeBase, false, { cell := linkCell l, slot := (slotField f).map Fin.val, hid := hidField f }⟩] ∧
        t.limit l = true) ∧
      (s.attn.captureEnables.protocol = false ∨ s.limit l = true → t.attn.captures = s.attn.captures) ∧
      t.call = s.call ∧ t.reg = s.reg ∧ t.cache = s.cache ∧ t.tables = s.tables ∧ t.mgmt = s.mgmt

/-- R47, R48, R49, R46, R32, R15, R168: ENROL by its lookup: the three replies and the location update with its
write-through; CAMP by its lookup: a refusal for an unknown or DETACHED handset, and an unanswered location update for an
ATTACHED one, made only on a PERMITTED record; and RETIRE, which detaches a found handset and is ignored when the handset
is not found. A change that has no room in the write-through queue is held. -/
def Obligations.EnrolCampAndRetireChangeTheRecord : Prop :=
  (∀ (s : State) (c : CellId) (f : Frame) (h : Hid) (level : Nat), TakesNext s (.cell c) f (.enrol h level) →
    (s.Finds h none → ∃ t, exec .enrol s = .next t ∧
      Settles s ((s.takenFor (.cell c) h none).placeSig c (enrolNoFrame h .unknown)) t) ∧
    ∀ e, s.Finds h (some e) →
      let u := s.takenFor (.cell c) h (some e)
      let r : Record := { e.record with
        attach := .attached, location := some c, seen := true
        moved := e.record.moved || e.record.location != some c }
      (e.record.standing = .barred → ∃ t, exec .enrol s = .next t ∧
        Settles s (u.placeSig c (enrolNoFrame h .barred)) t) ∧
      (e.record.standing = .permitted → r = e.record → ∃ t, exec .enrol s = .next t ∧
        Settles s (u.placeSig c (enrolOkFrame h)) t) ∧
      (e.record.standing = .permitted → r ≠ e.record → writeFits s.reg.writes e.addr = true →
        ∃ t, exec .enrol s = .next t ∧ t.entryOf h = some ⟨r, e.addr⟩ ∧ t.WriteQueued e.addr r ∧
          Settles s ((u.placeSig c (enrolOkFrame h)).changeEntry h e.addr r) t) ∧
      (e.record.standing = .permitted → r ≠ e.record → writeFits s.reg.writes e.addr = false → s.reg.port.isSome = true →
        ∃ t, exec .enrol s = .next t ∧
          Settles s { u with sig := { u.sig with held := some ⟨.cell c, .enrol h level⟩ } } t)) ∧
  (∀ (s : State) (c : CellId) (f : Frame) (h : Hid), TakesNext s (.cell c) f (.camp h) →
    (s.Finds h none → ∃ t, exec .camp s = .next t ∧
      Settles s ((s.takenFor (.cell c) h none).placeSig c (enrolNoFrame h .notEnrolled)) t) ∧
    ∀ e, s.Finds h (some e) →
      let u := s.takenFor (.cell c) h (some e)
      let r : Record := { e.record with
        location := some c, seen := true, moved := e.record.moved || e.record.location != some c }
      (e.record.attach = .detached → ∃ t, exec .camp s = .next t ∧
        Settles s (u.placeSig c (enrolNoFrame h .notEnrolled)) t) ∧
      (e.record.attach = .attached → e.record.standing = .barred ∨ r = e.record →
        ∃ t, exec .camp s = .next t ∧ Settles s u t) ∧
      (e.record.attach = .attached → e.record.standing = .permitted → r ≠ e.record →
        (writeFits s.reg.writes e.addr = true →
          ∃ t, exec .camp s = .next t ∧ t.entryOf h = some ⟨r, e.addr⟩ ∧ t.WriteQueued e.addr r ∧
            Settles s (u.changeEntry h e.addr r) t) ∧
        (writeFits s.reg.writes e.addr = false → s.reg.port.isSome = true → ∃ t, exec .camp s = .next t ∧
          Settles s { u with sig := { u.sig with held := some ⟨.cell c, .camp h⟩ } } t))) ∧
  ∀ (s : State) (c : CellId) (f : Frame) (h : Hid), TakesNext s (.cell c) f (.retire h) →
    (s.Finds h none → ∃ t, exec .retire s = .next t ∧ Settles s (s.takenFor (.cell c) h none) t) ∧
    ∀ e, s.Finds h (some e) →
      let u := s.takenFor (.cell c) h (some e)
      let r : Record := { e.record with attach := .detached, location := none, seen := true, moved := true }
      (r = e.record → ∃ t, exec .retire s = .next t ∧ Settles s u t) ∧
      (r ≠ e.record → writeFits s.reg.writes e.addr = true →
        ∃ t, exec .retire s = .next t ∧ t.entryOf h = some ⟨r, e.addr⟩ ∧ t.WriteQueued e.addr r ∧
          Settles s (u.changeEntry h e.addr r) t) ∧
      (r ≠ e.record → writeFits s.reg.writes e.addr = false → s.reg.port.isSome = true → ∃ t, exec .retire s = .next t ∧
        Settles s { u with sig := { u.sig with held := some ⟨.cell c, .retire h⟩ } } t)

/-- R25, R26, R27, R41: a message whose HID misses in the cache, with no group of that HID parked, is parked in a new
group, which takes a FREE context at once when no other group asks for one, and otherwise asks; a message whose HID has
a group joins it. -/
def Obligations.MissedMessageIsParked : Prop :=
  ∀ (i : Instr) (s : State) (l : LinkId) (f : Frame) (m : Msg) (h : Hid),
    (i = .enrol ∧ m.isEnrol = true ∨ i = .camp ∧ m.isCamp = true ∨ i = .retire ∧ m.isRetire = true ∨
      i = .seizeOrigin ∧ m.isSeize .origin = true ∨ i = .seizeAnswer ∧ m.isSeize .answer = true ∨
      i = .seizeMoveIn ∧ m.isSeize .moveIn = true ∨ i = .offer ∧ m.isOffer = true) →
    m.hid = some h → s.sig.held = none → s.sig.firstReady = none → s.sig.parked.length < 8 →
    s.nextFrame = some (l, f) → parseFrom l f = some m →
    (∀ g, s.sig.groupOf h = some g → ∃ t, exec i s = .next t ∧
      Settles s { s.takeFrame l with sig := { s.sig with intake := l, parked := s.sig.parked ++ [⟨h, l, m⟩] } } t) ∧
    (s.sig.groupOf h = none → s.reg.format = .formatted → s.entryOf h = none →
      (s.reg.freeContext = none → ∃ t, exec i s = .next t ∧
        Settles s { s.takeFrame l with sig := { s.sig with
          intake := l, parked := s.sig.parked ++ [⟨h, l, m⟩], groups := s.sig.groups ++ [⟨h, .awaiting⟩] } } t) ∧
      ∀ c, s.reg.freeContext = some c → (∀ g ∈ s.sig.groups, g.phase.asks = false) →
        ∃ t, exec i s = .next t ∧ t.reg.contexts.at c = some ⟨h, false, none, false⟩ ∧
          (∀ d, d ≠ c → t.reg.contexts.at d = s.reg.contexts.at d) ∧
          t.sig = { s.sig with
            intake := l, parked := s.sig.parked ++ [⟨h, l, m⟩], groups := s.sig.groups ++ [⟨h, .searching c⟩] } ∧
          t.cells = (s.takeFrame l).cells ∧ t.call = s.call ∧ t.cache = s.cache ∧ t.reg.mem = s.reg.mem)

/-- R28, R29, R25, R26, R15: a READY message taken from parking leaves it, its group ceasing to exist with its last
message, and is acted on as its group's outcome says: as NOT FOUND; with the entry as it then stands, its change made or
the message held; or not yet, when the outcome is FOUND and no valid entry stands: the group is REOPENED, keeps its
messages, and takes a FREE context. An ENROL is spelled out. -/
def Obligations.ReadyMessageIsTakenFromParking : Prop :=
  ∀ (s : State) (g : Group) (m : Parked), s.sig.held = none → s.sig.firstReady = some g →
    s.sig.parked.find? (fun p => p.hid == g.hid) = some m → m.msg.hid = some g.hid →
    let rest := s.sig.parked.eraseP fun p => p.hid == g.hid
    let left := if rest.any fun p => p.hid == g.hid then s.sig.groups else s.sig.groups.filter fun x => x.hid ≠ g.hid
    let taken : State := { s with sig := { s.sig with parked := rest, groups := left } }
    let settles (u : State) : Prop := ∃ t, exec m.msg.row s = .next t ∧ Settles s u t
    let phased (phase : GroupPhase) : SigProc :=
      { s.sig with groups := s.sig.groups.map fun x => if x.hid = g.hid then ⟨g.hid, phase⟩ else x }
    (g.phase = .ready false → settles (actOf m.msg taken m.link m.msg none).state) ∧
    (∀ e, g.phase = .ready true → s.entryOf g.hid = some e →
      let u := taken.touch g.hid
      let a := actOf m.msg u m.link m.msg (some e.record)
      (a.record = some e.record → settles a.state) ∧
      ∀ r, a.record = some r → r ≠ e.record →
        (writeFits s.reg.writes e.addr = true → ∃ t, exec m.msg.row s = .next t ∧ t.WriteQueued e.addr r ∧
          Settles s (a.state.changeEntry g.hid e.addr r) t) ∧
        (writeFits s.reg.writes e.addr = false → s.reg.port.isSome = true →
          settles { u with sig := { u.sig with held := some ⟨m.link, m.msg⟩ } })) ∧
    (g.phase = .ready true → s.entryOf g.hid = none →
      (s.reg.freeContext = none → settles { s with sig := phased .reopened }) ∧
      ∀ c, s.reg.freeContext = some c → s.reg.format = .formatted → (∀ x ∈ s.sig.groups, x.phase.asks = false) →
        ∃ t, exec m.msg.row s = .next t ∧ t.sig = phased (.searching c) ∧
          t.reg.contexts.at c = some ⟨g.hid, false, none, false⟩ ∧
          (∀ d, d ≠ c → t.reg.contexts.at d = s.reg.contexts.at d) ∧
          t.cells = s.cells ∧ t.call = s.call ∧ t.cache = s.cache ∧ t.reg.mem = s.reg.mem) ∧
    ∀ c level, m.msg = .enrol g.hid level → m.link = .cell c →
      (g.phase = .ready false → settles (taken.placeSig c (enrolNoFrame g.hid .unknown))) ∧
      ∀ e, g.phase = .ready true → s.entryOf g.hid = some e → e.record.standing = .permitted →
        let r : Record := { e.record with
          attach := .attached, location := some c, seen := true
          moved := e.record.moved || e.record.location != some c }
        r ≠ e.record → writeFits s.reg.writes e.addr = true → ∃ t, exec .enrol s = .next t ∧
          t.entryOf g.hid = some ⟨r, e.addr⟩ ∧ t.WriteQueued e.addr r ∧
          Settles s (((taken.touch g.hid).placeSig c (enrolOkFrame g.hid)).changeEntry g.hid e.addr r) t

/-- R15, R40, R11: while a message is held the Signalling Processor takes nothing; no step leaves a message held for which
the write-through queue has room or holds a write; and the event that makes the room releases it: the grant to W at the
completion of a write-through, on which an ENROL is acted on with its entry, and a message whose entry has gone is looked
up afresh and parked; and FORMAT-REGISTRY, which empties the queue, on which an ENROL is NOT FOUND. That the release
follows the event's own effects is the model's reading (log 6). -/
def Obligations.HeldMessageIsReleased : Prop :=
  (∀ s t : State, s.HeldWaits → step s = .next t → t.HeldWaits) ∧
  (∀ (s : State) (m : Held), s.sig.held = some m →
    ∀ i ∈ [Instr.enrol, .camp, .retire, .seizeOrigin, .seizeAnswer, .seizeMoveIn, .vacate, .stateReport, .relayFromCell,
      .offer, .endCall, .relayFromExchange, .malformedMessage], exec i s = .next s) ∧
  (∀ (s : State) (m : Held) (h : Hid) (w : QueuedWrite) (rest : List QueuedWrite) (a : RecAddr) (b : Record),
    s.sig.held = some m → m.msg.hid = some h → s.reg.port = some (.writeThrough a b) → s.reg.writes = w :: rest →
    rest.length < 16 → s.reg.pass.s < 8 → s.reg.pass.m < 8 → s.reg.pass.b < 8 →
    (∀ c level e, m = ⟨.cell c, .enrol h level⟩ → s.entryOf h = some e → e.record.standing = .permitted →
      queuedAt s.reg.writes e.addr = none →
      let r : Record := { e.record with
        attach := .attached, location := some c, seen := true
        moved := e.record.moved || e.record.location != some c }
      r ≠ e.record → ∃ t, exec .writeThroughComplete s = .next t ∧ t.sig = { s.sig with held := none } ∧
        t.entryOf h = some ⟨r, e.addr⟩ ∧ t.reg.port = some (.writeThrough w.addr w.image) ∧
        t.reg.writes = rest ++ [⟨e.addr, r⟩] ∧ t.reg.mem = writeRecord s.reg.mem a b ∧
        (s.cellUp c = true → (s.cells.at c).sigQueue.length < 16 →
          (t.cells.at c).sigQueue = (s.cells.at c).sigQueue ++ [enrolOkFrame h]) ∧
        (∀ d, d ≠ c → t.cells.at d = s.cells.at d) ∧ t.call = s.call) ∧
    (s.entryOf h = none → s.sig.groupOf h = none → s.reg.format = .formatted → s.reg.freeContext = none →
      ∃ t, exec .writeThroughComplete s = .next t ∧
        t.sig = { s.sig with
          held := none, parked := s.sig.parked ++ [⟨h, m.link, m.msg⟩], groups := s.sig.groups ++ [⟨h, .awaiting⟩] } ∧
        t.reg.writes = rest ∧ t.cells = s.cells ∧ t.call = s.call ∧ t.cache = s.cache)) ∧
  ∀ (s : State) (q : MgmtRequest) (rest : List MgmtRequest) (c : CellId) (h : Hid) (level : Nat), s.AtHead q rest →
    q.command = 0x06 → q.operands = [] → s.reg.format ≠ .formatting → s.reg.sweep.isRunning = false →
    s.sig.held = some ⟨.cell c, .enrol h level⟩ → s.sig.groupOf h = none →
    ∃ t, exec .formatRegistry s = .next t ∧ t.sig.held = none ∧ t.sig.parked = s.sig.parked ∧
      t.reg.format = .formatting ∧ t.reg.writes = [] ∧ t.mgmt.queue = rest ∧
      (s.cellUp c = true → (s.cells.at c).sigQueue.length < 16 →
        (t.cells.at c).sigQueue = (s.cells.at c).sigQueue ++ [enrolNoFrame h .unknown]) ∧
      (∀ d, d ≠ c → t.cells.at d = s.cells.at d) ∧ t.call = s.call

/-- R63, R59, R60, R61, R99, R46, R32: a SEIZE for origin on a FREE bearer: each refusal in the order of the tests, and the
call that an accepted origin makes, with its location update and the write-through of a change. -/
def Obligations.OriginMakesACallOrIsDenied : Prop :=
  ∀ (s : State) (c : CellId) (f : Frame) (k : SlotId) (h : Hid) (level : Nat),
    TakesNext s (.cell c) f (.seize k h .origin level) → s.cellUp c = true → s.bearer c k = .free →
    (s.Finds h none → ∃ t, exec .seizeOrigin s = .next t ∧
      Settles s ((s.takenFor (.cell c) h none).placeSig c (denyFrame k h .unknown)) t) ∧
    ∀ e, s.Finds h (some e) →
      let u := s.takenFor (.cell c) h (some e)
      let denied (reason : DenyReason) : Prop :=
        ∃ t, exec .seizeOrigin s = .next t ∧ Settles s (u.placeSig c (denyFrame k h reason)) t
      if e.record.standing = .barred then denied .barred
      else if e.record.attach = .detached then denied .notEnrolled
      else if (s.findCall h).isSome then denied .handsetBusy
      else if s.exchUp = false then denied .noCircuit
      else
        match s.call.freeQueue with
        | [] => denied .noCircuit
        | n :: rest =>
          let p := s.tables.activeProfile c e.record.mclass
          writeFits s.reg.writes e.addr = true →
          ∃ t, exec .seizeOrigin s = .next t ∧
            t.callOf n = { CallRecord.free p with
              state := .active, hid := some h, direction := some .outgoing, mclass := some e.record.mclass
              serving := some (.seeded c k level s.timeBase p) } ∧
            t.bearer c k = .serving n ∧ t.call.freeQueue = rest ∧ s.call.SameBut t.call n c k ∧
            t.entryOf h = some ⟨e.record.locate c, e.addr⟩ ∧
            (e.record.locate c ≠ e.record → t.WriteQueued e.addr (e.record.locate c)) ∧
            ((s.cells.at c).sigQueue.length < 16 →
              (t.cells.at c).sigQueue = (s.cells.at c).sigQueue ++ [grantFrame k h]) ∧
            (s.exch.txQueue.length + 2 ≤ 64 →
              t.exch.txQueue = s.exch.txQueue ++ originFrame n h c :: owed s.attentionSet t.attentionSet) ∧
            (∀ d, d ≠ c → t.cells.at d = s.cells.at d) ∧ t.tables = s.tables ∧ t.reg.mem = s.reg.mem

/-- R64, R90, R46, R32: a SEIZE for answer on a FREE bearer ends the page of its handset, with the location update and the
write-through of a change, or is refused with NOT_PAGED. -/
def Obligations.AnswerEndsThePage : Prop :=
  ∀ (s : State) (c : CellId) (f : Frame) (k : SlotId) (h : Hid) (level : Nat) (found : Option CacheEntry),
    TakesNext s (.cell c) f (.seize k h .answer level) → s.cellUp c = true → s.bearer c k = .free → s.Finds h found →
    ((∀ n, s.findCall h = some n → (s.callOf n).state ≠ .paging) → ∃ t, exec .seizeAnswer s = .next t ∧
      Settles s ((s.takenFor (.cell c) h found).placeSig c (denyFrame k h .notPaged)) t) ∧
    ∀ n, s.findCall h = some n → (s.callOf n).state = .paging →
      (∀ e, found = some e → writeFits s.reg.writes e.addr = true) →
      let p := s.tables.activeProfile c (s.callOf n).classOr
      ∃ t, exec .seizeAnswer s = .next t ∧
        t.callOf n = { s.callOf n with
          state := .active, serving := some (.seeded c k level s.timeBase p), profile := p, stageTimer := none
          pageStage := none, pageCell := none, summoned := [] } ∧
        t.bearer c k = .serving n ∧ t.call.freeQueue = s.call.freeQueue ∧ s.call.SameBut t.call n c k ∧
        t.entryOf h = (match found with
          | some e => some ⟨e.record.locate c, e.addr⟩
          | none => s.entryOf h) ∧
        (∀ e, found = some e → e.record.locate c ≠ e.record → t.WriteQueued e.addr (e.record.locate c)) ∧
        ((s.cells.at c).sigQueue.length < 16 →
          (t.cells.at c).sigQueue = (s.cells.at c).sigQueue ++ [grantFrame k h]) ∧
        (s.exchUp = true → s.exch.txQueue.length + 2 ≤ 64 →
          t.exch.txQueue = s.exch.txQueue ++ reachedFrame n c :: owed s.attentionSet t.attentionSet) ∧
        t.tables = s.tables ∧ t.reg.mem = s.reg.mem

/-- R100, R101, R102, R73, R46, R32: a SEIZE for move-in on a FREE bearer, by the state of the handset's call; an accepted one
makes the location update, with the write-through of a change. -/
def Obligations.MoveInStartsABridge : Prop :=
  ∀ (s : State) (c : CellId) (f : Frame) (k : SlotId) (h : Hid) (level : Nat) (found : Option CacheEntry),
    TakesNext s (.cell c) f (.seize k h .moveIn level) → s.cellUp c = true → s.bearer c k = .free → s.Finds h found →
    (∀ e, found = some e → writeFits s.reg.writes e.addr = true) →
    let denied (reason : DenyReason) : Prop := ∃ t, exec .seizeMoveIn s = .next t ∧
      Settles s ((s.takenFor (.cell c) h found).placeSig c (denyFrame k h reason)) t
    let granted (n : Circuit) (r : CallRecord) (b : Bearer) : Prop := ∃ t, exec .seizeMoveIn s = .next t ∧
      t.callOf n = r ∧ t.bearer c k = b ∧ t.call.freeQueue = s.call.freeQueue ∧ s.call.SameBut t.call n c k ∧
      ((s.cells.at c).sigQueue.length < 16 →
        (t.cells.at c).sigQueue = (s.cells.at c).sigQueue ++ [grantFrame k h]) ∧
      t.entryOf h = (match found with
        | some e => some ⟨e.record.locate c, e.addr⟩
        | none => s.entryOf h) ∧
      (∀ e, found = some e → e.record.locate c ≠ e.record → t.WriteQueued e.addr (e.record.locate c)) ∧
      t.tables = s.tables ∧ t.reg.mem = s.reg.mem
    (s.findCall h = none → denied .noCall) ∧
    ∀ n, s.findCall h = some n →
      let r := s.callOf n
      (r.state = .paging → denied .noCall) ∧ (r.state = .bridged → denied .bridgeBusy) ∧
      (∀ d, r.state = .holding → r.lastServing = some d →
        (((s.tables.neighbours.at d).at c).of r.classOr = none → denied .barredPath) ∧
        (((s.tables.neighbours.at d).at c).of r.classOr ≠ none →
          let p := s.tables.activeProfile c r.classOr
          granted n { r with
            state := .active, serving := some (.seeded c k level s.timeBase p), profile := p, holdTimer := none
            lastServing := none } (.serving n))) ∧
      ∀ g, r.state = .active → r.serving = some g →
        (((s.tables.neighbours.at g.cell).at c).of r.classOr = none → denied .barredPath) ∧
        ∀ i, ((s.tables.neighbours.at g.cell).at c).of r.classOr = some i →
          let p := s.tables.profiles.at i
          if (s.cells.at c).report.radio && (s.cells.at c).report.sync then
            granted n { r with
              state := .bridged, serving := some { g with miss := 0 }
              candidate := some (.seeded c k level s.timeBase p), profile := p, dwell := 0
              bridgeTimer := some (s.timeBase + BitVec.ofNat 32 (p.b * 10))
              window := some ⟨g.expected, Table.all 4 ⟨none, none, none⟩⟩ } (.candidate n)
          else denied .cellUnsync

/-- R59, R61, R103, R15: what a SEIZE for any purpose does before its purpose is handled. From a cell that is not UP it is
a stray. On a RELEASING bearer it acts as on that bearer made FREE, its call gone to FREE if it was CLEARING and the
bearer its last. On a bearer that carries a leg, the leg is lost first, whatever becomes of the SEIZE: an origin refused,
an origin and an answer accepted on the bearer of another handset's call, and a move-in on a bearer of its own call. An
accepted SEIZE whose location update has no room in the write-through queue is held whole. -/
def Obligations.SeizeFreesItsBearerFirst : Prop :=
  ∀ (s : State) (c : CellId) (f : Frame) (k : SlotId) (h : Hid) (p : Purpose) (level : Nat)
      (found : Option CacheEntry), TakesNext s (.cell c) f (.seize k h p level) → s.Finds h found →
    let row := (Msg.seize k h p level).row
    let u := s.takenFor (.cell c) h found
    let fits : Prop := ∀ e, found = some e → writeFits s.reg.writes e.addr = true
    let expiry := s.timeBase + BitVec.ofNat 32 s.tables.timing.hold
    let sends (t : State) (f : Frame) : Prop := (s.cells.at c).sigQueue.length < 16 →
      (t.cells.at c).sigQueue = (s.cells.at c).sigQueue ++ [f]
    let reports (t : State) (x : Capture) : Prop :=
      s.attn.captureEnables.legLost = true → s.attn.captureEnables.handoverAbandoned = true →
        s.attn.captures.length < 4 → t.attn.captures = s.attn.captures ++ [x]
    (s.cellUp c = false → ∃ t, exec row s = .next t ∧ Settles s (u.modUnit (.cell c) fun x =>
      { x with counters := { x.counters with strays := min (x.counters.strays + 1) 65535 } }) t) ∧
    (s.cellUp c = true → fits → ∀ n, s.bearer c k = .releasing n →
      let free := s.setBearer c k .free
      let last := (s.callOf n).state = .clearing ∧ ∀ d j, ¬(d = c ∧ j = k) → s.bearer d j ≠ .releasing n
      (¬last → exec row s = exec row free) ∧
      (last → exec row s = exec row { free with call := { free.call with
        calls := free.call.calls.put n (.free (s.callOf n).profile), freeQueue := s.call.freeQueue ++ [n] } })) ∧
    (s.cellUp c = true → fits → 0 < s.tables.timing.hold → ∀ n g, s.bearer c k = .serving n →
      (s.callOf n).state = .active → (s.callOf n).serving = some g → g.cell = c → g.slot = k →
      (p = .origin → (found = none ∨ (s.callOf n).hid = some h ∧ ∃ e, found = some e ∧ e.record.standing = .permitted ∧
          e.record.attach = .attached) → ∃ t, exec .seizeOrigin s = .next t ∧
        t.callOf n = (s.callOf n).heldFrom g expiry ∧ t.bearer c k = .free ∧ (∀ m, m ≠ n → t.callOf m = s.callOf m) ∧
        t.call.freeQueue = s.call.freeQueue ∧
        sends t (denyFrame k h (if found = none then .unknown else .handsetBusy)) ∧
        reports t (legLostOf (s.callOf n) n g none s.timeBase)) ∧
      (∀ e m rest, p = .origin → found = some e → e.record.standing = .permitted → e.record.attach = .attached →
        s.findCall h = none → s.exchUp = true → s.call.freeQueue = m :: rest → m ≠ n →
        ∃ t, exec .seizeOrigin s = .next t ∧ t.callOf n = (s.callOf n).heldFrom g expiry ∧
          (t.callOf m).state = .active ∧ (t.callOf m).hid = some h ∧
          (t.callOf m).serving = some (.seeded c k level s.timeBase (s.tables.activeProfile c e.record.mclass)) ∧
          t.bearer c k = .serving m ∧ sends t (grantFrame k h) ∧
          reports t (legLostOf (s.callOf n) n g none s.timeBase)) ∧
      (∀ m, p = .answer → s.findCall h = some m → (s.callOf m).state = .paging →
        ∃ t, exec .seizeAnswer s = .next t ∧ t.callOf n = (s.callOf n).heldFrom g expiry ∧
          (t.callOf m).state = .active ∧
          (t.callOf m).serving =
            some (.seeded c k level s.timeBase (s.tables.activeProfile c (s.callOf m).classOr)) ∧
          t.bearer c k = .serving m ∧ sends t (grantFrame k h) ∧
          reports t (legLostOf (s.callOf n) n g none s.timeBase)) ∧
      (p = .moveIn → s.findCall h = some n →
        let q := s.tables.activeProfile c (s.callOf n).classOr
        ∃ t, exec .seizeMoveIn s = .next t ∧ (∀ m, m ≠ n → t.callOf m = s.callOf m) ∧
          reports t (legLostOf (s.callOf n) n g none s.timeBase) ∧
          (((s.tables.neighbours.at c).at c).of (s.callOf n).classOr = none →
            t.callOf n = (s.callOf n).heldFrom g expiry ∧ t.bearer c k = .free ∧ sends t (denyFrame k h .barredPath)) ∧
          (((s.tables.neighbours.at c).at c).of (s.callOf n).classOr ≠ none →
            t.callOf n = { (s.callOf n).heldFrom g expiry with
              state := .active, serving := some (.seeded c k level s.timeBase q), profile := q, holdTimer := none
              lastServing := none } ∧ t.bearer c k = .serving n ∧ sends t (grantFrame k h)))) ∧
    (p = .moveIn → s.cellUp c = true → fits → ∀ n sl cl lost kept, s.findCall h = some n → (s.callOf n).state = .bridged →
      (s.callOf n).serving = some sl → (s.callOf n).candidate = some cl → ¬(sl.cell = cl.cell ∧ sl.slot = cl.slot) →
      (s.bearer c k = .candidate n ∧ lost = cl ∧ kept = sl ∨ s.bearer c k = .serving n ∧ lost = sl ∧ kept = cl) →
      lost.cell = c → lost.slot = k →
      let base := (s.callOf n).window.bind Window.base
      let r := (s.callOf n).closedOn kept base (s.tables.activeProfile kept.cell (s.callOf n).classOr)
      let entry := ((s.tables.neighbours.at kept.cell).at c).of (s.callOf n).classOr
      ∃ t, exec .seizeMoveIn s = .next t ∧ (∀ m, m ≠ n → t.callOf m = s.callOf m) ∧
        t.bearer kept.cell kept.slot = .serving n ∧
        reports t (if s.bearer c k = .serving n then legLostOf (s.callOf n) n sl (some cl.q) s.timeBase
          else abandonedOf (s.callOf n) n sl cl s.timeBase) ∧
        (entry = none → t.callOf n = r ∧ t.bearer c k = .free ∧ sends t (denyFrame k h .barredPath)) ∧
        ∀ i, entry = some i → ((s.cells.at c).report.radio && (s.cells.at c).report.sync) = true →
          let q := s.tables.profiles.at i
          t.callOf n = { r with
            state := .bridged, candidate := some (.seeded c k level s.timeBase q), profile := q
            bridgeTimer := some (s.timeBase + BitVec.ofNat 32 (q.b * 10))
            window := some ⟨base, Table.all 4 ⟨none, none, none⟩⟩ } ∧
          t.bearer c k = .candidate n ∧ sends t (grantFrame k h)) ∧
    ∀ e, s.cellUp c = true → found = some e → e.record.standing = .permitted → e.record.locate c ≠ e.record →
      writeFits s.reg.writes e.addr = false → s.reg.port.isSome = true →
      (s.bearer c k = .free ∨ ∃ n, s.bearer c k = .releasing n) →
      (match p with
        | .origin => e.record.attach = .attached ∧ s.findCall h = none ∧ s.exchUp = true ∧ s.call.freeQueue ≠ []
        | .answer => ∃ n, s.findCall h = some n ∧ (s.callOf n).state = .paging
        | .moveIn => ∃ n g, s.findCall h = some n ∧ (s.callOf n).state = .active ∧ (s.callOf n).serving = some g ∧
            ((s.tables.neighbours.at g.cell).at c).of (s.callOf n).classOr ≠ none ∧
            ((s.cells.at c).report.radio && (s.cells.at c).report.sync) = true) →
      ∃ t, exec row s = .next t ∧
        Settles s { u with sig := { u.sig with held := some ⟨.cell c, .seize k h p level⟩ } } t

/-- R62, R85, R86: an OFFER: each refusal in the order of the tests, and the page an accepted one starts at its page
cell. -/
def Obligations.OfferStartsAPageOrIsRefused : Prop :=
  ∀ (s : State) (f : Frame) (n : Circuit) (h : Hid) (found : Option CacheEntry),
    TakesNext s .exchange f (.offer n h) → s.exchUp = true → s.Finds h found →
    let u := s.takenFor .exchange h found
    let refused (cause : EndedCause) : Prop :=
      ∃ t, exec .offer s = .next t ∧ Settles s (u.placeExch (endedFrame n cause)) t
    if (s.callOf n).state ≠ .free then refused .circuitBusy
    else
      match found with
      | none => refused .unknown
      | some e =>
        if (s.findCall h).isSome then refused .handsetBusy
        else if e.record.attach = .detached then refused .unreachable
        else ∀ c, e.record.location = some c → s.cellUp c = true →
          ∃ t, exec .offer s = .next t ∧
            t.callOf n = { CallRecord.free (s.callOf n).profile with
              state := .paging, hid := some h, direction := some .incoming, mclass := some e.record.mclass
              pageCell := some c, pageStage := some .stage1, summoned := [c]
              stageTimer := some (s.timeBase + BitVec.ofNat 32 s.tables.timing.stage1) } ∧
            t.call.freeQueue = s.call.freeQueue.filter (· ≠ n) ∧ t.call.bearers = s.call.bearers ∧
            (∀ m, m ≠ n → t.callOf m = s.callOf m) ∧
            ((s.cells.at c).sigQueue.length < 16 →
              (t.cells.at c).sigQueue = (s.cells.at c).sigQueue ++ [summonFrame h n]) ∧
            (∀ d, d ≠ c → t.cells.at d = s.cells.at d) ∧ t.entryOf h = some e ∧ t.reg.mem = s.reg.mem

/-- R62, R85, R86, R87, R88, R89: an OFFER on an exchange link that is not UP is discarded. A page goes on, at the expiry
of the timer of stage 1 or 2 and at an OFFER whose page cell is not UP, to the first later stage that chooses a cell:
stage 2 chooses from the list of the page cell's zone, in its order, and stage 3 from all cells, in ascending order, each
cell that is UP and not yet summoned, once; each chosen cell is sent SUMMON and the stage timer runs. A page that no stage
can carry on ends unanswered. -/
def Obligations.PageGoesOnToTheNextCells : Prop :=
  (∀ (s : State) (f : Frame) (n : Circuit) (h : Hid) (found : Option CacheEntry), TakesNext s .exchange f (.offer n h) →
    s.exchUp = false → s.Finds h found → ∃ t, exec .offer s = .next t ∧
      Settles s (s.takenFor .exchange h found) t) ∧
  let cells (s : State) (summoned list : List CellId) : List CellId :=
    (list.filter fun d => s.cellUp d && !summoned.contains d).eraseDups
  let zone (s : State) (c : CellId) : List CellId := s.tables.zoneCells (s.tables.cellConfigs.at c).zone
  let goesOn (s u : State) (r : CallRecord) (n : Circuit) (h : Hid) (stage : PageStage) (chosen : List CellId) (ms : Nat)
      (freeQueue : List Circuit) : State :=
    let v := chosen.foldl (fun v d => v.placeSig d (summonFrame h n)) u
    { v with call := { v.call with
        freeQueue
        calls := u.call.calls.put n { r with
          pageStage := some stage, summoned := r.summoned ++ chosen
          stageTimer := some (s.timeBase + BitVec.ofNat 32 ms) } } }
  let unanswered (u : State) (r : CallRecord) (n : Circuit) (freeQueue : List Circuit) : State :=
    let v := u.placeExch (endedFrame n .unreachable)
    { v with call := { v.call with freeQueue := freeQueue ++ [n], calls := u.call.calls.put n (.free r.profile) } }
  (∀ (s : State) (n : Circuit) (x : Time) (h : Hid) (c : CellId), (s.callOf n).state = .paging →
    (s.callOf n).stageTimer = some x → s.due x = true → (s.callOf n).hid = some h → (s.callOf n).pageCell = some c →
    let r := s.callOf n
    let ends (u : State) : Prop := ∃ t, exec (.stageTimerExpiry n) s = .next t ∧ Ends s u t
    let two := cells s r.summoned (zone s c)
    let three := cells s r.summoned (ascending 24)
    let q := s.call.freeQueue
    (r.pageStage = some .stage1 → two ≠ [] → ends (goesOn s s r n h .stage2 two s.tables.timing.stage2 q)) ∧
    (r.pageStage = some .stage1 → two = [] → three ≠ [] →
      ends (goesOn s s r n h .stage3 three s.tables.timing.stage3 q)) ∧
    (r.pageStage = some .stage1 → two = [] → three = [] → ends (unanswered s r n q)) ∧
    (r.pageStage = some .stage2 → three ≠ [] → ends (goesOn s s r n h .stage3 three s.tables.timing.stage3 q)) ∧
    (r.pageStage = some .stage2 → three = [] → ends (unanswered s r n q))) ∧
  ∀ (s : State) (f : Frame) (n : Circuit) (h : Hid) (e : CacheEntry) (c : CellId),
    TakesNext s .exchange f (.offer n h) → s.exchUp = true → s.Finds h (some e) → (s.callOf n).state = .free →
    s.findCall h = none → e.record.attach = .attached → e.record.location = some c → s.cellUp c = false →
    let u := s.takenFor .exchange h (some e)
    let r : CallRecord := { CallRecord.free (s.callOf n).profile with
      state := .paging, hid := some h, direction := some .incoming, mclass := some e.record.mclass, pageCell := some c }
    let settles (u : State) : Prop := ∃ t, exec .offer s = .next t ∧ Settles s u t
    let two := cells s [] (zone s c)
    let three := cells s [] (ascending 24)
    let q := s.call.freeQueue.filter (· ≠ n)
    (two ≠ [] → settles (goesOn s u r n h .stage2 two s.tables.timing.stage2 q)) ∧
    (two = [] → three ≠ [] → settles (goesOn s u r n h .stage3 three s.tables.timing.stage3 q)) ∧
    (two = [] → three = [] → settles (unanswered u r n q))

/-- R68, R59, R67, R70, R72, R74, R110, R111, R56: VACATE by the entry of its bearer: a FREE bearer is a stray; a RELEASING
one becomes FREE, and its call, if it is CLEARING and releases no other bearer, with it; a leg of an ACTIVE call is lost
to HOLDING, or to FREE with a hold time of 0; and a leg of a BRIDGED call is lost to the other leg. -/
def Obligations.VacateFreesTheBearer : Prop :=
  ∀ (s : State) (c : CellId) (f : Frame) (k : SlotId), TakesNext s (.cell c) f (.vacate k) →
    let u := s.takeFrame (.cell c)
    (s.bearer c k = .free → ∃ t, exec .vacate s = .next t ∧
      Ends s (u.modUnit (.cell c) fun x =>
        { x with counters := { x.counters with strays := min (x.counters.strays + 1) 65535 } }) t) ∧
    (∀ n, s.bearer c k = .releasing n →
      ((s.callOf n).state ≠ .clearing ∨ (∃ d j, ¬(d = c ∧ j = k) ∧ s.bearer d j = .releasing n) →
        ∃ t, exec .vacate s = .next t ∧ Ends s (u.setBearer c k .free) t) ∧
      ((s.callOf n).state = .clearing → (∀ d j, ¬(d = c ∧ j = k) → s.bearer d j ≠ .releasing n) →
        ∃ t, exec .vacate s = .next t ∧ FreesCall s t n ∧ t.bearer c k = .free ∧
          (∀ d j, ¬(d = c ∧ j = k) → t.bearer d j = s.bearer d j) ∧ t.cells = u.cells)) ∧
    (∀ n g, s.bearer c k = .serving n → (s.callOf n).state = .active → (s.callOf n).serving = some g →
      g.cell = c → g.slot = k →
      (0 < s.tables.timing.hold → ∃ t, exec .vacate s = .next t ∧
        t.callOf n = { s.callOf n with
          state := .holding, serving := none, candidate := none, lastServing := some c, dwell := 0, bridgeTimer := none
          window := none, holdTimer := some (s.timeBase + BitVec.ofNat 32 s.tables.timing.hold) } ∧
        t.bearer c k = .free ∧ (∀ m, m ≠ n → t.callOf m = s.callOf m) ∧ t.call.freeQueue = s.call.freeQueue ∧
        (s.attn.captureEnables.legLost = true → s.attn.captures.length < 4 →
          t.attn.captures = s.attn.captures ++ [⟨.legLost, s.timeBase, false,
            { circuit := some n, hid := (s.callOf n).hid, cell := some c, slot := some k.val, callState := some .active
              qServing := some g.q }⟩])) ∧
      (s.tables.timing.hold = 0 → ∃ t, exec .vacate s = .next t ∧ LosesCall s u t n g ∧ t.cells = u.cells)) ∧
    ∀ n sl cl, (s.callOf n).state = .bridged → (s.callOf n).serving = some sl → (s.callOf n).candidate = some cl →
      ¬(sl.cell = cl.cell ∧ sl.slot = cl.slot) →
      let closed (g : Leg) : CallRecord := (s.callOf n).closedOn g ((s.callOf n).window.bind Window.base)
        (s.tables.activeProfile g.cell (s.callOf n).classOr)
      (s.bearer c k = .serving n → sl.cell = c → sl.slot = k → ∃ t, exec .vacate s = .next t ∧
        t.callOf n = closed cl ∧ t.bearer cl.cell cl.slot = .serving n ∧ t.bearer c k = .free ∧
        (∀ m, m ≠ n → t.callOf m = s.callOf m) ∧ t.cells = u.cells ∧
        (s.attn.captureEnables.legLost = true → s.attn.captures.length < 4 → t.attn.captures = s.attn.captures ++
          [legLostOf (s.callOf n) n sl (some cl.q) s.timeBase])) ∧
      (s.bearer c k = .candidate n → cl.cell = c → cl.slot = k → ∃ t, exec .vacate s = .next t ∧
        t.callOf n = closed sl ∧ t.bearer sl.cell sl.slot = .serving n ∧ t.bearer c k = .free ∧
        (∀ m, m ≠ n → t.callOf m = s.callOf m) ∧ t.cells = u.cells ∧
        (s.attn.captureEnables.handoverAbandoned = true → s.attn.captures.length < 4 →
          t.attn.captures = s.attn.captures ++ [abandonedOf (s.callOf n) n sl cl s.timeBase]))

/-- R149, R113: a STATE report is kept and marks what it changes; one that shows trouble touches no call without a
candidate leg at the cell. -/
def Obligations.StateReportIsKept : Prop :=
  ∀ (s : State) (c : CellId) (f : Frame) (r : CellReport), TakesNext s (.cell c) f (.stateReport r) →
    ∃ t, exec .stateReport s = .next t ∧ (t.cells.at c).report = r ∧
      (t.cells.at c).marks =
        ⟨(s.cells.at c).marks.radio || (s.cells.at c).report.radio != r.radio,
          (s.cells.at c).marks.sync || (s.cells.at c).report.sync != r.sync,
          (s.cells.at c).marks.fault || (s.cells.at c).report.fault != r.fault⟩ ∧
      (t.cells.at c).link.rxFifo = (s.cells.at c).link.rxFifo.tail ∧ t.sig = { s.sig with intake := .cell c } ∧
      (∀ d, d ≠ c → t.cells.at d = s.cells.at d) ∧
      ((r.radio && r.sync) = true → t.call = s.call) ∧
      (∀ n, legAt c (s.callOf n).candidate = false → t.callOf n = s.callOf n) ∧
      (∀ n sl cl, (r.radio && r.sync) = false → (s.callOf n).state = .bridged → (s.callOf n).serving = some sl →
        (s.callOf n).candidate = some cl → cl.cell = c → t.callOf n = (s.callOf n).closedOn sl
          ((s.callOf n).window.bind Window.base) (s.tables.activeProfile sl.cell (s.callOf n).classOr)) ∧
      t.reg = s.reg ∧ t.cache = s.cache ∧ t.tables = s.tables ∧ t.mgmt = s.mgmt

/-- R75, R76: RELAY in both directions, forwarded with the circuit or the serving leg's slot and the payload unchanged, or
counted as a stray. -/
def Obligations.RelaysAreForwarded : Prop :=
  (∀ (s : State) (c : CellId) (f : Frame) (k : SlotId) (payload : List Byte),
    TakesNext s (.cell c) f (.relayFromCell k payload) →
    (∀ n, s.bearer c k = .serving n ∨ s.bearer c k = .candidate n → ∃ t, exec .relayFromCell s = .next t ∧
      Ends s ((s.takeFrame (.cell c)).placeExch ⟨0x32, BitVec.ofNat 8 n.val :: payload⟩) t) ∧
    ((s.bearer c k = .free ∨ ∃ n, s.bearer c k = .releasing n) → ∃ t, exec .relayFromCell s = .next t ∧
      Ends s ((s.takeFrame (.cell c)).modUnit (.cell c) fun x =>
        { x with counters := { x.counters with strays := min (x.counters.strays + 1) 65535 } }) t)) ∧
  ∀ (s : State) (f : Frame) (n : Circuit) (payload : List Byte),
    TakesNext s .exchange f (.relayFromExchange n payload) →
    (∀ g, (s.callOf n).state = .active ∨ (s.callOf n).state = .bridged → (s.callOf n).serving = some g →
      ∃ t, exec .relayFromExchange s = .next t ∧
        Ends s ((s.takeFrame .exchange).placeSig g.cell ⟨0x16, BitVec.ofNat 8 g.slot.val :: payload⟩) t) ∧
    ((s.callOf n).state ≠ .active → (s.callOf n).state ≠ .bridged → ∃ t, exec .relayFromExchange s = .next t ∧
      Ends s ((s.takeFrame .exchange).modUnit .exchange fun x =>
        { x with counters := { x.counters with strays := min (x.counters.strays + 1) 65535 } }) t)

/-- R65, R66, R67: END by the state of the call on its circuit: nothing for a FREE or CLEARING call; FREE from PAGING;
CLEARING from ACTIVE and BRIDGED, each leg's bearer RELEASING and CLEAR placed for its cell; and FREE at once from HOLDING,
which holds no bearer. -/
def Obligations.EndClearsTheCall : Prop :=
  ∀ (s : State) (f : Frame) (n : Circuit), TakesNext s .exchange f (.endCall n) →
    let u := s.takeFrame .exchange
    ((s.callOf n).state = .free ∨ (s.callOf n).state = .clearing → ∃ t, exec .endCall s = .next t ∧ Ends s u t) ∧
    ∃ t, exec .endCall s = .next t ∧ EndsCall u t n

/-! ### Timers -/

/-- R74, R67, R89: the expiries of the hold timer, the clear timer and the stage timer of stage 3; and a timer that is
not due does not expire (R56). That a timer may be taken late, and that an expiry that does not take place changes nothing,
is the model's reading (logs 4 and 3). -/
def Obligations.CallTimersFreeTheCall : Prop :=
  ∀ (s : State) (n : Circuit) (x : Time),
    ((s.callOf n).state = .holding → (s.callOf n).holdTimer = some x → s.due x = true →
      ∃ t, exec (.holdTimerExpiry n) s = .next t ∧ t.callOf n = .free (s.callOf n).profile ∧
        t.call.freeQueue = s.call.freeQueue ++ [n] ∧ (∀ m, m ≠ n → t.callOf m = s.callOf m) ∧
        t.call.bearers = s.call.bearers ∧ t.cells = s.cells ∧
        (s.exchUp = true → s.exch.txQueue.length + 2 ≤ 64 →
          t.exch.txQueue = s.exch.txQueue ++ endedFrame n .lost :: owed s.attentionSet t.attentionSet) ∧
        (s.attn.captureEnables.callLost = true → s.attn.captures.length < 4 →
          t.attn.captures = s.attn.captures ++ [⟨.callLost, s.timeBase, false,
            { circuit := some n, hid := (s.callOf n).hid, cell := (s.callOf n).lastServing
              callState := some .holding }⟩])) ∧
    ((s.callOf n).state = .clearing → (s.callOf n).clearTimer = some x → s.due x = true →
      ∃ t, exec (.clearTimerExpiry n) s = .next t ∧ t.callOf n = .free (s.callOf n).profile ∧
        t.call.freeQueue = s.call.freeQueue ++ [n] ∧ (∀ m, m ≠ n → t.callOf m = s.callOf m) ∧
        (∀ c k, t.bearer c k = if s.bearer c k = .releasing n then .free else s.bearer c k) ∧ t.cells = s.cells) ∧
    ((s.callOf n).state = .paging → (s.callOf n).stageTimer = some x → s.due x = true →
      (s.callOf n).pageStage = some .stage3 →
      ∃ t, exec (.stageTimerExpiry n) s = .next t ∧ t.callOf n = .free (s.callOf n).profile ∧
        t.call.freeQueue = s.call.freeQueue ++ [n] ∧ (∀ m, m ≠ n → t.callOf m = s.callOf m) ∧
        t.call.bearers = s.call.bearers ∧ t.cells = s.cells ∧
        (s.exchUp = true → s.exch.txQueue.length + 2 ≤ 64 →
          t.exch.txQueue = s.exch.txQueue ++ endedFrame n .unreachable :: owed s.attentionSet t.attentionSet)) ∧
    ((s.callOf n).holdTimer = some x → s.due x = false → exec (.holdTimerExpiry n) s = .next s) ∧
    ((s.callOf n).clearTimer = some x → s.due x = false → exec (.clearTimerExpiry n) s = .next s) ∧
    ((s.callOf n).stageTimer = some x → s.due x = false → exec (.stageTimerExpiry n) s = .next s)

/-- R109, R106, R108, R99: the bridge timer's expiry commits to a candidate with the higher estimate, and otherwise
abandons the bridge. -/
def Obligations.BridgeTimerSettlesTheBridge : Prop :=
  ∀ (s : State) (n : Circuit) (x : Time) (sl cl : Leg), (s.callOf n).state = .bridged →
    (s.callOf n).bridgeTimer = some x → s.due x = true → (s.callOf n).serving = some sl →
    (s.callOf n).candidate = some cl → ¬(sl.cell = cl.cell ∧ sl.slot = cl.slot) →
    let kept := if sl.q < cl.q then cl else sl
    let gone := if sl.q < cl.q then sl else cl
    ∃ t, exec (.bridgeTimerExpiry n) s = .next t ∧
      t.callOf n = (s.callOf n).closedOn kept ((s.callOf n).window.bind Window.base)
        (s.tables.activeProfile kept.cell (s.callOf n).classOr) ∧
      t.bearer kept.cell kept.slot = .serving n ∧ t.bearer gone.cell gone.slot = .releasing n ∧
      (s.cellUp gone.cell = true → (s.cells.at gone.cell).sigQueue.length < 16 →
        (t.cells.at gone.cell).sigQueue = (s.cells.at gone.cell).sigQueue ++ [clearFrame gone.slot]) ∧
      (∀ m, m ≠ n → t.callOf m = s.callOf m) ∧ t.call.freeQueue = s.call.freeQueue ∧ t.reg = s.reg ∧ t.cache = s.cache ∧
      (sl.q < cl.q → t.attn.captures = s.attn.captures) ∧
      (cl.q ≤ sl.q → s.attn.captureEnables.handoverAbandoned = true → s.attn.captures.length < 4 →
        t.attn.captures = s.attn.captures ++ [⟨.handoverAbandoned, s.timeBase, false,
          { circuit := some n, hid := (s.callOf n).hid, cell := some cl.cell, slot := some cl.slot.val
            callState := some .bridged, qServing := some sl.q, qCandidate := some cl.q }⟩])

/-- R126, R72, R74, R110, R111: the silence of a leg: HOLDING in ACTIVE, or FREE with a hold time of 0; a commit by loss
or an abandoned bridge in BRIDGED. -/
def Obligations.SilentLegIsLost : Prop :=
  ∀ (s : State) (n : Circuit) (sl : Leg), (s.callOf n).serving = some sl →
    ((s.callOf n).state = .active → s.due sl.silence = true → 0 < s.tables.timing.hold →
      ∃ t, exec (.legSilenceExpiry n .serving) s = .next t ∧
        t.callOf n = { s.callOf n with
          state := .holding, serving := none, candidate := none, lastServing := some sl.cell, dwell := 0
          bridgeTimer := none, window := none
          holdTimer := some (s.timeBase + BitVec.ofNat 32 s.tables.timing.hold) } ∧
        t.bearer sl.cell sl.slot = .free ∧ t.cells = s.cells ∧ ∀ m, m ≠ n → t.callOf m = s.callOf m) ∧
    ((s.callOf n).state = .active → s.due sl.silence = true → s.tables.timing.hold = 0 →
      ∃ t, exec (.legSilenceExpiry n .serving) s = .next t ∧ LosesCall s s t n sl ∧ t.cells = s.cells) ∧
    ∀ cl, (s.callOf n).state = .bridged → (s.callOf n).candidate = some cl →
      ¬(sl.cell = cl.cell ∧ sl.slot = cl.slot) →
      (s.due sl.silence = true → ∃ t, exec (.legSilenceExpiry n .serving) s = .next t ∧
        t.callOf n = (s.callOf n).closedOn cl ((s.callOf n).window.bind Window.base)
          (s.tables.activeProfile cl.cell (s.callOf n).classOr) ∧
        t.bearer cl.cell cl.slot = .serving n ∧ t.bearer sl.cell sl.slot = .free ∧ t.cells = s.cells) ∧
      (s.due cl.silence = true → ∃ t, exec (.legSilenceExpiry n .candidate) s = .next t ∧
        t.callOf n = (s.callOf n).closedOn sl ((s.callOf n).window.bind Window.base)
          (s.tables.activeProfile sl.cell (s.callOf n).classOr) ∧
        t.bearer sl.cell sl.slot = .serving n ∧ t.bearer cl.cell cl.slot = .free ∧ t.cells = s.cells)

/-- R130, R131: the hold deadline of the merge slot at offset k: k + 1 emissions, and one more for each slot after it, without
a gap, that holds both frames; none is made once the call is no longer BRIDGED. A deadline that is not due does not expire
(R56). That every emission carries the estimates from before the whole event, and with them a capture that a later emission
makes (R118), is the model's reading (log 9); so is that an expiry is a command that may come late, and changes nothing while
its deadline is not due (logs 4 and 3). -/
def Obligations.HoldDeadlineEmitsItsSlot : Prop :=
  ∀ (s : State) (n : Circuit) (k : Fin 4) (win : Window) (b : Seq) (x : Time), (s.callOf n).state = .bridged →
    (s.callOf n).window = some win → win.base = some b → (win.slots.at k).deadline = some x →
    let complete := ((ascending 4).drop (k.val + 1)).takeWhile fun j => (win.slots.at j).full
    (s.due x = true → ∃ t, exec (.holdDeadlineExpiry n k) s = .next t ∧
      Ends s (State.emissions n (s.callOf n).estimates (k.val + 1 + complete.length) s) t) ∧
    (s.due x = false → exec (.holdDeadlineExpiry n k) s = .next s)

/-! ### Registry and cache -/

/-- R6, R28, R24, R4, R5, R26, R30: a search's read completes. A primary read without a match asks for the alternate
bucket. The last read of a search that is not stale frees the context and makes its group READY: with FOUND, the record
installed; with NOT FOUND, nothing installed; and with DAMAGED as NOT FOUND with a REGISTRY_DAMAGED capture. The context
freed goes to the group that asks first. A stale search installs and reports nothing and starts again at its primary
read. -/
def Obligations.SearchReadInstallsTheRecord : Prop :=
  ∀ (s : State) (c : ContextId) (b : BucketId) (x : Search) (scan : Scan),
    s.reg.port = some (.searchRead c b) → s.reg.contexts.at c = some x →
    scanBucket s.reg.mem x.hid b x.damaged = scan → s.sig.held = none →
    let others (t : State) : Prop := ∀ d, d ≠ c → t.reg.contexts.at d = s.reg.contexts.at d
    let ready (found : Bool) : List Group := s.sig.groups.filter (fun g => g.hid ≠ x.hid) ++ [⟨x.hid, .ready found⟩]
    let same (t : State) : Prop := t.cells = s.cells ∧ t.call = s.call ∧ t.reg.mem = s.reg.mem
    let quiet (t : State) : Prop := same t ∧ others t ∧ t.cache = s.cache ∧ t.sig = s.sig ∧
      t.attn.captures = s.attn.captures
    (scan.found = none → x.alternate = false → ∃ t, exec .searchReadComplete s = .next t ∧ quiet t ∧
      t.reg.contexts.at c = some { x with alternate := true, damaged := scan.damaged }) ∧
    (x.stale = true → (scan.found ≠ none ∨ x.alternate = true) → ∃ t, exec .searchReadComplete s = .next t ∧ quiet t ∧
      t.reg.contexts.at c = some ⟨x.hid, false, none, false⟩) ∧
    (x.stale = false → (∀ g ∈ s.sig.groups, g.hid ≠ x.hid → g.phase.asks = false) →
      (∀ a r, scan.found = some (a, r) → s.entryOf x.hid = none → ∃ t, exec .searchReadComplete s = .next t ∧
        same t ∧ others t ∧ t.entryOf x.hid = some ⟨r, a⟩ ∧ t.reg.contexts.at c = none ∧
        t.sig = { s.sig with groups := ready true } ∧ t.attn.captures = s.attn.captures) ∧
      (scan.found = none → x.alternate = true → ∃ t, exec .searchReadComplete s = .next t ∧ same t ∧ others t ∧
        t.cache = s.cache ∧ t.reg.contexts.at c = none ∧ t.sig = { s.sig with groups := ready false } ∧
        (scan.damaged = none → t.attn.captures = s.attn.captures) ∧
        ∀ a, scan.damaged = some a → s.attn.captureEnables.registryDamaged = true → s.attn.captures.length < 4 →
          t.attn.captures = s.attn.captures ++ [⟨.registryDamaged, s.timeBase, false,
            { hid := some x.hid, slot := some a.slot.val, bucket := some a.bucket }⟩])) ∧
    (∀ h, x.stale = false → scan.found = none → x.alternate = true → s.sig.firstAsking = some h → h ≠ x.hid →
      s.reg.format = .formatted → (∀ d, d ≠ c → s.reg.contexts.at d ≠ none) →
      ∃ t, exec .searchReadComplete s = .next t ∧ same t ∧ others t ∧ t.cache = s.cache ∧
        t.reg.contexts.at c = some ⟨h, false, none, false⟩ ∧
        t.sig = { s.sig with groups := (ready false).map fun g => if g.hid = h then ⟨h, .searching c⟩ else g })

/-- R12, R13, R9, R7, R8, R11, R18, R19: the arbiter grants an idle port to a waiting requester: one that is overdue goes before one that
is not, and W goes before S, S before M and M before B among the rest; each grant sets its own pass count to 0 and adds 1,
up to 8, to that of every other waiting requester. A busy port is left alone. A management write or empty write is composed
at its grant: an update from the queued write for its slot, else from the valid entry that names it, else from the image
its search delivered; and the queued write is removed. A sweep write is the slot's image with the one mark cleared, while
the image holds the HID that was read; otherwise it is skipped, and the sweep goes on as at a completion. That a skip counts
as a grant to B, after which the idle port is granted again, is the model's reading (log 12). -/
def Obligations.PortIsGrantedByPriority : Prop :=
  (∀ (s : State) (q : Requester), s.chosen = some q → s.waits q = true ∧
    (∀ r, s.waits r = true → 8 ≤ s.reg.pass.of r → 8 ≤ s.reg.pass.of q) ∧
    (∀ r, s.waits r = true → (8 ≤ s.reg.pass.of r ↔ 8 ≤ s.reg.pass.of q) →
      priorityOrder.idxOf q ≤ priorityOrder.idxOf r) ∧
    ∀ r, (s.countGrant q).reg.pass.of r =
      if r = q then 0 else if s.waits r then min (s.reg.pass.of r + 1) 8 else 0) ∧
  (∀ s : State, s.chosen = none ↔ ∀ r, s.waits r = false) ∧
  ∀ s before : State,
    let w : State := { s with reg := s.reg.refresh before.reg.readyOrder }
    (s.reg.port ≠ none → (s.settlePort before).reg.port = s.reg.port) ∧
    (s.reg.port = none →
      (w.chosen = none → (s.settlePort before).reg.port = none) ∧
      (w.chosen = some .w → ∀ x rest, s.reg.writes = x :: rest →
        (s.settlePort before).reg.port = some (.writeThrough x.addr x.image) ∧
        (s.settlePort before).reg.writes = rest) ∧
      (w.chosen = some .s → ∀ c rest x, w.reg.readyOrder = c :: rest → s.reg.contexts.at c = some x →
        (s.settlePort before).reg.port = some (.searchRead c x.bucket)) ∧
      (w.chosen = some .m → ∀ op, s.mgmt.op = some op →
        (op.stage = .primary → (s.settlePort before).reg.port = some (.mgmtRead (primaryBucket op.job.hid))) ∧
        (∀ k, op.stage = .alternate k →
          (s.settlePort before).reg.port = some (.mgmtRead (alternateBucket op.job.hid))) ∧
        ∀ a image insert, op.stage = .write a image insert →
          (s.settlePort before).reg.writes = s.reg.writes.filter (fun x => x.addr ≠ a) ∧
          (∀ h, op.job = .delete h ∨ op.job = .clear → (s.settlePort before).reg.port = some (.emptyWrite a)) ∧
          (∀ h standing mclass, op.job = .write h standing mclass → insert = true →
            (s.settlePort before).reg.port =
              some (.mgmtWrite a ⟨h, standing, mclass, .detached, none, false, false⟩)) ∧
          ∀ h standing mclass base, op.job = .write h standing mclass → insert = false →
            (base = match queuedAt s.reg.writes a, s.entryAt a with
              | some x, _ => x.image
              | none, some e => e.record
              | none, none => image) →
            (s.settlePort before).reg.port = some (.mgmtWrite a (match standing with
              | .permitted => { base with standing := .permitted, mclass }
              | .barred =>
                { base with standing := .barred, mclass, attach := .detached, location := none }))) ∧
      (w.chosen = some .b → s.reg.format = .formatting →
        (s.settlePort before).reg.port = some (.formatWrite (formatAddr s.reg.formatPos))) ∧
      (w.chosen = some .b → s.reg.format ≠ .formatting →
        (∀ mode b last, s.reg.sweep = .running mode b last .reading →
          (s.settlePort before).reg.port = some (.sweepRead b)) ∧
        ∀ mode b last image x todo, s.reg.sweep = .running mode b last (.writing image (x :: todo)) →
          let now := image.at x.slot
          (now.hid = x.hid → (s.settlePort before).reg.sweep = s.reg.sweep ∧
            (s.settlePort before).reg.port = some (.sweepWrite ⟨b, x.slot⟩ (match mode with
              | .stale => { now with seen := false }
              | .moved => { now with moved := false }))) ∧
          (now.hid ≠ x.hid → todo.length < 4 →
            let u := w.countGrant .b
            let ended (resume : Option BucketId) : State :=
              { u with reg := { u.reg with sweep := .ended resume }, mgmt := { u.mgmt with unread := true } }
            let skipped : State :=
              if todo ≠ [] then { u with reg := { u.reg with sweep := .running mode b last (.writing image todo) } }
              else if b = last then ended none
              else if s.mgmt.sweepList.length = 32 then ended (some (b + 1))
              else { u with reg := { u.reg with sweep := .running mode (b + 1) last .reading } }
            s.settlePort before = skipped.settlePort before)))

/-- R1, R11, R14, R19, R9, R8, R168, R29, R30: what the completion of each kind of record write leaves in memory, and, while
no message is held (R15), what it leaves as it was. A management write, an empty write and a write of a running sweep mark as
stale each search for a HID that the slot held before or holds after, and reopen each group of such a HID that is READY with
NOT FOUND; a group alone in asking takes a FREE context at once. No other write does either. A read without a requester
delivers to nobody. That a damaged slot is taken to have held no HID (log 20), that an operation without a requester clears no
watch and reaches neither cache nor parking (log 14), and where the format position stands after the last format write
(log 21), is the model's reading. -/
def Obligations.RecordWritesReachMemory : Prop :=
  ∀ (s : State) (a : RecAddr) (r : Record),
    let frame (t : State) : Prop := s.sig.held = none → t.cells = s.cells ∧ t.call = s.call
    let still (t : State) : Prop := s.sig.held = none →
      t.sig = s.sig ∧ t.cache = s.cache ∧ t.reg.contexts = s.reg.contexts
    let before : List Hid := match slotView s.reg.mem a with
      | .occupied x => [x.hid]
      | .empty | .damaged => []
    let reports (t : State) (hids : List Hid) : Prop := s.sig.held = none →
      (∀ c x, s.reg.contexts.at c = some x →
        t.reg.contexts.at c = some (if x.hid ∈ hids then { x with stale := true } else x)) ∧
      t.sig.parked = s.sig.parked ∧ t.sig.intake = s.sig.intake ∧
      (s.reg.freeContext = none → t.sig.groups =
        s.sig.groups.map fun g => if g.phase = .ready false ∧ g.hid ∈ hids then ⟨g.hid, .reopened⟩ else g) ∧
      (∀ g c m, g ∈ s.sig.groups → g.phase = .ready false → g.hid ∈ hids →
        (∀ x ∈ s.sig.groups, x.phase.asks = false ∧ (x.phase = .ready false → x.hid ∈ hids → x = g)) →
        m ∈ s.sig.parked → m.hid = g.hid → s.reg.freeContext = some c → s.reg.format = .formatted →
        t.sig.groups = s.sig.groups.map (fun x => if x.hid = g.hid then ⟨g.hid, .searching c⟩ else x) ∧
        t.reg.contexts.at c = some ⟨g.hid, false, none, false⟩)
    (s.reg.port = some (.writeThrough a r) → ∃ t, exec .writeThroughComplete s = .next t ∧
      t.reg.mem = writeRecord s.reg.mem a r ∧ frame t ∧ still t ∧ (∀ w, t.mgmt.watch = some w → w.addr ≠ a)) ∧
    (s.reg.port = some (.mgmtWrite a r) → ∃ t, exec .mgmtWriteComplete s = .next t ∧
      t.reg.mem = writeRecord s.reg.mem a r ∧ frame t ∧ (∀ w, t.mgmt.watch = some w → w.addr ≠ a) ∧
      reports t (before ++ [r.hid])) ∧
    (s.reg.port = some (.emptyWrite a) → ∃ t, exec .emptyWriteComplete s = .next t ∧
      t.reg.mem = writeRecord s.reg.mem a .empty ∧ t.entryAt a = none ∧ queuedAt t.reg.writes a = none ∧
      frame t ∧ (∀ w, t.mgmt.watch = some w → w.addr ≠ a) ∧ reports t before) ∧
    (s.reg.port = some (.formatWrite a) → ∃ t, exec .formatWriteComplete s = .next t ∧
      t.reg.mem = writeRecord s.reg.mem a .empty ∧ t.reg.formatPos = s.reg.formatPos + 1 ∧
      t.reg.format = (if s.reg.formatPos + 1 = 8192 then .formatted else s.reg.format) ∧ frame t ∧ still t) ∧
    (s.reg.port = some (.sweepWrite a r) → ∃ t, exec .sweepWriteComplete s = .next t ∧
      t.reg.mem = writeRecord s.reg.mem a r ∧ frame t ∧ (∀ w, t.mgmt.watch = some w → w.addr ≠ a) ∧
      ∀ mode b last image todo, s.reg.sweep = .running mode b last (.writing image todo) →
        reports t (before ++ [r.hid])) ∧
    (s.reg.port = some (.orphanWrite a r) → ∃ t, exec .portOperationCompletesIntoNothing s = .next t ∧
      t.reg.mem = writeRecord s.reg.mem a r ∧ frame t ∧ still t ∧
      (s.sig.held = none → t.mgmt.watch = s.mgmt.watch)) ∧
    ∀ b, s.reg.port = some (.orphanRead b) → ∃ t, exec .portOperationCompletesIntoNothing s = .next t ∧
      t.reg.mem = s.reg.mem ∧
      (s.sig.held = none → Settles s { s with reg := { s.reg with port := none } } t)

/-- R9, R34, R36, R7, R19, R20: a completed management update reaches the entry that names its slot and a write queued for
it since its grant, and is answered DONE; a completed sweep write clears its mark there and leaves the other fields, and
the last one of a bucket ends the sweep at the end of its range or at a full list, or takes it to the next bucket, and any
other leaves the writes after it to be made. A completed write-through or sweep write replaces the image that a management
request keeps of its slot; and a completed write-through, management write or empty write that of a sweep. -/
def Obligations.WritesReachTheCacheEntry : Prop :=
  let queued (s t : State) (a : RecAddr) (f : Record → Record) : Prop :=
    let ws := s.reg.writes.map fun w : QueuedWrite => if w.addr = a then ⟨a, f w.image⟩ else w
    t.reg.writes = ws ∨ ∃ w rest, ws = w :: rest ∧ t.reg.port = some (.writeThrough w.addr w.image) ∧ t.reg.writes = rest
  (∀ (s : State) (a : RecAddr) (r : Record) (h : Hid) (standing : Standing) (mclass : MobClass) (stage : MgmtStage)
      (damaged : Option RecAddr) (q : MgmtRequest) (rest : List MgmtRequest),
    s.reg.port = some (.mgmtWrite a r) → s.mgmt.op = some ⟨.write h standing mclass, stage, damaged⟩ →
    s.mgmt.queue = q :: rest → s.sig.held = none →
    let managed (x : Record) : Record := match standing with
      | .permitted => { x with standing := .permitted, mclass }
      | .barred => { x with standing := .barred, mclass, attach := .detached, location := none }
    ∃ t, exec .mgmtWriteComplete s = .next t ∧ t.mgmt.queue = rest ∧ t.mgmt.op = none ∧
      (∀ i : SetId, ∀ w : Way, (t.cache.at i).get w = ((s.cache.at i).get w).map fun e =>
        if e.addr = a then ⟨managed e.record, a⟩ else e) ∧
      queued s t a managed ∧
      (s.exchUp = true → s.exch.txQueue.length + 2 ≤ 64 → t.exch.txQueue = s.exch.txQueue ++
        replyFrame q.tag q.command .done [] :: owed s.attentionSet t.attentionSet)) ∧
  (∀ (s : State) (a : RecAddr) (r : Record) (mode : SweepMode) (b last : BucketId) (image : Table Record 4)
      (todo : List SweepWrite),
    s.reg.port = some (.sweepWrite a r) → s.reg.sweep = .running mode b last (.writing image todo) →
    s.sig.held = none →
    let cleared (x : Record) : Record := match mode with
      | .stale => { x with seen := false }
      | .moved => { x with moved := false }
    ∃ t, exec .sweepWriteComplete s = .next t ∧
      (∀ i : SetId, ∀ w : Way, (t.cache.at i).get w = ((s.cache.at i).get w).map fun e =>
        if e.addr = a then ⟨cleared e.record, a⟩ else e) ∧
      (s.mgmt.op = none → queued s t a cleared) ∧ t.mgmt.sweepList = s.mgmt.sweepList ∧
      (todo.length ≤ 1 →
        (b = last → t.reg.sweep = .ended none ∧ t.mgmt.unread = true) ∧
        (b ≠ last → s.mgmt.sweepList.length = 32 → t.reg.sweep = .ended (some (b + 1)) ∧ t.mgmt.unread = true) ∧
        (b ≠ last → s.mgmt.sweepList.length ≠ 32 → t.reg.sweep = .running mode (b + 1) last .reading)) ∧
      ∀ x y rest, todo = x :: y :: rest → (image.at y.slot).hid = y.hid →
        t.reg.sweep = .running mode b last (.writing image (y :: rest))) ∧
  ∀ (s : State) (a : RecAddr) (r : Record), s.sig.held = none →
    let searched (t : State) : Prop := ∀ job image insert damaged,
      s.mgmt.op = some ⟨job, .write a image insert, damaged⟩ → t.mgmt.op = some ⟨job, .write a r insert, damaged⟩
    let swept (t : State) : Prop := ∀ mode last image x todo,
      s.reg.sweep = .running mode a.bucket last (.writing image (x :: todo)) →
        ((image.put a.slot r).at x.slot).hid = x.hid →
        t.reg.sweep = .running mode a.bucket last (.writing (image.put a.slot r) (x :: todo))
    (s.reg.port = some (.writeThrough a r) → ∃ t, exec .writeThroughComplete s = .next t ∧ searched t ∧ swept t) ∧
    (s.reg.port = some (.sweepWrite a r) → ∃ t, exec .sweepWriteComplete s = .next t ∧ searched t) ∧
    (s.reg.port = some (.mgmtWrite a r) → ∃ t, exec .mgmtWriteComplete s = .next t ∧ swept t) ∧
    (s.reg.port = some (.emptyWrite a) → r = .empty → ∃ t, exec .emptyWriteComplete s = .next t ∧ swept t)

/-- R7, R8, R5, R167, R171, R18, R19, R20: what the bucket reads of a management search and of a sweep deliver. A search
that finds its record ends a READ-RECORD and gives the other requests the slot of their write; a primary read without a
match goes on to the alternate; and without a match there either, a damaged slot passed is reported, a write inserts into
the first empty slot or is answered TABLE_FULL, and the others are answered NOT_FOUND. A sweep's read whose entries fit adds
them and makes the bucket's writes, or goes on at once when there are none: to the end of its range, to the end at a list
of exactly 32, or to the next bucket; entries that do not fit end it at this bucket. -/
def Obligations.BucketReadsDeliver : Prop :=
  (∀ (s : State) (b : BucketId) (job : MgmtJob) (stage : MgmtStage) (d : Option RecAddr) (scan : Scan)
      (q : MgmtRequest) (rest : List MgmtRequest),
    s.reg.port = some (.mgmtRead b) → s.mgmt.op = some ⟨job, stage, d⟩ → s.mgmt.queue = q :: rest →
    scanBucket s.reg.mem job.hid b d = scan → s.sig.held = none →
    let same (t : State) : Prop := t.cache = s.cache ∧ t.reg.mem = s.reg.mem ∧ t.sig = s.sig ∧ t.call = s.call ∧
      t.cells = s.cells
    let answers (t : State) (outcome : MgmtOutcome) (data : List Byte) : Prop :=
      t.mgmt.queue = rest ∧ t.mgmt.op = none ∧ (s.exchUp = true → s.exch.txQueue.length + 2 ≤ 64 →
        t.exch.txQueue = s.exch.txQueue ++
          replyFrame q.tag q.command outcome data :: owed s.attentionSet t.attentionSet)
    let reports (t : State) : Prop :=
      (scan.damaged = none → t.attn.captures = s.attn.captures) ∧
      ∀ a, scan.damaged = some a → s.attn.captureEnables.registryDamaged = true → s.attn.captures.length < 4 →
        t.attn.captures = s.attn.captures ++ [⟨.registryDamaged, s.timeBase, false,
          { hid := some job.hid, slot := some a.slot.val, bucket := some a.bucket }⟩]
    (∀ a r h, scan.found = some (a, r) → job = .read h → ∃ t, exec .mgmtReadComplete s = .next t ∧ same t ∧
      answers t .done (recordData r a) ∧ t.mgmt.watch = some ⟨a, h⟩) ∧
    (∀ a r h, scan.found = some (a, r) → ((∃ st cl, job = .write h st cl) ∨ job = .delete h) →
      ∃ t, exec .mgmtReadComplete s = .next t ∧ same t ∧
        t.mgmt.queue = s.mgmt.queue ∧ t.mgmt.op = some ⟨job, .write a r false, d⟩) ∧
    (scan.found = none → stage = .primary → ∃ t, exec .mgmtReadComplete s = .next t ∧ same t ∧
      t.mgmt.queue = s.mgmt.queue ∧
      t.mgmt.op = some ⟨job, .alternate (firstEmpty s.reg.mem (primaryBucket job.hid)), scan.damaged⟩) ∧
    ∀ e h, scan.found = none → stage = .alternate e →
      (job = .read h ∨ job = .delete h → ∃ t, exec .mgmtReadComplete s = .next t ∧ same t ∧
        answers t .notFound [] ∧ reports t) ∧
      ∀ st cl, job = .write h st cl →
        let slot := match e with
          | some k => some (⟨primaryBucket h, k⟩ : RecAddr)
          | none => (firstEmpty s.reg.mem (alternateBucket h)).map fun k => ⟨alternateBucket h, k⟩
        (∀ a, slot = some a → ∃ t, exec .mgmtReadComplete s = .next t ∧ same t ∧ reports t ∧
          t.mgmt.queue = s.mgmt.queue ∧
          t.mgmt.op = some ⟨job, .write a ⟨h, st, cl, .detached, none, false, false⟩ true, d⟩) ∧
        (slot = none → ∃ t, exec .mgmtReadComplete s = .next t ∧ same t ∧ answers t .tableFull [] ∧ reports t)) ∧
  ∀ (s : State) (mode : SweepMode) (b last : BucketId),
    s.reg.port = some (.sweepRead b) → s.reg.sweep = .running mode b last .reading → s.sig.held = none →
    let entries := (decideBucket s.reg.mem mode b).filterMap Decision.entry
    let writes := (decideBucket s.reg.mem mode b).filterMap Decision.write
    let list := s.mgmt.sweepList ++ entries
    ∃ t, exec .sweepReadComplete s = .next t ∧ t.reg.mem = s.reg.mem ∧ t.cache = s.cache ∧ t.sig = s.sig ∧
      t.call = s.call ∧ t.cells = s.cells ∧
      (32 < list.length →
        t.reg.sweep = .ended (some b) ∧ t.mgmt.sweepList = s.mgmt.sweepList ∧ t.mgmt.unread = true) ∧
      (list.length ≤ 32 → t.mgmt.sweepList = list ∧
        (writes ≠ [] → t.reg.sweep = .running mode b last (.writing (bucketImage s.reg.mem b) writes)) ∧
        (writes = [] → b = last → t.reg.sweep = .ended none ∧ t.mgmt.unread = true) ∧
        (writes = [] → b ≠ last → list.length = 32 → t.reg.sweep = .ended (some (b + 1)) ∧ t.mgmt.unread = true) ∧
        (writes = [] → b ≠ last → list.length < 32 → t.reg.sweep = .running mode (b + 1) last .reading))

/-! ### Management -/

/-- R165, R167, R169, R170, R171, R8, R168, R10, R166: what each record request does at the head while the registry is
FORMATTED; the record requests and SWEEP while it is not; and the record requests with operands of a wrong length or out of
range, whatever the format state. A message that is held waits on (R15). -/
def Obligations.RecordRequestsBeginOrAreRefused : Prop :=
  (∀ (s : State) (q : MgmtRequest) (rest : List MgmtRequest), s.AtHead q rest → s.KeepsHeld → s.reg.format = .formatted →
    (∀ h, q.command = 0x01 → readHidOperand q.operands = some h →
      (∀ e, s.entryOf h = some e → ∃ t, exec .readRecord s = .next t ∧
        Settles s (((s.touch h).setWatch (some ⟨e.addr, h⟩)).answered q rest .done (recordData e.record e.addr)) t) ∧
      (s.entryOf h = none → ∃ t, exec .readRecord s = .next t ∧
        Settles s { s with mgmt := { s.mgmt with watch := none, op := some ⟨.read h, .primary, none⟩ } } t)) ∧
    (∀ h st cl, q.command = 0x02 → readWriteOperands q.operands = some (h, st, cl) →
      ∃ t, exec .writeRecord s = .next t ∧
        Settles s { s with mgmt := { s.mgmt with op := some ⟨.write h st cl, .primary, none⟩ } } t) ∧
    (∀ h st cl, q.command = 0x03 → readWriteOperands q.operands = some (h, st, cl) →
      ((∃ a, s.mgmt.watch = some ⟨a, h⟩) → ∃ t, exec .writeIfUnchanged s = .next t ∧
        Settles s { s with mgmt := { s.mgmt with watch := none, op := some ⟨.write h st cl, .primary, none⟩ } } t) ∧
      ((∀ a, s.mgmt.watch ≠ some ⟨a, h⟩) → ∃ t, exec .writeIfUnchanged s = .next t ∧
        Settles s ((s.setWatch none).answered q rest .watchLost []) t)) ∧
    (∀ h, q.command = 0x04 → readHidOperand q.operands = some h → ∃ t, exec .deleteRecord s = .next t ∧
      Settles s { s with mgmt := { s.mgmt with op := some ⟨.delete h, .primary, none⟩ } } t) ∧
    ∀ a, q.command = 0x05 → readSlotOperands q.operands = some a → ∃ t, exec .clearSlot s = .next t ∧
      Settles s { s with mgmt := { s.mgmt with op := some ⟨.clear, .write a .empty false, none⟩ } } t) ∧
  (∀ (s : State) (q : MgmtRequest) (rest : List MgmtRequest), s.AtHead q rest → s.KeepsHeld →
    let o (i : Nat) : Nat := (q.operands.getD i 0).toNat
    let noHid : Prop := ∀ b ∈ q.operands.take 5, b = 0
    let refused (i : Instr) (u : State) : Prop := ∃ t, exec i s = .next t ∧ Settles s (u.answered q rest .badValue []) t
    let badWrite : Prop := q.operands.length ≠ 7 ∨ noHid ∨ 1 < o 5 ∨ 1 < o 6
    (q.command = 0x01 → q.operands.length ≠ 5 ∨ noHid → refused .readRecord (s.setWatch none)) ∧
    (q.command = 0x02 → badWrite → refused .writeRecord s) ∧
    (q.command = 0x03 → badWrite → refused .writeIfUnchanged (s.setWatch none)) ∧
    (q.command = 0x04 → q.operands.length ≠ 5 ∨ noHid → refused .deleteRecord s) ∧
    (q.command = 0x05 → q.operands.length ≠ 3 ∨ 2047 < o 0 * 256 + o 1 ∨ 3 < o 2 → refused .clearSlot s)) ∧
  ∀ (s : State) (q : MgmtRequest) (rest : List MgmtRequest), s.AtHead q rest → s.KeepsHeld →
    s.reg.format ≠ .formatted →
    let outcome : MgmtOutcome := if s.reg.format = .formatting then .formatting else .notFormatted
    (∀ h, q.command = 0x01 → readHidOperand q.operands = some h → ∃ t, exec .readRecord s = .next t ∧
      Settles s ((s.setWatch none).answered q rest outcome []) t) ∧
    (∀ w, q.command = 0x02 → readWriteOperands q.operands = some w → ∃ t, exec .writeRecord s = .next t ∧
      Settles s (s.answered q rest outcome []) t) ∧
    (∀ w, q.command = 0x03 → readWriteOperands q.operands = some w → ∃ t, exec .writeIfUnchanged s = .next t ∧
      Settles s ((s.setWatch none).answered q rest outcome []) t) ∧
    (∀ h, q.command = 0x04 → readHidOperand q.operands = some h → ∃ t, exec .deleteRecord s = .next t ∧
      Settles s (s.answered q rest outcome []) t) ∧
    (∀ a, q.command = 0x05 → readSlotOperands q.operands = some a → ∃ t, exec .clearSlot s = .next t ∧
      Settles s (s.answered q rest outcome []) t) ∧
    ∀ x, q.command = 0x07 → readSweepOperands q.operands = some x → ∃ t, exec .sweep s = .next t ∧
      Settles s (s.answered q rest outcome []) t

/-- R11, R38, R168, R17, R166: FORMAT-REGISTRY and SWEEP at the head, accepted, refused while a sweep runs, and refused for
operands of a wrong length or out of range; and FORMAT-REGISTRY refused while the registry is FORMATTING. A message that is
held waits on (R15), but a format releases it (see HeldMessageIsReleased). -/
def Obligations.BackgroundWorkIsAccepted : Prop :=
  ∀ (s : State) (q : MgmtRequest) (rest : List MgmtRequest), s.AtHead q rest → s.KeepsHeld →
    (q.command = 0x06 → q.operands = [] → s.sig.held = none → s.reg.format ≠ .formatting → s.reg.sweep.isRunning = false →
      ∃ t, exec .formatRegistry s = .next t ∧ t.reg.format = .formatting ∧ t.reg.formatPos = 0 ∧ t.reg.writes = [] ∧
        (∀ c, t.reg.contexts.at c = none) ∧
        (∀ i, (t.cache.at i).way0 = none ∧ (t.cache.at i).way1 = none ∧ (t.cache.at i).lru = (s.cache.at i).lru) ∧
        t.sig.parked = s.sig.parked ∧ t.mgmt.watch = none ∧ t.mgmt.queue = rest ∧ t.reg.mem = s.reg.mem ∧
        t.call = s.call ∧ t.cells = s.cells ∧
        (s.exchUp = true → s.exch.txQueue.length + 2 ≤ 64 → t.exch.txQueue = s.exch.txQueue ++
          replyFrame q.tag 0x06 .done [] :: owed s.attentionSet t.attentionSet)) ∧
    (∀ m a b, q.command = 0x07 → readSweepOperands q.operands = some (m, a, b) → s.reg.format = .formatted →
      s.reg.sweep.isRunning = false →
      ∃ t, exec .sweep s = .next t ∧ t.reg.sweep = .running m a b .reading ∧ t.mgmt.unread = false ∧
        Settles s (({ s with
          reg := { s.reg with sweep := .running m a b .reading }
          mgmt := { s.mgmt with sweepList := [], unread := false } } : State).answered q rest .done []) t) ∧
    (q.command = 0x06 → q.operands = [] → s.reg.format = .formatted → s.reg.sweep.isRunning = true →
      ∃ t, exec .formatRegistry s = .next t ∧ Settles s (s.answered q rest .sweepBusy []) t) ∧
    (q.command = 0x06 → q.operands = [] → s.reg.format = .formatting →
      ∃ t, exec .formatRegistry s = .next t ∧ Settles s (s.answered q rest .formatting []) t) ∧
    (q.command = 0x06 → q.operands ≠ [] →
      ∃ t, exec .formatRegistry s = .next t ∧ Settles s (s.answered q rest .badValue []) t) ∧
    (let o (i : Nat) : Nat := (q.operands.getD i 0).toNat
      let first := o 1 * 256 + o 2
      let count := o 3 * 256 + o 4
      q.command = 0x07 → (q.operands.length ≠ 5 ∨ o 0 = 0 ∨ 2 < o 0 ∨ 2047 < first ∨ count = 0 ∨ 2048 < first + count) →
      ∃ t, exec .sweep s = .next t ∧ Settles s (s.answered q rest .badValue []) t) ∧
    ∀ x, q.command = 0x07 → readSweepOperands q.operands = some x → s.reg.format = .formatted →
      s.reg.sweep.isRunning = true → ∃ t, exec .sweep s = .next t ∧ Settles s (s.answered q rest .sweepBusy []) t

/-- R98: LOAD-PROFILE writes all nine values of one profile, is refused whole, and changes no call. -/
def Obligations.LoadProfileIsWhole : Prop :=
  ∀ (s : State) (q : MgmtRequest) (rest : List MgmtRequest), s.AtHead q rest → q.command = 0x10 →
    ∀ i w pe1 pe0 ps1 ps0 h1 h0 t' f1 f0 b1 b0 l m : Byte,
      q.operands = [i, w, pe1, pe0, ps1, ps0, h1, h0, t', f1, f0, b1, b0, l, m] →
      let p : Profile := ⟨w.toNat, pe1.toNat * 256 + pe0.toNat, ps1.toNat * 256 + ps0.toNat, h1.toNat * 256 + h0.toNat,
        t'.toNat, f1.toNat * 256 + f0.toNat, b1.toNat * 256 + b0.toNat, l.toNat, m.toNat⟩
      let good : Prop := i.toNat ≤ 7 ∧ (1 ≤ p.w ∧ p.w ≤ 16) ∧ p.pe ≤ 4032 ∧ p.ps ≤ 1023 ∧ p.h ≤ 1023 ∧
        (1 ≤ p.t ∧ p.t ≤ 64) ∧ p.f ≤ 4032 ∧ (10 ≤ p.b ∧ p.b ≤ 1000) ∧ (2 ≤ p.l ∧ p.l ≤ 50) ∧ (1 ≤ p.m ∧ p.m ≤ 9)
      ∃ t, exec .loadProfile s = .next t ∧ t.call = s.call ∧
        (good → (∀ j : ProfileId, t.tables.profiles.at j = if j.val = i.toNat then p else s.tables.profiles.at j) ∧
          Ends s (({ s with tables := t.tables } : State).answered q rest .done []) t ∧
          t.tables = { s.tables with profiles := t.tables.profiles }) ∧
        (¬good → Ends s (s.answered q rest .badValue []) t)

/-- R95, R82, R96, R174, R181, R184: the other loads and settings: each takes effect in one event and is answered DONE;
operands of a wrong length or out of range are refused with BAD_VALUE. -/
def Obligations.LoadsAndSettingsTakeEffect : Prop :=
  ∀ (s : State) (q : MgmtRequest) (rest : List MgmtRequest), s.AtHead q rest →
    let loads (i : Instr) (command : Byte) {α : Type} (read : List Byte → Option α) (effect : α → State) : Prop :=
      q.command = command →
        (∀ x, read q.operands = some x →
          ∃ t, exec i s = .next t ∧ Ends s ((effect x).answered q rest .done []) t) ∧
        (read q.operands = none → ∃ t, exec i s = .next t ∧ Ends s (s.answered q rest .badValue []) t)
    loads .loadNeighbourRow 0x11 readNeighbourOperands (fun x =>
      { s with tables := { s.tables with neighbours := s.tables.neighbours.put x.1 x.2 } }) ∧
    loads .loadZone 0x12 readZoneOperands (fun x =>
      { s with tables := { s.tables with
          zones := s.tables.zones.put x.1 x.2.1, zoneStore := putCells s.tables.zoneStore x.2.1.first x.2.2 } }) ∧
    loads .loadCell 0x13 readCellOperands (fun x =>
      { s with tables := { s.tables with cellConfigs := s.tables.cellConfigs.put x.1 x.2 } }) ∧
    loads .loadTiming 0x14 readTimingOperands (fun x => { s with tables := { s.tables with timing := x } }) ∧
    loads .setAttention 0x31 readAttentionOperands (fun x => { s with attn := { s.attn with enables := x } }) ∧
    loads .setCapture 0x33 readCaptureOperands (fun x => { s with attn := { s.attn with captureEnables := x } })

/-- R182, R181: READ-CAUSE answers the cause of highest priority that is both pending and enabled, or 0; it clears
nothing and sends no ATTENTION. -/
def Obligations.ReadCauseGivesTheFirstCause : Prop :=
  ∀ (s : State) (q : MgmtRequest) (rest : List MgmtRequest), s.AtHead q rest → q.command = 0x30 → q.operands = [] →
    let capture := s.attn.enables.capture && !s.attn.captures.isEmpty
    let link := s.attn.enables.link && (s.exch.link.flags.any || decide (∃ c, (s.cells.at c).link.flags.any = true))
    let cell := s.attn.enables.cell && decide (∃ c, (s.cells.at c).marks.marked = true)
    let sweep := s.attn.enables.sweep && s.mgmt.unread
    let code : Byte := if capture then 1 else if link then 2 else if cell then 3 else if sweep then 4 else 0
    ∃ t, exec .readCause s = .next t ∧ Ends s (s.answered q rest .done [code]) t ∧
      (s.exchUp = true → s.exch.txQueue.length < 64 →
        t.exch.txQueue = s.exch.txQueue ++ [replyFrame q.tag 0x30 .done [code]])

/-- R148, R150, R173, R175, R177, R185, R186: what each reading request answers and clears. The byte of READ-CALL's data
for an expected sequence that is none is a free value (log 28). -/
def Obligations.ReadsAnswerAndClear : Prop :=
  ∀ (s : State) (q : MgmtRequest) (rest : List MgmtRequest), s.AtHead q rest →
    (∀ x, q.command = 0x15 → readTableOperands q.operands = some x →
      ∃ t, exec .readTable s = .next t ∧ Ends s (s.answered q rest .done (s.tables.itemData x)) t) ∧
    (∀ n : Circuit, q.command = 0x24 → q.operands = [BitVec.ofNat 8 n.val] →
      ∃ t, exec .readCall s = .next t ∧
        Ends s (s.answered q rest .done (callData s.timeBase n (s.callOf n) (s.remaining (s.callOf n).timer))) t) ∧
    (∀ i : Fin 25, q.command = 0x22 → q.operands = [BitVec.ofNat 8 i.val] →
      ∃ t, exec .readLink s = .next t ∧
        Ends s ((((s.modUnit (linkNumber i) fun u =>
          { u with flags := ⟨false, false, false, false, false, false⟩, counters := ⟨0, 0, 0, 0⟩ }).setLimit
            (linkNumber i) false).answered q rest .done (s.linkData (linkNumber i)))) t) ∧
    (∀ c : CellId, q.command = 0x23 → q.operands = [BitVec.ofNat 8 c.val] →
      ∃ t, exec .readCell s = .next t ∧
        Ends s ((s.modCell c fun u => { u with marks := ⟨false, false, false⟩ }).answered q rest .done
          (s.cells.at c).data) t) ∧
    (q.command = 0x32 → q.operands = [] → ∃ t, exec .readCapture s = .next t ∧
      Ends s (({ s with attn := { s.attn with captures := s.attn.captures.tail } } : State).answered q rest .done
        ((s.attn.captures.head?.map captureData).getD [])) t) ∧
    (q.command = 0x08 → q.operands = [] → ∃ t, exec .readSweep s = .next t ∧
      ((∃ p, s.reg.sweep = .ended p) → Ends s
        (({ s with mgmt := { s.mgmt with unread := false } } : State).answered q rest .done s.sweepData) t) ∧
      ((∀ p, s.reg.sweep ≠ .ended p) → Ends s (s.answered q rest .done s.sweepData) t))

/-- R138, R140, R71, R74, R152, R166, R69, R66, R67, R178: CELL-CONTROL on a cell link in each state, and refused with
BAD_VALUE; LINK-TEST; and FORCE-CLEAR of a call in each state. Where a link leaves UP, ENDED(LOST) for each call lost with a
hold time of 0, in ascending circuit order, is placed before DONE. That a frame being sent is cut off also at a change of a
link that is not UP is the model's reading (log 13); that a request without an action of its own is answered by each of the
three rows is its choice (log 18); and that nothing returns once a link has left LOOP is its reading too (log 27). -/
def Obligations.ControlRequestsTakeEffect : Prop :=
  ∀ (s : State) (q : MgmtRequest) (rest : List MgmtRequest), s.AtHead q rest →
    (∀ c : CellId, q.command = 0x20 → (s.cells.at c).link.state ≠ .up →
      let moved (st : LinkState) : State := s.modCell c fun u =>
        { u with
          link := { u.link with state := st, silence := none, sending := none, idleStart := s.timeBase }
          sigQueue := [], voiceQueue := [], testCount := 0, returning := [] }
      (q.operands = [BitVec.ofNat 8 c.val, 1] → ∃ t, exec .cellControlEnable s = .next t ∧
        Ends s ((if (s.cells.at c).link.state = .down then s else moved .down).answered q rest .done []) t) ∧
      (q.operands = [BitVec.ofNat 8 c.val, 2] → ∃ t, exec .cellControlDisable s = .next t ∧
        Ends s ((if (s.cells.at c).link.state = .off then s else moved .off).answered q rest .done []) t) ∧
      (q.operands = [BitVec.ofNat 8 c.val, 3] → ∃ t, exec .cellControlLoop s = .next t ∧
        Ends s ((if (s.cells.at c).link.state = .loop then s else moved .loop).answered q rest .done []) t)) ∧
    (∀ c : CellId, q.command = 0x20 → (s.cells.at c).link.state = .up → s.CallsOk → s.BearersOk →
      let left (t : State) (st : LinkState) : Prop := (t.cells.at c).link.state = st ∧
        (t.cells.at c).link.silence = none ∧ (t.cells.at c).link.sending = none ∧ (t.cells.at c).sigQueue = [] ∧
        (t.cells.at c).voiceQueue = [] ∧ (t.cells.at c).testCount = 0 ∧
        (t.cells.at c).link.rxFifo = (s.cells.at c).link.rxFifo ∧ (∀ d, d ≠ c → t.cells.at d = s.cells.at d) ∧
        LosesCell s t c ∧ t.mgmt.queue = rest ∧ t.sig = s.sig ∧ t.reg = s.reg ∧ t.cache = s.cache ∧
        t.tables = s.tables ∧
        let lost := (ascending 192).filter fun n => s.tables.timing.hold = 0 ∧ legAt c (s.callOf n).serving = true ∧
          ((s.callOf n).state = .active ∨ legAt c (s.callOf n).candidate = true)
        (s.exchUp = true → s.exch.txQueue.length + lost.length + 2 ≤ 64 → t.exch.txQueue =
          s.exch.txQueue ++ lost.map (endedFrame · .lost) ++
            replyFrame q.tag q.command .done [] :: owed s.attentionSet t.attentionSet)
      (q.operands = [BitVec.ofNat 8 c.val, 1] → ∃ t, exec .cellControlEnable s = .next t ∧
        Ends s (s.answered q rest .done []) t) ∧
      (q.operands = [BitVec.ofNat 8 c.val, 2] → ∃ t, exec .cellControlDisable s = .next t ∧ left t .off) ∧
      (q.operands = [BitVec.ofNat 8 c.val, 3] → ∃ t, exec .cellControlLoop s = .next t ∧ left t .loop)) ∧
    (q.command = 0x20 →
      let refused (i : Instr) : Prop := ∃ t, exec i s = .next t ∧ Ends s (s.answered q rest .badValue []) t
      (∀ c : Byte, 23 < c.toNat → (q.operands = [c, 1] → refused .cellControlEnable) ∧
        (q.operands = [c, 2] → refused .cellControlDisable) ∧ (q.operands = [c, 3] → refused .cellControlLoop)) ∧
      ((∀ c a : Byte, q.operands = [c, a] → a.toNat = 0 ∨ 3 < a.toNat) →
        ∀ i ∈ [Instr.cellControlEnable, .cellControlDisable, .cellControlLoop], refused i)) ∧
    (∀ (c : CellId) (n : Byte), q.command = 0x21 → q.operands = [BitVec.ofNat 8 c.val, n] →
      ∃ t, exec .linkTest s = .next t ∧
        (n ≠ 0 → (s.cells.at c).link.state = .loop →
          Ends s ((s.modCell c fun u => { u with testCount := n.toNat }).answered q rest .done []) t) ∧
        (n = 0 ∨ (s.cells.at c).link.state ≠ .loop → Ends s (s.answered q rest .badValue []) t)) ∧
    ∀ n : Circuit, q.command = 0x25 → q.operands = [BitVec.ofNat 8 n.val] →
      ((s.callOf n).state = .free ∨ (s.callOf n).state = .clearing → ∃ t, exec .forceClear s = .next t ∧
        Ends s (s.answered q rest .done []) t) ∧
      ((s.callOf n).state = .paging → s.exchUp = true → s.exch.txQueue.length + 3 ≤ 64 →
        ∃ t, exec .forceClear s = .next t ∧ t.callOf n = .free (s.callOf n).profile ∧
          t.call.freeQueue = s.call.freeQueue ++ [n] ∧ (∀ m, m ≠ n → t.callOf m = s.callOf m) ∧ t.cells = s.cells ∧
          t.exch.txQueue = s.exch.txQueue ++ endedFrame n .forced :: replyFrame q.tag q.command .done [] ::
            owed s.attentionSet t.attentionSet) ∧
      ((s.callOf n).state.inCall = true → ∃ t, exec .forceClear s = .next t ∧ EndsCall s t n ∧ t.mgmt.queue = rest ∧
        (s.exchUp = true → s.exch.txQueue.length + 3 ≤ 64 → t.exch.txQueue = s.exch.txQueue ++
          endedFrame n .forced :: replyFrame q.tag q.command .done [] :: owed s.attentionSet t.attentionSet))

/-- R179, R21, R38, R53, R80, R153, R187, R166: RESTART keeps the tables, enables, link states and reports, clears the
rest, and answers DONE as the first frame; an unassigned command number is answered UNKNOWN_COMMAND. -/
def Obligations.RestartClearsTraffic : Prop :=
  ∀ (s : State) (q : MgmtRequest) (rest : List MgmtRequest), s.AtHead q rest →
    (q.command = 0x3F → q.operands = [] → s.exchUp = true → ∃ t, exec .restart s = .next t ∧
      t.tables = s.tables ∧ t.timeBase = s.timeBase ∧ t.reg.mem = s.reg.mem ∧ t.attn.enables = s.attn.enables ∧
      t.attn.captureEnables = s.attn.captureEnables ∧
      (∀ l, (t.unit l).state = (s.unit l).state ∧ (t.unit l).silence = (s.unit l).silence ∧
        (t.unit l).flags.any = false ∧ (t.unit l).counters = ⟨0, 0, 0, 0⟩ ∧ (t.unit l).rxFifo = [] ∧
        t.limit l = false) ∧
      (∀ c, (t.cells.at c).sigQueue = [] ∧ (t.cells.at c).voiceQueue = [] ∧ (t.cells.at c).testCount = 0 ∧
        (t.cells.at c).report = (s.cells.at c).report ∧ (t.cells.at c).marks = ⟨false, false, false⟩) ∧
      t.exch.txQueue = [replyFrame q.tag 0x3F .done []] ∧ t.sig = ⟨.exchange, none, [], []⟩ ∧
      t.reg.format = (if s.reg.format = .formatting then .unformatted else s.reg.format) ∧ t.reg.writes = [] ∧
      t.reg.sweep = .idle ∧ t.reg.pass = ⟨0, 0, 0, 0⟩ ∧ (∀ c, t.reg.contexts.at c = none) ∧
      (∀ i, t.cache.at i = ⟨none, none, .way0⟩) ∧ (∀ n, t.callOf n = .free (s.callOf n).profile) ∧
      t.call.freeQueue = ascending 192 ∧ (∀ c k, t.bearer c k = .free) ∧ t.mgmt = ⟨[], none, none, [], false⟩ ∧
      t.attn.captures = [] ∧ t.attn.pin = false) ∧
    (Cmd.assigned.contains q.command = false → ∃ t, exec .unknownCommand s = .next t ∧
      Ends s (s.answered q rest .unknownCommand []) t)
end

