-- ==== Sys2Proof/Laws/Tables.lean ====
section
/-! SUPPORT. Tables of a fixed number of like things: reading after a replacement. -/

namespace Sys2Proof

variable {α β : Type} {n : Nat}

@[simp] theorem Table.at_put_same (t : Table α n) (i : Fin n) (x : α) : (t.put i x).at i = x := by
  simp [Table.at, Table.put]

@[simp] theorem Table.at_put_other (t : Table α n) {i j : Fin n} (x : α) (h : j ≠ i) : (t.put i x).at j = t.at j := by
  have : i.val ≠ j.val := fun e => h (Fin.ext e.symm)
  simp [Table.at, Table.put, this]

theorem Table.at_put (t : Table α n) (i j : Fin n) (x : α) : (t.put i x).at j = if j = i then x else t.at j := by
  split
  · next h => subst h; simp
  · next h => simp [h]

@[simp] theorem Table.at_all (i : Fin n) (x : α) : (Table.all n x).at i = x := by simp [Table.at, Table.all]

@[simp] theorem Table.at_map (t : Table α n) (f : α → β) (i : Fin n) : Table.at (t.map f) i = f (t.at i) := by
  simp [Table.at]

@[simp] theorem Table.put_at (t : Table α n) (i : Fin n) : t.put i (t.at i) = t := by
  simp [Table.at, Table.put]

theorem Table.ext {s t : Table α n} (h : ∀ i, s.at i = t.at i) : s = t := by
  apply Vector.ext
  intro i hi
  exact h ⟨i, hi⟩

@[simp] theorem mem_ascending (i : Fin n) : i ∈ ascending n := by simp [ascending]

theorem nodup_ascending : (ascending n).Nodup := List.nodup_finRange n

end Sys2Proof
end

