-- ==== Sys2Proof/Laws/State.lean ====
section
/-! SUPPORT. The fields that each named update leaves as they are: one lemma per field per update, true by its definition. -/

namespace Sys2Proof.Machine

open Sys2Proof

variable (s : State)

@[simp] theorem State.modCell_pending (c : CellId) (f : CellLink → CellLink) : (s.modCell c f).pending = s.pending := rfl
@[simp] theorem State.modCell_timeBase (c : CellId) (f : CellLink → CellLink) : (s.modCell c f).timeBase = s.timeBase := rfl
@[simp] theorem State.modCell_exch (c : CellId) (f : CellLink → CellLink) : (s.modCell c f).exch = s.exch := rfl
@[simp] theorem State.modCell_sig (c : CellId) (f : CellLink → CellLink) : (s.modCell c f).sig = s.sig := rfl
@[simp] theorem State.modCell_reg (c : CellId) (f : CellLink → CellLink) : (s.modCell c f).reg = s.reg := rfl
@[simp] theorem State.modCell_cache (c : CellId) (f : CellLink → CellLink) : (s.modCell c f).cache = s.cache := rfl
@[simp] theorem State.modCell_call (c : CellId) (f : CellLink → CellLink) : (s.modCell c f).call = s.call := rfl
@[simp] theorem State.modCell_tables (c : CellId) (f : CellLink → CellLink) : (s.modCell c f).tables = s.tables := rfl
@[simp] theorem State.modCell_mgmt (c : CellId) (f : CellLink → CellLink) : (s.modCell c f).mgmt = s.mgmt := rfl
@[simp] theorem State.modCell_attn (c : CellId) (f : CellLink → CellLink) : (s.modCell c f).attn = s.attn := rfl

@[simp] theorem State.modExch_pending (f : ExchLink → ExchLink) : (s.modExch f).pending = s.pending := rfl
@[simp] theorem State.modExch_timeBase (f : ExchLink → ExchLink) : (s.modExch f).timeBase = s.timeBase := rfl
@[simp] theorem State.modExch_cells (f : ExchLink → ExchLink) : (s.modExch f).cells = s.cells := rfl
@[simp] theorem State.modExch_sig (f : ExchLink → ExchLink) : (s.modExch f).sig = s.sig := rfl
@[simp] theorem State.modExch_reg (f : ExchLink → ExchLink) : (s.modExch f).reg = s.reg := rfl
@[simp] theorem State.modExch_cache (f : ExchLink → ExchLink) : (s.modExch f).cache = s.cache := rfl
@[simp] theorem State.modExch_call (f : ExchLink → ExchLink) : (s.modExch f).call = s.call := rfl
@[simp] theorem State.modExch_tables (f : ExchLink → ExchLink) : (s.modExch f).tables = s.tables := rfl
@[simp] theorem State.modExch_mgmt (f : ExchLink → ExchLink) : (s.modExch f).mgmt = s.mgmt := rfl
@[simp] theorem State.modExch_attn (f : ExchLink → ExchLink) : (s.modExch f).attn = s.attn := rfl

@[simp] theorem State.modUnit_pending (l : LinkId) (f : LinkUnit → LinkUnit) : (s.modUnit l f).pending = s.pending := by cases l <;> rfl
@[simp] theorem State.modUnit_timeBase (l : LinkId) (f : LinkUnit → LinkUnit) : (s.modUnit l f).timeBase = s.timeBase := by cases l <;> rfl
@[simp] theorem State.modUnit_sig (l : LinkId) (f : LinkUnit → LinkUnit) : (s.modUnit l f).sig = s.sig := by cases l <;> rfl
@[simp] theorem State.modUnit_reg (l : LinkId) (f : LinkUnit → LinkUnit) : (s.modUnit l f).reg = s.reg := by cases l <;> rfl
@[simp] theorem State.modUnit_cache (l : LinkId) (f : LinkUnit → LinkUnit) : (s.modUnit l f).cache = s.cache := by cases l <;> rfl
@[simp] theorem State.modUnit_call (l : LinkId) (f : LinkUnit → LinkUnit) : (s.modUnit l f).call = s.call := by cases l <;> rfl
@[simp] theorem State.modUnit_tables (l : LinkId) (f : LinkUnit → LinkUnit) : (s.modUnit l f).tables = s.tables := by cases l <;> rfl
@[simp] theorem State.modUnit_mgmt (l : LinkId) (f : LinkUnit → LinkUnit) : (s.modUnit l f).mgmt = s.mgmt := by cases l <;> rfl
@[simp] theorem State.modUnit_attn (l : LinkId) (f : LinkUnit → LinkUnit) : (s.modUnit l f).attn = s.attn := by cases l <;> rfl

@[simp] theorem State.stray_pending (l : LinkId) : (s.stray l).pending = s.pending := by cases l <;> rfl
@[simp] theorem State.stray_timeBase (l : LinkId) : (s.stray l).timeBase = s.timeBase := by cases l <;> rfl
@[simp] theorem State.stray_sig (l : LinkId) : (s.stray l).sig = s.sig := by cases l <;> rfl
@[simp] theorem State.stray_reg (l : LinkId) : (s.stray l).reg = s.reg := by cases l <;> rfl
@[simp] theorem State.stray_cache (l : LinkId) : (s.stray l).cache = s.cache := by cases l <;> rfl
@[simp] theorem State.stray_call (l : LinkId) : (s.stray l).call = s.call := by cases l <;> rfl
@[simp] theorem State.stray_tables (l : LinkId) : (s.stray l).tables = s.tables := by cases l <;> rfl
@[simp] theorem State.stray_mgmt (l : LinkId) : (s.stray l).mgmt = s.mgmt := by cases l <;> rfl
@[simp] theorem State.stray_attn (l : LinkId) : (s.stray l).attn = s.attn := by cases l <;> rfl

@[simp] theorem State.lateDiscard_pending (c : CellId) : (s.lateDiscard c).pending = s.pending := rfl
@[simp] theorem State.lateDiscard_timeBase (c : CellId) : (s.lateDiscard c).timeBase = s.timeBase := rfl
@[simp] theorem State.lateDiscard_exch (c : CellId) : (s.lateDiscard c).exch = s.exch := rfl
@[simp] theorem State.lateDiscard_sig (c : CellId) : (s.lateDiscard c).sig = s.sig := rfl
@[simp] theorem State.lateDiscard_reg (c : CellId) : (s.lateDiscard c).reg = s.reg := rfl
@[simp] theorem State.lateDiscard_cache (c : CellId) : (s.lateDiscard c).cache = s.cache := rfl
@[simp] theorem State.lateDiscard_call (c : CellId) : (s.lateDiscard c).call = s.call := rfl
@[simp] theorem State.lateDiscard_tables (c : CellId) : (s.lateDiscard c).tables = s.tables := rfl
@[simp] theorem State.lateDiscard_mgmt (c : CellId) : (s.lateDiscard c).mgmt = s.mgmt := rfl
@[simp] theorem State.lateDiscard_attn (c : CellId) : (s.lateDiscard c).attn = s.attn := rfl

@[simp] theorem State.placeSig_pending (c : CellId) (f : Frame) : (s.placeSig c f).pending = s.pending := rfl
@[simp] theorem State.placeSig_timeBase (c : CellId) (f : Frame) : (s.placeSig c f).timeBase = s.timeBase := rfl
@[simp] theorem State.placeSig_exch (c : CellId) (f : Frame) : (s.placeSig c f).exch = s.exch := rfl
@[simp] theorem State.placeSig_sig (c : CellId) (f : Frame) : (s.placeSig c f).sig = s.sig := rfl
@[simp] theorem State.placeSig_reg (c : CellId) (f : Frame) : (s.placeSig c f).reg = s.reg := rfl
@[simp] theorem State.placeSig_cache (c : CellId) (f : Frame) : (s.placeSig c f).cache = s.cache := rfl
@[simp] theorem State.placeSig_call (c : CellId) (f : Frame) : (s.placeSig c f).call = s.call := rfl
@[simp] theorem State.placeSig_tables (c : CellId) (f : Frame) : (s.placeSig c f).tables = s.tables := rfl
@[simp] theorem State.placeSig_mgmt (c : CellId) (f : Frame) : (s.placeSig c f).mgmt = s.mgmt := rfl
@[simp] theorem State.placeSig_attn (c : CellId) (f : Frame) : (s.placeSig c f).attn = s.attn := rfl

@[simp] theorem State.placeVoice_pending (c : CellId) (f : Frame) : (s.placeVoice c f).pending = s.pending := rfl
@[simp] theorem State.placeVoice_timeBase (c : CellId) (f : Frame) : (s.placeVoice c f).timeBase = s.timeBase := rfl
@[simp] theorem State.placeVoice_exch (c : CellId) (f : Frame) : (s.placeVoice c f).exch = s.exch := rfl
@[simp] theorem State.placeVoice_sig (c : CellId) (f : Frame) : (s.placeVoice c f).sig = s.sig := rfl
@[simp] theorem State.placeVoice_reg (c : CellId) (f : Frame) : (s.placeVoice c f).reg = s.reg := rfl
@[simp] theorem State.placeVoice_cache (c : CellId) (f : Frame) : (s.placeVoice c f).cache = s.cache := rfl
@[simp] theorem State.placeVoice_call (c : CellId) (f : Frame) : (s.placeVoice c f).call = s.call := rfl
@[simp] theorem State.placeVoice_tables (c : CellId) (f : Frame) : (s.placeVoice c f).tables = s.tables := rfl
@[simp] theorem State.placeVoice_mgmt (c : CellId) (f : Frame) : (s.placeVoice c f).mgmt = s.mgmt := rfl
@[simp] theorem State.placeVoice_attn (c : CellId) (f : Frame) : (s.placeVoice c f).attn = s.attn := rfl

@[simp] theorem State.placeExch_pending (f : Frame) : (s.placeExch f).pending = s.pending := rfl
@[simp] theorem State.placeExch_timeBase (f : Frame) : (s.placeExch f).timeBase = s.timeBase := rfl
@[simp] theorem State.placeExch_cells (f : Frame) : (s.placeExch f).cells = s.cells := rfl
@[simp] theorem State.placeExch_sig (f : Frame) : (s.placeExch f).sig = s.sig := rfl
@[simp] theorem State.placeExch_reg (f : Frame) : (s.placeExch f).reg = s.reg := rfl
@[simp] theorem State.placeExch_cache (f : Frame) : (s.placeExch f).cache = s.cache := rfl
@[simp] theorem State.placeExch_call (f : Frame) : (s.placeExch f).call = s.call := rfl
@[simp] theorem State.placeExch_tables (f : Frame) : (s.placeExch f).tables = s.tables := rfl
@[simp] theorem State.placeExch_mgmt (f : Frame) : (s.placeExch f).mgmt = s.mgmt := rfl
@[simp] theorem State.placeExch_attn (f : Frame) : (s.placeExch f).attn = s.attn := rfl

@[simp] theorem State.capture_pending (k : CaptureKind) (d : CaptureDetail) : (s.capture k d).pending = s.pending := by simp only [State.capture]; split <;> rfl
@[simp] theorem State.capture_timeBase (k : CaptureKind) (d : CaptureDetail) : (s.capture k d).timeBase = s.timeBase := by simp only [State.capture]; split <;> rfl
@[simp] theorem State.capture_cells (k : CaptureKind) (d : CaptureDetail) : (s.capture k d).cells = s.cells := by simp only [State.capture]; split <;> rfl
@[simp] theorem State.capture_exch (k : CaptureKind) (d : CaptureDetail) : (s.capture k d).exch = s.exch := by simp only [State.capture]; split <;> rfl
@[simp] theorem State.capture_sig (k : CaptureKind) (d : CaptureDetail) : (s.capture k d).sig = s.sig := by simp only [State.capture]; split <;> rfl
@[simp] theorem State.capture_reg (k : CaptureKind) (d : CaptureDetail) : (s.capture k d).reg = s.reg := by simp only [State.capture]; split <;> rfl
@[simp] theorem State.capture_cache (k : CaptureKind) (d : CaptureDetail) : (s.capture k d).cache = s.cache := by simp only [State.capture]; split <;> rfl
@[simp] theorem State.capture_call (k : CaptureKind) (d : CaptureDetail) : (s.capture k d).call = s.call := by simp only [State.capture]; split <;> rfl
@[simp] theorem State.capture_tables (k : CaptureKind) (d : CaptureDetail) : (s.capture k d).tables = s.tables := by simp only [State.capture]; split <;> rfl
@[simp] theorem State.capture_mgmt (k : CaptureKind) (d : CaptureDetail) : (s.capture k d).mgmt = s.mgmt := by simp only [State.capture]; split <;> rfl

@[simp] theorem State.setLimit_pending (l : LinkId) (b : Bool) : (s.setLimit l b).pending = s.pending := by cases l <;> rfl
@[simp] theorem State.setLimit_timeBase (l : LinkId) (b : Bool) : (s.setLimit l b).timeBase = s.timeBase := by cases l <;> rfl
@[simp] theorem State.setLimit_cells (l : LinkId) (b : Bool) : (s.setLimit l b).cells = s.cells := by cases l <;> rfl
@[simp] theorem State.setLimit_exch (l : LinkId) (b : Bool) : (s.setLimit l b).exch = s.exch := by cases l <;> rfl
@[simp] theorem State.setLimit_sig (l : LinkId) (b : Bool) : (s.setLimit l b).sig = s.sig := by cases l <;> rfl
@[simp] theorem State.setLimit_reg (l : LinkId) (b : Bool) : (s.setLimit l b).reg = s.reg := by cases l <;> rfl
@[simp] theorem State.setLimit_cache (l : LinkId) (b : Bool) : (s.setLimit l b).cache = s.cache := by cases l <;> rfl
@[simp] theorem State.setLimit_call (l : LinkId) (b : Bool) : (s.setLimit l b).call = s.call := by cases l <;> rfl
@[simp] theorem State.setLimit_tables (l : LinkId) (b : Bool) : (s.setLimit l b).tables = s.tables := by cases l <;> rfl
@[simp] theorem State.setLimit_mgmt (l : LinkId) (b : Bool) : (s.setLimit l b).mgmt = s.mgmt := by cases l <;> rfl

@[simp] theorem State.setPin_pending : (s.setPin).pending = s.pending := rfl
@[simp] theorem State.setPin_timeBase : (s.setPin).timeBase = s.timeBase := rfl
@[simp] theorem State.setPin_cells : (s.setPin).cells = s.cells := rfl
@[simp] theorem State.setPin_exch : (s.setPin).exch = s.exch := rfl
@[simp] theorem State.setPin_sig : (s.setPin).sig = s.sig := rfl
@[simp] theorem State.setPin_reg : (s.setPin).reg = s.reg := rfl
@[simp] theorem State.setPin_cache : (s.setPin).cache = s.cache := rfl
@[simp] theorem State.setPin_call : (s.setPin).call = s.call := rfl
@[simp] theorem State.setPin_tables : (s.setPin).tables = s.tables := rfl
@[simp] theorem State.setPin_mgmt : (s.setPin).mgmt = s.mgmt := rfl

@[simp] theorem State.tick_pending : (s.tick).pending = s.pending := rfl
@[simp] theorem State.tick_cells : (s.tick).cells = s.cells := rfl
@[simp] theorem State.tick_exch : (s.tick).exch = s.exch := rfl
@[simp] theorem State.tick_sig : (s.tick).sig = s.sig := rfl
@[simp] theorem State.tick_reg : (s.tick).reg = s.reg := rfl
@[simp] theorem State.tick_cache : (s.tick).cache = s.cache := rfl
@[simp] theorem State.tick_call : (s.tick).call = s.call := rfl
@[simp] theorem State.tick_tables : (s.tick).tables = s.tables := rfl
@[simp] theorem State.tick_mgmt : (s.tick).mgmt = s.mgmt := rfl
@[simp] theorem State.tick_attn : (s.tick).attn = s.attn := rfl

@[simp] theorem State.modCall_pending (n : Circuit) (f : CallRecord → CallRecord) : (s.modCall n f).pending = s.pending := rfl
@[simp] theorem State.modCall_timeBase (n : Circuit) (f : CallRecord → CallRecord) : (s.modCall n f).timeBase = s.timeBase := rfl
@[simp] theorem State.modCall_cells (n : Circuit) (f : CallRecord → CallRecord) : (s.modCall n f).cells = s.cells := rfl
@[simp] theorem State.modCall_exch (n : Circuit) (f : CallRecord → CallRecord) : (s.modCall n f).exch = s.exch := rfl
@[simp] theorem State.modCall_sig (n : Circuit) (f : CallRecord → CallRecord) : (s.modCall n f).sig = s.sig := rfl
@[simp] theorem State.modCall_reg (n : Circuit) (f : CallRecord → CallRecord) : (s.modCall n f).reg = s.reg := rfl
@[simp] theorem State.modCall_cache (n : Circuit) (f : CallRecord → CallRecord) : (s.modCall n f).cache = s.cache := rfl
@[simp] theorem State.modCall_tables (n : Circuit) (f : CallRecord → CallRecord) : (s.modCall n f).tables = s.tables := rfl
@[simp] theorem State.modCall_mgmt (n : Circuit) (f : CallRecord → CallRecord) : (s.modCall n f).mgmt = s.mgmt := rfl
@[simp] theorem State.modCall_attn (n : Circuit) (f : CallRecord → CallRecord) : (s.modCall n f).attn = s.attn := rfl

@[simp] theorem State.setBearer_pending (c : CellId) (k : SlotId) (b : Bearer) : (s.setBearer c k b).pending = s.pending := rfl
@[simp] theorem State.setBearer_timeBase (c : CellId) (k : SlotId) (b : Bearer) : (s.setBearer c k b).timeBase = s.timeBase := rfl
@[simp] theorem State.setBearer_cells (c : CellId) (k : SlotId) (b : Bearer) : (s.setBearer c k b).cells = s.cells := rfl
@[simp] theorem State.setBearer_exch (c : CellId) (k : SlotId) (b : Bearer) : (s.setBearer c k b).exch = s.exch := rfl
@[simp] theorem State.setBearer_sig (c : CellId) (k : SlotId) (b : Bearer) : (s.setBearer c k b).sig = s.sig := rfl
@[simp] theorem State.setBearer_reg (c : CellId) (k : SlotId) (b : Bearer) : (s.setBearer c k b).reg = s.reg := rfl
@[simp] theorem State.setBearer_cache (c : CellId) (k : SlotId) (b : Bearer) : (s.setBearer c k b).cache = s.cache := rfl
@[simp] theorem State.setBearer_tables (c : CellId) (k : SlotId) (b : Bearer) : (s.setBearer c k b).tables = s.tables := rfl
@[simp] theorem State.setBearer_mgmt (c : CellId) (k : SlotId) (b : Bearer) : (s.setBearer c k b).mgmt = s.mgmt := rfl
@[simp] theorem State.setBearer_attn (c : CellId) (k : SlotId) (b : Bearer) : (s.setBearer c k b).attn = s.attn := rfl

@[simp] theorem State.freeReleasing_pending (n : Circuit) : (s.freeReleasing n).pending = s.pending := rfl
@[simp] theorem State.freeReleasing_timeBase (n : Circuit) : (s.freeReleasing n).timeBase = s.timeBase := rfl
@[simp] theorem State.freeReleasing_cells (n : Circuit) : (s.freeReleasing n).cells = s.cells := rfl
@[simp] theorem State.freeReleasing_exch (n : Circuit) : (s.freeReleasing n).exch = s.exch := rfl
@[simp] theorem State.freeReleasing_sig (n : Circuit) : (s.freeReleasing n).sig = s.sig := rfl
@[simp] theorem State.freeReleasing_reg (n : Circuit) : (s.freeReleasing n).reg = s.reg := rfl
@[simp] theorem State.freeReleasing_cache (n : Circuit) : (s.freeReleasing n).cache = s.cache := rfl
@[simp] theorem State.freeReleasing_tables (n : Circuit) : (s.freeReleasing n).tables = s.tables := rfl
@[simp] theorem State.freeReleasing_mgmt (n : Circuit) : (s.freeReleasing n).mgmt = s.mgmt := rfl
@[simp] theorem State.freeReleasing_attn (n : Circuit) : (s.freeReleasing n).attn = s.attn := rfl

@[simp] theorem State.freeReleasingAt_pending (c : CellId) : (s.freeReleasingAt c).pending = s.pending := rfl
@[simp] theorem State.freeReleasingAt_timeBase (c : CellId) : (s.freeReleasingAt c).timeBase = s.timeBase := rfl
@[simp] theorem State.freeReleasingAt_cells (c : CellId) : (s.freeReleasingAt c).cells = s.cells := rfl
@[simp] theorem State.freeReleasingAt_exch (c : CellId) : (s.freeReleasingAt c).exch = s.exch := rfl
@[simp] theorem State.freeReleasingAt_sig (c : CellId) : (s.freeReleasingAt c).sig = s.sig := rfl
@[simp] theorem State.freeReleasingAt_reg (c : CellId) : (s.freeReleasingAt c).reg = s.reg := rfl
@[simp] theorem State.freeReleasingAt_cache (c : CellId) : (s.freeReleasingAt c).cache = s.cache := rfl
@[simp] theorem State.freeReleasingAt_tables (c : CellId) : (s.freeReleasingAt c).tables = s.tables := rfl
@[simp] theorem State.freeReleasingAt_mgmt (c : CellId) : (s.freeReleasingAt c).mgmt = s.mgmt := rfl
@[simp] theorem State.freeReleasingAt_attn (c : CellId) : (s.freeReleasingAt c).attn = s.attn := rfl

@[simp] theorem State.sortFreed_pending (before : List Circuit) : (s.sortFreed before).pending = s.pending := rfl
@[simp] theorem State.sortFreed_timeBase (before : List Circuit) : (s.sortFreed before).timeBase = s.timeBase := rfl
@[simp] theorem State.sortFreed_cells (before : List Circuit) : (s.sortFreed before).cells = s.cells := rfl
@[simp] theorem State.sortFreed_exch (before : List Circuit) : (s.sortFreed before).exch = s.exch := rfl
@[simp] theorem State.sortFreed_sig (before : List Circuit) : (s.sortFreed before).sig = s.sig := rfl
@[simp] theorem State.sortFreed_reg (before : List Circuit) : (s.sortFreed before).reg = s.reg := rfl
@[simp] theorem State.sortFreed_cache (before : List Circuit) : (s.sortFreed before).cache = s.cache := rfl
@[simp] theorem State.sortFreed_tables (before : List Circuit) : (s.sortFreed before).tables = s.tables := rfl
@[simp] theorem State.sortFreed_mgmt (before : List Circuit) : (s.sortFreed before).mgmt = s.mgmt := rfl
@[simp] theorem State.sortFreed_attn (before : List Circuit) : (s.sortFreed before).attn = s.attn := rfl

@[simp] theorem State.toFree_pending (n : Circuit) : (s.toFree n).pending = s.pending := by simp only [State.toFree]; split <;> rfl
@[simp] theorem State.toFree_timeBase (n : Circuit) : (s.toFree n).timeBase = s.timeBase := by simp only [State.toFree]; split <;> rfl
@[simp] theorem State.toFree_cells (n : Circuit) : (s.toFree n).cells = s.cells := by simp only [State.toFree]; split <;> rfl
@[simp] theorem State.toFree_exch (n : Circuit) : (s.toFree n).exch = s.exch := by simp only [State.toFree]; split <;> rfl
@[simp] theorem State.toFree_sig (n : Circuit) : (s.toFree n).sig = s.sig := by simp only [State.toFree]; split <;> rfl
@[simp] theorem State.toFree_reg (n : Circuit) : (s.toFree n).reg = s.reg := by simp only [State.toFree]; split <;> rfl
@[simp] theorem State.toFree_cache (n : Circuit) : (s.toFree n).cache = s.cache := by simp only [State.toFree]; split <;> rfl
@[simp] theorem State.toFree_tables (n : Circuit) : (s.toFree n).tables = s.tables := by simp only [State.toFree]; split <;> rfl
@[simp] theorem State.toFree_mgmt (n : Circuit) : (s.toFree n).mgmt = s.mgmt := by simp only [State.toFree]; split <;> rfl
@[simp] theorem State.toFree_attn (n : Circuit) : (s.toFree n).attn = s.attn := by simp only [State.toFree]; split <;> rfl

@[simp] theorem State.leaveClearing_pending (n : Circuit) : (s.leaveClearing n).pending = s.pending := by simp only [State.leaveClearing]; split <;> simp
@[simp] theorem State.leaveClearing_timeBase (n : Circuit) : (s.leaveClearing n).timeBase = s.timeBase := by simp only [State.leaveClearing]; split <;> simp
@[simp] theorem State.leaveClearing_cells (n : Circuit) : (s.leaveClearing n).cells = s.cells := by simp only [State.leaveClearing]; split <;> simp
@[simp] theorem State.leaveClearing_exch (n : Circuit) : (s.leaveClearing n).exch = s.exch := by simp only [State.leaveClearing]; split <;> simp
@[simp] theorem State.leaveClearing_sig (n : Circuit) : (s.leaveClearing n).sig = s.sig := by simp only [State.leaveClearing]; split <;> simp
@[simp] theorem State.leaveClearing_reg (n : Circuit) : (s.leaveClearing n).reg = s.reg := by simp only [State.leaveClearing]; split <;> simp
@[simp] theorem State.leaveClearing_cache (n : Circuit) : (s.leaveClearing n).cache = s.cache := by simp only [State.leaveClearing]; split <;> simp
@[simp] theorem State.leaveClearing_tables (n : Circuit) : (s.leaveClearing n).tables = s.tables := by simp only [State.leaveClearing]; split <;> simp
@[simp] theorem State.leaveClearing_mgmt (n : Circuit) : (s.leaveClearing n).mgmt = s.mgmt := by simp only [State.leaveClearing]; split <;> simp
@[simp] theorem State.leaveClearing_attn (n : Circuit) : (s.leaveClearing n).attn = s.attn := by simp only [State.leaveClearing]; split <;> simp

@[simp] theorem State.touch_pending (h : Hid) : (s.touch h).pending = s.pending := by simp only [State.touch]; split <;> rfl
@[simp] theorem State.touch_timeBase (h : Hid) : (s.touch h).timeBase = s.timeBase := by simp only [State.touch]; split <;> rfl
@[simp] theorem State.touch_cells (h : Hid) : (s.touch h).cells = s.cells := by simp only [State.touch]; split <;> rfl
@[simp] theorem State.touch_exch (h : Hid) : (s.touch h).exch = s.exch := by simp only [State.touch]; split <;> rfl
@[simp] theorem State.touch_sig (h : Hid) : (s.touch h).sig = s.sig := by simp only [State.touch]; split <;> rfl
@[simp] theorem State.touch_reg (h : Hid) : (s.touch h).reg = s.reg := by simp only [State.touch]; split <;> rfl
@[simp] theorem State.touch_call (h : Hid) : (s.touch h).call = s.call := by simp only [State.touch]; split <;> rfl
@[simp] theorem State.touch_tables (h : Hid) : (s.touch h).tables = s.tables := by simp only [State.touch]; split <;> rfl
@[simp] theorem State.touch_mgmt (h : Hid) : (s.touch h).mgmt = s.mgmt := by simp only [State.touch]; split <;> rfl
@[simp] theorem State.touch_attn (h : Hid) : (s.touch h).attn = s.attn := by simp only [State.touch]; split <;> rfl

@[simp] theorem State.setEntry_pending (h : Hid) (r : Record) : (s.setEntry h r).pending = s.pending := by simp only [State.setEntry]; split <;> rfl
@[simp] theorem State.setEntry_timeBase (h : Hid) (r : Record) : (s.setEntry h r).timeBase = s.timeBase := by simp only [State.setEntry]; split <;> rfl
@[simp] theorem State.setEntry_cells (h : Hid) (r : Record) : (s.setEntry h r).cells = s.cells := by simp only [State.setEntry]; split <;> rfl
@[simp] theorem State.setEntry_exch (h : Hid) (r : Record) : (s.setEntry h r).exch = s.exch := by simp only [State.setEntry]; split <;> rfl
@[simp] theorem State.setEntry_sig (h : Hid) (r : Record) : (s.setEntry h r).sig = s.sig := by simp only [State.setEntry]; split <;> rfl
@[simp] theorem State.setEntry_reg (h : Hid) (r : Record) : (s.setEntry h r).reg = s.reg := by simp only [State.setEntry]; split <;> rfl
@[simp] theorem State.setEntry_call (h : Hid) (r : Record) : (s.setEntry h r).call = s.call := by simp only [State.setEntry]; split <;> rfl
@[simp] theorem State.setEntry_tables (h : Hid) (r : Record) : (s.setEntry h r).tables = s.tables := by simp only [State.setEntry]; split <;> rfl
@[simp] theorem State.setEntry_mgmt (h : Hid) (r : Record) : (s.setEntry h r).mgmt = s.mgmt := by simp only [State.setEntry]; split <;> rfl
@[simp] theorem State.setEntry_attn (h : Hid) (r : Record) : (s.setEntry h r).attn = s.attn := by simp only [State.setEntry]; split <;> rfl

@[simp] theorem State.installEntry_pending (e : CacheEntry) : (s.installEntry e).pending = s.pending := rfl
@[simp] theorem State.installEntry_timeBase (e : CacheEntry) : (s.installEntry e).timeBase = s.timeBase := rfl
@[simp] theorem State.installEntry_cells (e : CacheEntry) : (s.installEntry e).cells = s.cells := rfl
@[simp] theorem State.installEntry_exch (e : CacheEntry) : (s.installEntry e).exch = s.exch := rfl
@[simp] theorem State.installEntry_sig (e : CacheEntry) : (s.installEntry e).sig = s.sig := rfl
@[simp] theorem State.installEntry_reg (e : CacheEntry) : (s.installEntry e).reg = s.reg := rfl
@[simp] theorem State.installEntry_call (e : CacheEntry) : (s.installEntry e).call = s.call := rfl
@[simp] theorem State.installEntry_tables (e : CacheEntry) : (s.installEntry e).tables = s.tables := rfl
@[simp] theorem State.installEntry_mgmt (e : CacheEntry) : (s.installEntry e).mgmt = s.mgmt := rfl
@[simp] theorem State.installEntry_attn (e : CacheEntry) : (s.installEntry e).attn = s.attn := rfl

@[simp] theorem State.modEntriesAt_pending (a : RecAddr) (f : CacheEntry → Option CacheEntry) : (s.modEntriesAt a f).pending = s.pending := rfl
@[simp] theorem State.modEntriesAt_timeBase (a : RecAddr) (f : CacheEntry → Option CacheEntry) : (s.modEntriesAt a f).timeBase = s.timeBase := rfl
@[simp] theorem State.modEntriesAt_cells (a : RecAddr) (f : CacheEntry → Option CacheEntry) : (s.modEntriesAt a f).cells = s.cells := rfl
@[simp] theorem State.modEntriesAt_exch (a : RecAddr) (f : CacheEntry → Option CacheEntry) : (s.modEntriesAt a f).exch = s.exch := rfl
@[simp] theorem State.modEntriesAt_sig (a : RecAddr) (f : CacheEntry → Option CacheEntry) : (s.modEntriesAt a f).sig = s.sig := rfl
@[simp] theorem State.modEntriesAt_reg (a : RecAddr) (f : CacheEntry → Option CacheEntry) : (s.modEntriesAt a f).reg = s.reg := rfl
@[simp] theorem State.modEntriesAt_call (a : RecAddr) (f : CacheEntry → Option CacheEntry) : (s.modEntriesAt a f).call = s.call := rfl
@[simp] theorem State.modEntriesAt_tables (a : RecAddr) (f : CacheEntry → Option CacheEntry) : (s.modEntriesAt a f).tables = s.tables := rfl
@[simp] theorem State.modEntriesAt_mgmt (a : RecAddr) (f : CacheEntry → Option CacheEntry) : (s.modEntriesAt a f).mgmt = s.mgmt := rfl
@[simp] theorem State.modEntriesAt_attn (a : RecAddr) (f : CacheEntry → Option CacheEntry) : (s.modEntriesAt a f).attn = s.attn := rfl

@[simp] theorem State.clearWatchAt_pending (a : RecAddr) : (s.clearWatchAt a).pending = s.pending := rfl
@[simp] theorem State.clearWatchAt_timeBase (a : RecAddr) : (s.clearWatchAt a).timeBase = s.timeBase := rfl
@[simp] theorem State.clearWatchAt_cells (a : RecAddr) : (s.clearWatchAt a).cells = s.cells := rfl
@[simp] theorem State.clearWatchAt_exch (a : RecAddr) : (s.clearWatchAt a).exch = s.exch := rfl
@[simp] theorem State.clearWatchAt_sig (a : RecAddr) : (s.clearWatchAt a).sig = s.sig := rfl
@[simp] theorem State.clearWatchAt_reg (a : RecAddr) : (s.clearWatchAt a).reg = s.reg := rfl
@[simp] theorem State.clearWatchAt_cache (a : RecAddr) : (s.clearWatchAt a).cache = s.cache := rfl
@[simp] theorem State.clearWatchAt_call (a : RecAddr) : (s.clearWatchAt a).call = s.call := rfl
@[simp] theorem State.clearWatchAt_tables (a : RecAddr) : (s.clearWatchAt a).tables = s.tables := rfl
@[simp] theorem State.clearWatchAt_attn (a : RecAddr) : (s.clearWatchAt a).attn = s.attn := rfl

@[simp] theorem State.changeEntry_pending (h : Hid) (a : RecAddr) (r : Record) : (s.changeEntry h a r).pending = s.pending := by simp only [State.changeEntry, State.clearWatchAt, State.setEntry]; split <;> rfl
@[simp] theorem State.changeEntry_timeBase (h : Hid) (a : RecAddr) (r : Record) : (s.changeEntry h a r).timeBase = s.timeBase := by simp only [State.changeEntry, State.clearWatchAt, State.setEntry]; split <;> rfl
@[simp] theorem State.changeEntry_cells (h : Hid) (a : RecAddr) (r : Record) : (s.changeEntry h a r).cells = s.cells := by simp only [State.changeEntry, State.clearWatchAt, State.setEntry]; split <;> rfl
@[simp] theorem State.changeEntry_exch (h : Hid) (a : RecAddr) (r : Record) : (s.changeEntry h a r).exch = s.exch := by simp only [State.changeEntry, State.clearWatchAt, State.setEntry]; split <;> rfl
@[simp] theorem State.changeEntry_sig (h : Hid) (a : RecAddr) (r : Record) : (s.changeEntry h a r).sig = s.sig := by simp only [State.changeEntry, State.clearWatchAt, State.setEntry]; split <;> rfl
@[simp] theorem State.changeEntry_call (h : Hid) (a : RecAddr) (r : Record) : (s.changeEntry h a r).call = s.call := by simp only [State.changeEntry, State.clearWatchAt, State.setEntry]; split <;> rfl
@[simp] theorem State.changeEntry_tables (h : Hid) (a : RecAddr) (r : Record) : (s.changeEntry h a r).tables = s.tables := by simp only [State.changeEntry, State.clearWatchAt, State.setEntry]; split <;> rfl
@[simp] theorem State.changeEntry_attn (h : Hid) (a : RecAddr) (r : Record) : (s.changeEntry h a r).attn = s.attn := by simp only [State.changeEntry, State.clearWatchAt, State.setEntry]; split <;> rfl

@[simp] theorem State.setPort_pending (op : Option PortOp) : (s.setPort op).pending = s.pending := rfl
@[simp] theorem State.setPort_timeBase (op : Option PortOp) : (s.setPort op).timeBase = s.timeBase := rfl
@[simp] theorem State.setPort_cells (op : Option PortOp) : (s.setPort op).cells = s.cells := rfl
@[simp] theorem State.setPort_exch (op : Option PortOp) : (s.setPort op).exch = s.exch := rfl
@[simp] theorem State.setPort_sig (op : Option PortOp) : (s.setPort op).sig = s.sig := rfl
@[simp] theorem State.setPort_cache (op : Option PortOp) : (s.setPort op).cache = s.cache := rfl
@[simp] theorem State.setPort_call (op : Option PortOp) : (s.setPort op).call = s.call := rfl
@[simp] theorem State.setPort_tables (op : Option PortOp) : (s.setPort op).tables = s.tables := rfl
@[simp] theorem State.setPort_mgmt (op : Option PortOp) : (s.setPort op).mgmt = s.mgmt := rfl
@[simp] theorem State.setPort_attn (op : Option PortOp) : (s.setPort op).attn = s.attn := rfl

@[simp] theorem State.store_pending (a : RecAddr) (r : Record) : (s.store a r).pending = s.pending := rfl
@[simp] theorem State.store_timeBase (a : RecAddr) (r : Record) : (s.store a r).timeBase = s.timeBase := rfl
@[simp] theorem State.store_cells (a : RecAddr) (r : Record) : (s.store a r).cells = s.cells := rfl
@[simp] theorem State.store_exch (a : RecAddr) (r : Record) : (s.store a r).exch = s.exch := rfl
@[simp] theorem State.store_sig (a : RecAddr) (r : Record) : (s.store a r).sig = s.sig := rfl
@[simp] theorem State.store_cache (a : RecAddr) (r : Record) : (s.store a r).cache = s.cache := rfl
@[simp] theorem State.store_call (a : RecAddr) (r : Record) : (s.store a r).call = s.call := rfl
@[simp] theorem State.store_tables (a : RecAddr) (r : Record) : (s.store a r).tables = s.tables := rfl
@[simp] theorem State.store_mgmt (a : RecAddr) (r : Record) : (s.store a r).mgmt = s.mgmt := rfl
@[simp] theorem State.store_attn (a : RecAddr) (r : Record) : (s.store a r).attn = s.attn := rfl

@[simp] theorem State.written_pending (a : RecAddr) (r : Record) : (s.written a r).pending = s.pending := rfl
@[simp] theorem State.written_timeBase (a : RecAddr) (r : Record) : (s.written a r).timeBase = s.timeBase := rfl
@[simp] theorem State.written_cells (a : RecAddr) (r : Record) : (s.written a r).cells = s.cells := rfl
@[simp] theorem State.written_exch (a : RecAddr) (r : Record) : (s.written a r).exch = s.exch := rfl
@[simp] theorem State.written_sig (a : RecAddr) (r : Record) : (s.written a r).sig = s.sig := rfl
@[simp] theorem State.written_cache (a : RecAddr) (r : Record) : (s.written a r).cache = s.cache := rfl
@[simp] theorem State.written_call (a : RecAddr) (r : Record) : (s.written a r).call = s.call := rfl
@[simp] theorem State.written_tables (a : RecAddr) (r : Record) : (s.written a r).tables = s.tables := rfl
@[simp] theorem State.written_attn (a : RecAddr) (r : Record) : (s.written a r).attn = s.attn := rfl

@[simp] theorem State.writtenByOther_pending (a : RecAddr) (r : Record) : (s.writtenByOther a r).pending = s.pending := rfl
@[simp] theorem State.writtenByOther_timeBase (a : RecAddr) (r : Record) : (s.writtenByOther a r).timeBase = s.timeBase := rfl
@[simp] theorem State.writtenByOther_cells (a : RecAddr) (r : Record) : (s.writtenByOther a r).cells = s.cells := rfl
@[simp] theorem State.writtenByOther_exch (a : RecAddr) (r : Record) : (s.writtenByOther a r).exch = s.exch := rfl
@[simp] theorem State.writtenByOther_sig (a : RecAddr) (r : Record) : (s.writtenByOther a r).sig = s.sig := rfl
@[simp] theorem State.writtenByOther_cache (a : RecAddr) (r : Record) : (s.writtenByOther a r).cache = s.cache := rfl
@[simp] theorem State.writtenByOther_call (a : RecAddr) (r : Record) : (s.writtenByOther a r).call = s.call := rfl
@[simp] theorem State.writtenByOther_tables (a : RecAddr) (r : Record) : (s.writtenByOther a r).tables = s.tables := rfl
@[simp] theorem State.writtenByOther_attn (a : RecAddr) (r : Record) : (s.writtenByOther a r).attn = s.attn := rfl

@[simp] theorem State.carry_pending (a : RecAddr) (f : Record → Record) : (s.carry a f).pending = s.pending := rfl
@[simp] theorem State.carry_timeBase (a : RecAddr) (f : Record → Record) : (s.carry a f).timeBase = s.timeBase := rfl
@[simp] theorem State.carry_cells (a : RecAddr) (f : Record → Record) : (s.carry a f).cells = s.cells := rfl
@[simp] theorem State.carry_exch (a : RecAddr) (f : Record → Record) : (s.carry a f).exch = s.exch := rfl
@[simp] theorem State.carry_sig (a : RecAddr) (f : Record → Record) : (s.carry a f).sig = s.sig := rfl
@[simp] theorem State.carry_call (a : RecAddr) (f : Record → Record) : (s.carry a f).call = s.call := rfl
@[simp] theorem State.carry_tables (a : RecAddr) (f : Record → Record) : (s.carry a f).tables = s.tables := rfl
@[simp] theorem State.carry_mgmt (a : RecAddr) (f : Record → Record) : (s.carry a f).mgmt = s.mgmt := rfl
@[simp] theorem State.carry_attn (a : RecAddr) (f : Record → Record) : (s.carry a f).attn = s.attn := rfl

@[simp] theorem State.reportDamaged_pending (h : Hid) (a : Option RecAddr) : (s.reportDamaged h a).pending = s.pending := by cases a <;> simp [State.reportDamaged]
@[simp] theorem State.reportDamaged_timeBase (h : Hid) (a : Option RecAddr) : (s.reportDamaged h a).timeBase = s.timeBase := by cases a <;> simp [State.reportDamaged]
@[simp] theorem State.reportDamaged_cells (h : Hid) (a : Option RecAddr) : (s.reportDamaged h a).cells = s.cells := by cases a <;> simp [State.reportDamaged]
@[simp] theorem State.reportDamaged_exch (h : Hid) (a : Option RecAddr) : (s.reportDamaged h a).exch = s.exch := by cases a <;> simp [State.reportDamaged]
@[simp] theorem State.reportDamaged_sig (h : Hid) (a : Option RecAddr) : (s.reportDamaged h a).sig = s.sig := by cases a <;> simp [State.reportDamaged]
@[simp] theorem State.reportDamaged_reg (h : Hid) (a : Option RecAddr) : (s.reportDamaged h a).reg = s.reg := by cases a <;> simp [State.reportDamaged]
@[simp] theorem State.reportDamaged_cache (h : Hid) (a : Option RecAddr) : (s.reportDamaged h a).cache = s.cache := by cases a <;> simp [State.reportDamaged]
@[simp] theorem State.reportDamaged_call (h : Hid) (a : Option RecAddr) : (s.reportDamaged h a).call = s.call := by cases a <;> simp [State.reportDamaged]
@[simp] theorem State.reportDamaged_tables (h : Hid) (a : Option RecAddr) : (s.reportDamaged h a).tables = s.tables := by cases a <;> simp [State.reportDamaged]
@[simp] theorem State.reportDamaged_mgmt (h : Hid) (a : Option RecAddr) : (s.reportDamaged h a).mgmt = s.mgmt := by cases a <;> simp [State.reportDamaged]

@[simp] theorem State.setOp_pending (op : MgmtOp) : (s.setOp op).pending = s.pending := rfl
@[simp] theorem State.setOp_timeBase (op : MgmtOp) : (s.setOp op).timeBase = s.timeBase := rfl
@[simp] theorem State.setOp_cells (op : MgmtOp) : (s.setOp op).cells = s.cells := rfl
@[simp] theorem State.setOp_exch (op : MgmtOp) : (s.setOp op).exch = s.exch := rfl
@[simp] theorem State.setOp_sig (op : MgmtOp) : (s.setOp op).sig = s.sig := rfl
@[simp] theorem State.setOp_reg (op : MgmtOp) : (s.setOp op).reg = s.reg := rfl
@[simp] theorem State.setOp_cache (op : MgmtOp) : (s.setOp op).cache = s.cache := rfl
@[simp] theorem State.setOp_call (op : MgmtOp) : (s.setOp op).call = s.call := rfl
@[simp] theorem State.setOp_tables (op : MgmtOp) : (s.setOp op).tables = s.tables := rfl
@[simp] theorem State.setOp_attn (op : MgmtOp) : (s.setOp op).attn = s.attn := rfl

@[simp] theorem State.setWatch_pending (w : Option Watch) : (s.setWatch w).pending = s.pending := rfl
@[simp] theorem State.setWatch_timeBase (w : Option Watch) : (s.setWatch w).timeBase = s.timeBase := rfl
@[simp] theorem State.setWatch_cells (w : Option Watch) : (s.setWatch w).cells = s.cells := rfl
@[simp] theorem State.setWatch_exch (w : Option Watch) : (s.setWatch w).exch = s.exch := rfl
@[simp] theorem State.setWatch_sig (w : Option Watch) : (s.setWatch w).sig = s.sig := rfl
@[simp] theorem State.setWatch_reg (w : Option Watch) : (s.setWatch w).reg = s.reg := rfl
@[simp] theorem State.setWatch_cache (w : Option Watch) : (s.setWatch w).cache = s.cache := rfl
@[simp] theorem State.setWatch_call (w : Option Watch) : (s.setWatch w).call = s.call := rfl
@[simp] theorem State.setWatch_tables (w : Option Watch) : (s.setWatch w).tables = s.tables := rfl
@[simp] theorem State.setWatch_attn (w : Option Watch) : (s.setWatch w).attn = s.attn := rfl

@[simp] theorem State.reply_pending (q : MgmtRequest) (o : MgmtOutcome) (d : List Byte) : (s.reply q o d).pending = s.pending := rfl
@[simp] theorem State.reply_timeBase (q : MgmtRequest) (o : MgmtOutcome) (d : List Byte) : (s.reply q o d).timeBase = s.timeBase := rfl
@[simp] theorem State.reply_cells (q : MgmtRequest) (o : MgmtOutcome) (d : List Byte) : (s.reply q o d).cells = s.cells := rfl
@[simp] theorem State.reply_sig (q : MgmtRequest) (o : MgmtOutcome) (d : List Byte) : (s.reply q o d).sig = s.sig := rfl
@[simp] theorem State.reply_reg (q : MgmtRequest) (o : MgmtOutcome) (d : List Byte) : (s.reply q o d).reg = s.reg := rfl
@[simp] theorem State.reply_cache (q : MgmtRequest) (o : MgmtOutcome) (d : List Byte) : (s.reply q o d).cache = s.cache := rfl
@[simp] theorem State.reply_call (q : MgmtRequest) (o : MgmtOutcome) (d : List Byte) : (s.reply q o d).call = s.call := rfl
@[simp] theorem State.reply_tables (q : MgmtRequest) (o : MgmtOutcome) (d : List Byte) : (s.reply q o d).tables = s.tables := rfl
@[simp] theorem State.reply_attn (q : MgmtRequest) (o : MgmtOutcome) (d : List Byte) : (s.reply q o d).attn = s.attn := rfl

@[simp] theorem State.modTables_pending (f : Tables → Tables) : (s.modTables f).pending = s.pending := rfl
@[simp] theorem State.modTables_timeBase (f : Tables → Tables) : (s.modTables f).timeBase = s.timeBase := rfl
@[simp] theorem State.modTables_cells (f : Tables → Tables) : (s.modTables f).cells = s.cells := rfl
@[simp] theorem State.modTables_exch (f : Tables → Tables) : (s.modTables f).exch = s.exch := rfl
@[simp] theorem State.modTables_sig (f : Tables → Tables) : (s.modTables f).sig = s.sig := rfl
@[simp] theorem State.modTables_reg (f : Tables → Tables) : (s.modTables f).reg = s.reg := rfl
@[simp] theorem State.modTables_cache (f : Tables → Tables) : (s.modTables f).cache = s.cache := rfl
@[simp] theorem State.modTables_call (f : Tables → Tables) : (s.modTables f).call = s.call := rfl
@[simp] theorem State.modTables_mgmt (f : Tables → Tables) : (s.modTables f).mgmt = s.mgmt := rfl
@[simp] theorem State.modTables_attn (f : Tables → Tables) : (s.modTables f).attn = s.attn := rfl

@[simp] theorem State.modAttn_pending (f : Attention → Attention) : (s.modAttn f).pending = s.pending := rfl
@[simp] theorem State.modAttn_timeBase (f : Attention → Attention) : (s.modAttn f).timeBase = s.timeBase := rfl
@[simp] theorem State.modAttn_cells (f : Attention → Attention) : (s.modAttn f).cells = s.cells := rfl
@[simp] theorem State.modAttn_exch (f : Attention → Attention) : (s.modAttn f).exch = s.exch := rfl
@[simp] theorem State.modAttn_sig (f : Attention → Attention) : (s.modAttn f).sig = s.sig := rfl
@[simp] theorem State.modAttn_reg (f : Attention → Attention) : (s.modAttn f).reg = s.reg := rfl
@[simp] theorem State.modAttn_cache (f : Attention → Attention) : (s.modAttn f).cache = s.cache := rfl
@[simp] theorem State.modAttn_call (f : Attention → Attention) : (s.modAttn f).call = s.call := rfl
@[simp] theorem State.modAttn_tables (f : Attention → Attention) : (s.modAttn f).tables = s.tables := rfl
@[simp] theorem State.modAttn_mgmt (f : Attention → Attention) : (s.modAttn f).mgmt = s.mgmt := rfl

@[simp] theorem State.takeFrame_pending (l : LinkId) : (s.takeFrame l).pending = s.pending := by cases l <;> rfl
@[simp] theorem State.takeFrame_timeBase (l : LinkId) : (s.takeFrame l).timeBase = s.timeBase := by cases l <;> rfl
@[simp] theorem State.takeFrame_reg (l : LinkId) : (s.takeFrame l).reg = s.reg := by cases l <;> rfl
@[simp] theorem State.takeFrame_cache (l : LinkId) : (s.takeFrame l).cache = s.cache := by cases l <;> rfl
@[simp] theorem State.takeFrame_call (l : LinkId) : (s.takeFrame l).call = s.call := by cases l <;> rfl
@[simp] theorem State.takeFrame_tables (l : LinkId) : (s.takeFrame l).tables = s.tables := by cases l <;> rfl
@[simp] theorem State.takeFrame_mgmt (l : LinkId) : (s.takeFrame l).mgmt = s.mgmt := by cases l <;> rfl
@[simp] theorem State.takeFrame_attn (l : LinkId) : (s.takeFrame l).attn = s.attn := by cases l <;> rfl

@[simp] theorem State.sweepEnd_pending (b : Option BucketId) : (s.sweepEnd b).pending = s.pending := rfl
@[simp] theorem State.sweepEnd_timeBase (b : Option BucketId) : (s.sweepEnd b).timeBase = s.timeBase := rfl
@[simp] theorem State.sweepEnd_cells (b : Option BucketId) : (s.sweepEnd b).cells = s.cells := rfl
@[simp] theorem State.sweepEnd_exch (b : Option BucketId) : (s.sweepEnd b).exch = s.exch := rfl
@[simp] theorem State.sweepEnd_sig (b : Option BucketId) : (s.sweepEnd b).sig = s.sig := rfl
@[simp] theorem State.sweepEnd_cache (b : Option BucketId) : (s.sweepEnd b).cache = s.cache := rfl
@[simp] theorem State.sweepEnd_call (b : Option BucketId) : (s.sweepEnd b).call = s.call := rfl
@[simp] theorem State.sweepEnd_tables (b : Option BucketId) : (s.sweepEnd b).tables = s.tables := rfl
@[simp] theorem State.sweepEnd_attn (b : Option BucketId) : (s.sweepEnd b).attn = s.attn := rfl

@[simp] theorem State.formatOn_pending : (s.formatOn).pending = s.pending := rfl
@[simp] theorem State.formatOn_timeBase : (s.formatOn).timeBase = s.timeBase := rfl
@[simp] theorem State.formatOn_cells : (s.formatOn).cells = s.cells := rfl
@[simp] theorem State.formatOn_exch : (s.formatOn).exch = s.exch := rfl
@[simp] theorem State.formatOn_sig : (s.formatOn).sig = s.sig := rfl
@[simp] theorem State.formatOn_cache : (s.formatOn).cache = s.cache := rfl
@[simp] theorem State.formatOn_call : (s.formatOn).call = s.call := rfl
@[simp] theorem State.formatOn_tables : (s.formatOn).tables = s.tables := rfl
@[simp] theorem State.formatOn_mgmt : (s.formatOn).mgmt = s.mgmt := rfl
@[simp] theorem State.formatOn_attn : (s.formatOn).attn = s.attn := rfl

@[simp] theorem State.startSweep_pending (m : SweepMode) (a b : BucketId) : (s.startSweep m a b).pending = s.pending := rfl
@[simp] theorem State.startSweep_timeBase (m : SweepMode) (a b : BucketId) : (s.startSweep m a b).timeBase = s.timeBase := rfl
@[simp] theorem State.startSweep_cells (m : SweepMode) (a b : BucketId) : (s.startSweep m a b).cells = s.cells := rfl
@[simp] theorem State.startSweep_exch (m : SweepMode) (a b : BucketId) : (s.startSweep m a b).exch = s.exch := rfl
@[simp] theorem State.startSweep_sig (m : SweepMode) (a b : BucketId) : (s.startSweep m a b).sig = s.sig := rfl
@[simp] theorem State.startSweep_cache (m : SweepMode) (a b : BucketId) : (s.startSweep m a b).cache = s.cache := rfl
@[simp] theorem State.startSweep_call (m : SweepMode) (a b : BucketId) : (s.startSweep m a b).call = s.call := rfl
@[simp] theorem State.startSweep_tables (m : SweepMode) (a b : BucketId) : (s.startSweep m a b).tables = s.tables := rfl
@[simp] theorem State.startSweep_attn (m : SweepMode) (a b : BucketId) : (s.startSweep m a b).attn = s.attn := rfl

@[simp] theorem State.readUnread_pending : (s.readUnread).pending = s.pending := by simp only [State.readUnread]; split <;> rfl
@[simp] theorem State.readUnread_timeBase : (s.readUnread).timeBase = s.timeBase := by simp only [State.readUnread]; split <;> rfl
@[simp] theorem State.readUnread_cells : (s.readUnread).cells = s.cells := by simp only [State.readUnread]; split <;> rfl
@[simp] theorem State.readUnread_exch : (s.readUnread).exch = s.exch := by simp only [State.readUnread]; split <;> rfl
@[simp] theorem State.readUnread_sig : (s.readUnread).sig = s.sig := by simp only [State.readUnread]; split <;> rfl
@[simp] theorem State.readUnread_reg : (s.readUnread).reg = s.reg := by simp only [State.readUnread]; split <;> rfl
@[simp] theorem State.readUnread_cache : (s.readUnread).cache = s.cache := by simp only [State.readUnread]; split <;> rfl
@[simp] theorem State.readUnread_call : (s.readUnread).call = s.call := by simp only [State.readUnread]; split <;> rfl
@[simp] theorem State.readUnread_tables : (s.readUnread).tables = s.tables := by simp only [State.readUnread]; split <;> rfl
@[simp] theorem State.readUnread_attn : (s.readUnread).attn = s.attn := by simp only [State.readUnread]; split <;> rfl

@[simp] theorem State.clearLink_pending (l : LinkId) : (s.clearLink l).pending = s.pending := by cases l <;> rfl
@[simp] theorem State.clearLink_timeBase (l : LinkId) : (s.clearLink l).timeBase = s.timeBase := by cases l <;> rfl
@[simp] theorem State.clearLink_sig (l : LinkId) : (s.clearLink l).sig = s.sig := by cases l <;> rfl
@[simp] theorem State.clearLink_reg (l : LinkId) : (s.clearLink l).reg = s.reg := by cases l <;> rfl
@[simp] theorem State.clearLink_cache (l : LinkId) : (s.clearLink l).cache = s.cache := by cases l <;> rfl
@[simp] theorem State.clearLink_call (l : LinkId) : (s.clearLink l).call = s.call := by cases l <;> rfl
@[simp] theorem State.clearLink_tables (l : LinkId) : (s.clearLink l).tables = s.tables := by cases l <;> rfl
@[simp] theorem State.clearLink_mgmt (l : LinkId) : (s.clearLink l).mgmt = s.mgmt := by cases l <;> rfl

@[simp] theorem State.heard_pending (l : LinkId) : (s.heard l).pending = s.pending := by cases l <;> rfl
@[simp] theorem State.heard_timeBase (l : LinkId) : (s.heard l).timeBase = s.timeBase := by cases l <;> rfl
@[simp] theorem State.heard_sig (l : LinkId) : (s.heard l).sig = s.sig := by cases l <;> rfl
@[simp] theorem State.heard_reg (l : LinkId) : (s.heard l).reg = s.reg := by cases l <;> rfl
@[simp] theorem State.heard_cache (l : LinkId) : (s.heard l).cache = s.cache := by cases l <;> rfl
@[simp] theorem State.heard_call (l : LinkId) : (s.heard l).call = s.call := by cases l <;> rfl
@[simp] theorem State.heard_tables (l : LinkId) : (s.heard l).tables = s.tables := by cases l <;> rfl
@[simp] theorem State.heard_mgmt (l : LinkId) : (s.heard l).mgmt = s.mgmt := by cases l <;> rfl
@[simp] theorem State.heard_attn (l : LinkId) : (s.heard l).attn = s.attn := by cases l <;> rfl

@[simp] theorem State.received_pending (l : LinkId) : (s.received l).pending = s.pending := by cases l <;> rfl
@[simp] theorem State.received_timeBase (l : LinkId) : (s.received l).timeBase = s.timeBase := by cases l <;> rfl
@[simp] theorem State.received_sig (l : LinkId) : (s.received l).sig = s.sig := by cases l <;> rfl
@[simp] theorem State.received_reg (l : LinkId) : (s.received l).reg = s.reg := by cases l <;> rfl
@[simp] theorem State.received_cache (l : LinkId) : (s.received l).cache = s.cache := by cases l <;> rfl
@[simp] theorem State.received_call (l : LinkId) : (s.received l).call = s.call := by cases l <;> rfl
@[simp] theorem State.received_tables (l : LinkId) : (s.received l).tables = s.tables := by cases l <;> rfl
@[simp] theorem State.received_mgmt (l : LinkId) : (s.received l).mgmt = s.mgmt := by cases l <;> rfl
@[simp] theorem State.received_attn (l : LinkId) : (s.received l).attn = s.attn := by cases l <;> rfl

@[simp] theorem State.countGrant_pending (r : Requester) : (s.countGrant r).pending = s.pending := rfl
@[simp] theorem State.countGrant_timeBase (r : Requester) : (s.countGrant r).timeBase = s.timeBase := rfl
@[simp] theorem State.countGrant_cells (r : Requester) : (s.countGrant r).cells = s.cells := rfl
@[simp] theorem State.countGrant_exch (r : Requester) : (s.countGrant r).exch = s.exch := rfl
@[simp] theorem State.countGrant_sig (r : Requester) : (s.countGrant r).sig = s.sig := rfl
@[simp] theorem State.countGrant_cache (r : Requester) : (s.countGrant r).cache = s.cache := rfl
@[simp] theorem State.countGrant_call (r : Requester) : (s.countGrant r).call = s.call := rfl
@[simp] theorem State.countGrant_tables (r : Requester) : (s.countGrant r).tables = s.tables := rfl
@[simp] theorem State.countGrant_mgmt (r : Requester) : (s.countGrant r).mgmt = s.mgmt := rfl
@[simp] theorem State.countGrant_attn (r : Requester) : (s.countGrant r).attn = s.attn := rfl

@[simp] theorem State.dropPasses_pending : (s.dropPasses).pending = s.pending := rfl
@[simp] theorem State.dropPasses_timeBase : (s.dropPasses).timeBase = s.timeBase := rfl
@[simp] theorem State.dropPasses_cells : (s.dropPasses).cells = s.cells := rfl
@[simp] theorem State.dropPasses_exch : (s.dropPasses).exch = s.exch := rfl
@[simp] theorem State.dropPasses_sig : (s.dropPasses).sig = s.sig := rfl
@[simp] theorem State.dropPasses_cache : (s.dropPasses).cache = s.cache := rfl
@[simp] theorem State.dropPasses_call : (s.dropPasses).call = s.call := rfl
@[simp] theorem State.dropPasses_tables : (s.dropPasses).tables = s.tables := rfl
@[simp] theorem State.dropPasses_mgmt : (s.dropPasses).mgmt = s.mgmt := rfl
@[simp] theorem State.dropPasses_attn : (s.dropPasses).attn = s.attn := rfl

@[simp] theorem State.protocolError_pending (l : LinkId) (k : Option SlotId) (h : Option Hid) : (s.protocolError l k h).pending = s.pending := by simp only [State.protocolError]; split <;> simp
@[simp] theorem State.protocolError_timeBase (l : LinkId) (k : Option SlotId) (h : Option Hid) : (s.protocolError l k h).timeBase = s.timeBase := by simp only [State.protocolError]; split <;> simp
@[simp] theorem State.protocolError_sig (l : LinkId) (k : Option SlotId) (h : Option Hid) : (s.protocolError l k h).sig = s.sig := by simp only [State.protocolError]; split <;> simp
@[simp] theorem State.protocolError_reg (l : LinkId) (k : Option SlotId) (h : Option Hid) : (s.protocolError l k h).reg = s.reg := by simp only [State.protocolError]; split <;> simp
@[simp] theorem State.protocolError_cache (l : LinkId) (k : Option SlotId) (h : Option Hid) : (s.protocolError l k h).cache = s.cache := by simp only [State.protocolError]; split <;> simp
@[simp] theorem State.protocolError_call (l : LinkId) (k : Option SlotId) (h : Option Hid) : (s.protocolError l k h).call = s.call := by simp only [State.protocolError]; split <;> simp
@[simp] theorem State.protocolError_tables (l : LinkId) (k : Option SlotId) (h : Option Hid) : (s.protocolError l k h).tables = s.tables := by simp only [State.protocolError]; split <;> simp
@[simp] theorem State.protocolError_mgmt (l : LinkId) (k : Option SlotId) (h : Option Hid) : (s.protocolError l k h).mgmt = s.mgmt := by simp only [State.protocolError]; split <;> simp

@[simp] theorem State.judgeAttention_pending (b : State) : (s.judgeAttention b).pending = s.pending := by simp only [State.judgeAttention]; split <;> rfl
@[simp] theorem State.judgeAttention_timeBase (b : State) : (s.judgeAttention b).timeBase = s.timeBase := by simp only [State.judgeAttention]; split <;> rfl
@[simp] theorem State.judgeAttention_cells (b : State) : (s.judgeAttention b).cells = s.cells := by simp only [State.judgeAttention]; split <;> rfl
@[simp] theorem State.judgeAttention_sig (b : State) : (s.judgeAttention b).sig = s.sig := by simp only [State.judgeAttention]; split <;> rfl
@[simp] theorem State.judgeAttention_reg (b : State) : (s.judgeAttention b).reg = s.reg := by simp only [State.judgeAttention]; split <;> rfl
@[simp] theorem State.judgeAttention_cache (b : State) : (s.judgeAttention b).cache = s.cache := by simp only [State.judgeAttention]; split <;> rfl
@[simp] theorem State.judgeAttention_call (b : State) : (s.judgeAttention b).call = s.call := by simp only [State.judgeAttention]; split <;> rfl
@[simp] theorem State.judgeAttention_tables (b : State) : (s.judgeAttention b).tables = s.tables := by simp only [State.judgeAttention]; split <;> rfl
@[simp] theorem State.judgeAttention_mgmt (b : State) : (s.judgeAttention b).mgmt = s.mgmt := by simp only [State.judgeAttention]; split <;> rfl

@[simp] theorem State.sent_pending (l : LinkId) : (s.sent l).pending = s.pending := by cases l <;> rfl
@[simp] theorem State.sent_timeBase (l : LinkId) : (s.sent l).timeBase = s.timeBase := by cases l <;> rfl
@[simp] theorem State.sent_sig (l : LinkId) : (s.sent l).sig = s.sig := by cases l <;> rfl
@[simp] theorem State.sent_reg (l : LinkId) : (s.sent l).reg = s.reg := by cases l <;> rfl
@[simp] theorem State.sent_cache (l : LinkId) : (s.sent l).cache = s.cache := by cases l <;> rfl
@[simp] theorem State.sent_call (l : LinkId) : (s.sent l).call = s.call := by cases l <;> rfl
@[simp] theorem State.sent_tables (l : LinkId) : (s.sent l).tables = s.tables := by cases l <;> rfl
@[simp] theorem State.sent_mgmt (l : LinkId) : (s.sent l).mgmt = s.mgmt := by cases l <;> rfl
@[simp] theorem State.sent_attn (l : LinkId) : (s.sent l).attn = s.attn := by cases l <;> rfl

@[simp] theorem CellLink.returned_link (u : CellLink) : u.returned.link = u.link := rfl
@[simp] theorem CellLink.returned_sigQueue (u : CellLink) : u.returned.sigQueue = u.sigQueue := rfl
@[simp] theorem CellLink.returned_voiceQueue (u : CellLink) : u.returned.voiceQueue = u.voiceQueue := rfl
@[simp] theorem CellLink.returned_testCount (u : CellLink) : u.returned.testCount = u.testCount := rfl
@[simp] theorem CellLink.returned_returning (u : CellLink) : u.returned.returning = u.returning.tail := rfl
@[simp] theorem CellLink.enter_returning (u : CellLink) (st : LinkState) (now : Time) : (u.enter st now).returning = [] := rfl
@[simp] theorem CellLink.sent_returning (u : CellLink) (now : Time) : (u.sent now).returning =
    if u.link.state = .loop then u.returning ++ u.link.sending.toList else u.returning := rfl

/-! ### The field an update writes -/

@[simp] theorem State.modCell_at (c : CellId) (f : CellLink → CellLink) :
    (s.modCell c f).cells.at c = f (s.cells.at c) := by simp [State.modCell]

@[simp] theorem State.modCell_at_other {c d : CellId} (f : CellLink → CellLink) (h : d ≠ c) :
    (s.modCell c f).cells.at d = s.cells.at d := by simp [State.modCell, h]

@[simp] theorem State.modExch_exch (f : ExchLink → ExchLink) : (s.modExch f).exch = f s.exch := rfl

@[simp] theorem State.modUnit_unit (l : LinkId) (f : LinkUnit → LinkUnit) :
    (s.modUnit l f).unit l = f (s.unit l) := by
  cases l <;> simp [State.modUnit, State.unit]

@[simp] theorem State.modUnit_unit_other {l m : LinkId} (f : LinkUnit → LinkUnit) (h : m ≠ l) :
    (s.modUnit l f).unit m = s.unit m := by
  cases l with
  | exchange => cases m <;> simp_all [State.modUnit, State.unit]
  | cell c =>
    cases m with
    | exchange => simp [State.modUnit, State.unit]
    | cell d =>
      have : d ≠ c := fun e => h (by rw [e])
      simp [State.modUnit, State.unit, this]

@[simp] theorem State.callOf_modCall (n : Circuit) (f : CallRecord → CallRecord) :
    (s.modCall n f).callOf n = f (s.callOf n) := by simp [State.modCall, State.callOf]

@[simp] theorem State.callOf_modCall_other {n m : Circuit} (f : CallRecord → CallRecord) (h : m ≠ n) :
    (s.modCall n f).callOf m = s.callOf m := by simp [State.modCall, State.callOf, h]

@[simp] theorem State.bearer_modCall (n : Circuit) (f : CallRecord → CallRecord) (c : CellId) (k : SlotId) :
    (s.modCall n f).bearer c k = s.bearer c k := rfl

@[simp] theorem State.callOf_setBearer (c : CellId) (k : SlotId) (b : Bearer) (n : Circuit) :
    (s.setBearer c k b).callOf n = s.callOf n := rfl

@[simp] theorem State.bearer_setBearer (c : CellId) (k : SlotId) (b : Bearer) :
    (s.setBearer c k b).bearer c k = b := by simp [State.setBearer, State.bearer]

theorem State.bearer_setBearer_other {c d : CellId} {k j : SlotId} (b : Bearer) (h : ¬(d = c ∧ j = k)) :
    (s.setBearer c k b).bearer d j = s.bearer d j := by
  by_cases hd : d = c
  · subst hd
    have hj : j ≠ k := fun e => h ⟨rfl, e⟩
    simp [State.setBearer, State.bearer, hj]
  · simp [State.setBearer, State.bearer, hd]

@[simp] theorem State.setPin_pin : s.setPin.attn.pin = s.attentionSet.any := rfl

end Sys2Proof.Machine
end

