-- ==== Sys2Proof/Laws/Acts.lean ====
section
/-! SUPPORT. What acting on a signalling message can do before its record is changed (R32, R45): the Signalling
Processor, the registry, the cache, the tables and the Management Unit stay as they are. -/

namespace Sys2Proof.Machine

open Sys2Proof

/-- Two states that differ at most in links, calls and captures. -/
structure SameBase (s t : State) : Prop where
  pending : t.pending = s.pending
  timeBase : t.timeBase = s.timeBase
  sig : t.sig = s.sig
  reg : t.reg = s.reg
  cache : t.cache = s.cache
  tables : t.tables = s.tables
  mgmt : t.mgmt = s.mgmt

theorem SameBase.refl (s : State) : SameBase s s := ⟨rfl, rfl, rfl, rfl, rfl, rfl, rfl⟩

theorem SameBase.trans {s t u : State} (h : SameBase s t) (k : SameBase t u) : SameBase s u :=
  ⟨k.1.trans h.1, k.2.trans h.2, k.3.trans h.3, k.4.trans h.4, k.5.trans h.5, k.6.trans h.6, k.7.trans h.7⟩

theorem SameBase.foldl {α : Type} (f : State → α → State) (h : ∀ s x, SameBase s (f s x)) (l : List α) :
    ∀ s, SameBase s (l.foldl f s) := by
  induction l with
  | nil => exact .refl
  | cons x l ih => intro s; exact (h s x).trans (ih _)

variable (s : State)

theorem base_placeSig (c : CellId) (f : Frame) : SameBase s (s.placeSig c f) := by constructor <;> simp
theorem base_placeExch (f : Frame) : SameBase s (s.placeExch f) := by constructor <;> simp
theorem base_stray (l : LinkId) : SameBase s (s.stray l) := by constructor <;> simp
theorem base_capture (k : CaptureKind) (d : CaptureDetail) : SameBase s (s.capture k d) := by constructor <;> simp
theorem base_modCell (c : CellId) (f : CellLink → CellLink) : SameBase s (s.modCell c f) := by constructor <;> simp
theorem base_modCall (n : Circuit) (f : CallRecord → CallRecord) : SameBase s (s.modCall n f) := by constructor <;> simp
theorem base_setBearer (c : CellId) (k : SlotId) (b : Bearer) : SameBase s (s.setBearer c k b) := by
  constructor <;> simp
theorem base_toFree (n : Circuit) : SameBase s (s.toFree n) := by constructor <;> simp
theorem base_leaveClearing (n : Circuit) : SameBase s (s.leaveClearing n) := by constructor <;> simp

theorem base_loseCall (n : Circuit) : SameBase s (s.loseCall n) :=
  ((base_placeExch ..).trans (base_capture ..)).trans (base_toFree ..)

theorem base_enterHolding (n : Circuit) (g : Leg) (b : CallState) (q : Nat) (c : Option Nat) :
    SameBase s (s.enterHolding n g b q c) := by
  have h : SameBase s (s.freeReleasing n) := by constructor <;> simp
  simp only [State.enterHolding]
  split
  · exact ((h.trans (base_modCall ..)).trans (base_capture ..)).trans (base_loseCall ..)
  · exact ((h.trans (base_modCall ..)).trans (base_capture ..)).trans (base_modCall ..)

theorem base_releaseLeg (n : Circuit) (g : Leg) : SameBase s (s.releaseLeg n g) :=
  (base_placeSig ..).trans (base_setBearer ..)

theorem base_releaseLeg? (n : Circuit) (g : Option Leg) : SameBase s (s.releaseLeg? n g) := by
  cases g
  · exact .refl s
  · exact base_releaseLeg ..

theorem base_enterClearing (n : Circuit) : SameBase s (s.enterClearing n) :=
  ((((base_releaseLeg? ..).trans (base_releaseLeg? ..))).trans (base_modCall ..)).trans (base_leaveClearing ..)

theorem base_endCircuit (n : Circuit) : SameBase s (s.endCircuit n) := by
  simp only [State.endCircuit]
  split
  · exact .refl s
  · exact .refl s
  · exact base_toFree ..
  all_goals exact base_enterClearing ..

theorem base_keepLeg (n : Circuit) (g : Leg) : SameBase s (s.keepLeg n g) := by
  constructor <;> simp [State.keepLeg]

/-- R70: the loss of legs. -/
theorem base_loseLegs (n : Circuit) (a b : Bool) : SameBase s (s.loseLegs n a b) := by
  simp only [State.loseLegs]
  split
  · split
    · exact (base_setBearer ..).trans (base_enterHolding ..)
    · exact .refl s
  · split
    · exact ((base_setBearer ..).trans (base_setBearer ..)).trans (base_enterHolding ..)
    · exact ((base_capture ..).trans (base_setBearer ..)).trans (base_keepLeg ..)
    · exact ((base_capture ..).trans (base_setBearer ..)).trans (base_keepLeg ..)
    · exact .refl s
  · exact .refl s

theorem base_freeBearer (c : CellId) (k : SlotId) : SameBase s (s.freeBearer c k) := by
  simp only [State.freeBearer]
  split
  · exact .refl s
  · exact base_loseLegs ..
  · exact base_loseLegs ..
  · exact (base_setBearer ..).trans (base_leaveClearing ..)

/-- R63, R64, R100: the three purposes of a SEIZE. -/
theorem base_deny (z : Seize) (x : DenyReason) : SameBase s (s.deny z x).state := base_placeSig ..

theorem base_seizeForOrigin (z : Seize) (r : Option Record) : SameBase s (s.seizeForOrigin z r).state := by
  simp only [State.seizeForOrigin]
  repeat' split
  all_goals first
    | exact base_deny ..
    | (constructor <;> simp [State.acceptOrigin, State.grantSeize])

theorem base_seizeForAnswer (z : Seize) : SameBase s (s.seizeForAnswer z).state := by
  simp only [State.seizeForAnswer]
  repeat' split
  all_goals first
    | exact base_deny ..
    | (constructor <;> simp [State.acceptAnswer, State.grantSeize])

theorem base_seizeForMoveIn (z : Seize) : SameBase s (s.seizeForMoveIn z).state := by
  simp only [State.seizeForMoveIn, State.reenter, State.testMoveIn]
  repeat' split
  all_goals first
    | exact base_deny ..
    | (constructor <;> simp [State.acceptReentry, State.enterBridge, State.grantSeize])

theorem base_seizeWith (z : Seize) (r : Option Record) (purpose : State → Handled)
    (h : ∀ s, SameBase s (purpose s).state) : SameBase s (s.seizeWith z r purpose).state := by
  simp only [State.seizeWith]
  split
  · exact (base_freeBearer ..).trans (h _)
  · show SameBase s (s.stray (.cell z.cell))
    exact base_stray ..

/-- R85: a page stage. -/
theorem base_summon (n : Circuit) (l : List CellId) : SameBase s (s.summon n l) :=
  SameBase.foldl _ (fun _ _ => base_placeSig ..) l s

theorem base_beginStage (n : Circuit) (g : PageStage) (l : List CellId) (ms : Nat) (o : State) (h : SameBase s o) :
    SameBase s (s.beginStage n g l ms o) := by
  simp only [State.beginStage]
  split
  · exact h
  · exact (base_summon ..).trans (base_modCall ..)

theorem base_stage3 (n : Circuit) : SameBase s (s.stage3 n) :=
  base_beginStage _ _ _ _ _ _ ((base_placeExch ..).trans (base_toFree ..))

theorem base_stage2 (n : Circuit) : SameBase s (s.stage2 n) := base_beginStage _ _ _ _ _ _ (base_stage3 ..)

theorem base_stage1 (n : Circuit) : SameBase s (s.stage1 n) := base_beginStage _ _ _ _ _ _ (base_stage2 ..)

theorem base_offered (n : Circuit) (h : Hid) (r : Option Record) : SameBase s (s.offered n h r) := by
  simp only [State.offered]
  repeat' split
  all_goals first
    | exact base_placeExch ..
    | exact .refl s
    | (refine .trans ?_ ((base_modCall ..).trans (base_stage1 ..)); constructor <;> rfl)

theorem base_reported (c : CellId) (r : CellReport) : SameBase s (s.reported c r) := by
  simp only [State.reported]
  split
  · exact base_modCell ..
  · exact (base_modCell ..).trans (SameBase.foldl _ (fun _ _ => base_loseLegs ..) _ _)

/-- Every message's action. -/
theorem base_actOf (m : Msg) (l : LinkId) (n : Msg) (r : Option Record) : SameBase s (actOf m s l n r).state := by
  unfold actOf
  split <;> simp only [actEnrol, actCamp, actRetire, actSeizeOrigin, actSeizeAnswer, actSeizeMoveIn, actOffer, actVacate,
    actState, actRelayFromCell, actEnd, actRelayFromExchange] <;> (try split)
  all_goals try exact .refl s
  · simp only [State.enrolAt]; repeat' split
    all_goals exact base_placeSig ..
  · simp only [State.campAt]; repeat' split
    all_goals first | exact base_placeSig .. | exact .refl s
  · exact base_seizeWith _ _ _ _ fun _ => base_seizeForOrigin ..
  · exact base_seizeWith _ _ _ _ fun _ => base_seizeForAnswer ..
  · exact base_seizeWith _ _ _ _ fun _ => base_seizeForMoveIn ..
  · exact base_offered ..
  · simp only [State.vacated]; split
    · exact base_stray ..
    · exact base_freeBearer ..
  · exact base_reported ..
  · simp only [State.relayUp]; split
    all_goals first | exact base_placeExch .. | exact base_stray ..
  · exact base_endCircuit ..
  · simp only [State.relayDown]; split
    all_goals first | exact base_placeSig .. | exact base_stray ..

end Sys2Proof.Machine
end

