-- ==== Sys2Proof/Laws/Attention.lean ====
section
/-! SUPPORT. What the judgement of the attention set can do (R181, R183), and what placing a frame can do (R144). -/

namespace Sys2Proof.Machine

open Sys2Proof

variable (s before : State)

/-- The pending causes depend on the captures, the link flags, the change marks and the unread mark alone. -/
theorem causesPending_congr {s t : State} (hc : t.attn.captures = s.attn.captures)
    (hx : t.exch.link.flags = s.exch.link.flags) (hl : t.cells = s.cells) (hu : t.mgmt.unread = s.mgmt.unread) :
    t.causesPending = s.causesPending := by
  simp [State.causesPending, hc, hx, hl, hu]

@[simp] theorem attentionSet_setPin : s.setPin.attentionSet = s.attentionSet := rfl

/-- After the judgement the pin shows the attention set. -/
theorem judgeAttention_pin : (s.judgeAttention before).attn.pin = (s.judgeAttention before).attentionSet.any := by
  simp [State.judgeAttention]

/-- The judgement changes nothing of the unit but the pin. -/
theorem judgeAttention_attn : (s.judgeAttention before).attn = { s.attn with pin := (s.judgeAttention before).attn.pin } := by
  simp only [State.judgeAttention]
  split <;> rfl

/-- The judgement places one ATTENTION frame when the set has become non-empty, and otherwise no frame. -/
theorem judgeAttention_exch : (s.judgeAttention before).exch =
    if s.attentionSet.any = true ∧ before.attentionSet.any = false then (s.placeExch attentionFrame).exch else s.exch := by
  simp only [State.judgeAttention]
  by_cases h1 : s.attentionSet.any = true <;> by_cases h2 : before.attentionSet.any = true <;>
    simp [h1, h2, State.setPin]

/-- A frame placed on the exchange link joins the tail of its queue, is dropped with TX_OVERFLOW, or is dropped. -/
theorem placeExch_exch (f : Frame) : (s.placeExch f).exch =
    if s.exch.link.state.queues = true then
      if s.exch.txQueue.length < Config.exchQueueSize then { s.exch with txQueue := s.exch.txQueue ++ [f] }
      else { s.exch with link := s.exch.link.setTxOverflow }
    else s.exch := by
  simp [State.placeExch]

/-- A frame placed on a cell's signalling queue joins its tail, is dropped with TX_OVERFLOW, or is dropped. -/
theorem placeSig_at (c : CellId) (f : Frame) : (s.placeSig c f).cells.at c =
    if (s.cells.at c).link.state.queues = true then
      if (s.cells.at c).sigQueue.length < Config.sigQueueSize then
        { s.cells.at c with sigQueue := (s.cells.at c).sigQueue ++ [f] }
      else { s.cells.at c with link := (s.cells.at c).link.setTxOverflow }
    else s.cells.at c := by
  simp [State.placeSig]

@[simp] theorem placeSig_at_other {c d : CellId} (f : Frame) (h : d ≠ c) : (s.placeSig c f).cells.at d = s.cells.at d := by
  simp [State.placeSig, h]

/-- A voice copy placed for a cell joins the tail of its voice queue, is dropped with TX_OVERFLOW, or is dropped. -/
theorem placeVoice_at (c : CellId) (f : Frame) : (s.placeVoice c f).cells.at c =
    if (s.cells.at c).link.state.queues = true then
      if (s.cells.at c).voiceQueue.length < Config.voiceQueueSize then
        { s.cells.at c with voiceQueue := (s.cells.at c).voiceQueue ++ [f] }
      else { s.cells.at c with link := (s.cells.at c).link.setTxOverflow }
    else s.cells.at c := by
  simp [State.placeVoice]

@[simp] theorem placeVoice_at_other {c d : CellId} (f : Frame) (h : d ≠ c) :
    (s.placeVoice c f).cells.at d = s.cells.at d := by
  simp [State.placeVoice, h]

/-- An event that takes place ends with the judgement; one that does not changes nothing. -/
@[simp] theorem judged_some (t : State) : s.judged (some t) = t.judgeAttention s := rfl
@[simp] theorem judged_none : s.judged none = s := rfl
@[simp] theorem settled_some (t : State) : s.settled (some t) = t.settle s := rfl
@[simp] theorem settled_none : s.settled none = s := rfl

/-- Placing a frame where the exchange link is UP with room, or DOWN, changes no cause. -/
theorem attentionSet_placeExch {f : Frame}
    (h : (s.exchUp = true ∧ s.exch.txQueue.length < Config.exchQueueSize) ∨ s.exch.link.state = .down) :
    (s.placeExch f).attentionSet = s.attentionSet := by
  have hx : (s.placeExch f).exch.link.flags = s.exch.link.flags := by
    rw [placeExch_exch]
    rcases h with ⟨hu, hr⟩ | hd
    · have : s.exch.link.state = .up := by simpa [State.exchUp] using hu
      simp [this, LinkState.queues, hr]
    · simp [hd, LinkState.queues]
  simp [State.attentionSet, causesPending_congr (s := s) (t := s.placeExch f) (by simp) hx (by simp) (by simp)]

/-- Everything the judgement of the attention set can do at the end of an event. -/
theorem ends_judgeAttention (s u : State) : Ends s u (u.judgeAttention s) where
  pending := by simp
  timeBase := by simp
  cells := by simp
  sig := by simp
  reg := by simp
  cache := by simp
  call := by simp
  tables := by simp
  mgmt := by simp
  attn := by rw [judgeAttention_attn, judgeAttention_pin]
  placed := by
    intro hu hr
    have hset : (u.judgeAttention s).attentionSet = u.attentionSet := by
      simp only [State.judgeAttention, attentionSet_setPin]
      split
      · exact attentionSet_placeExch u (.inl ⟨hu, hr⟩)
      · rfl
    have hup : u.exch.link.state = .up := by simpa [State.exchUp] using hu
    rw [hset, judgeAttention_exch]
    by_cases h1 : u.attentionSet.any = true <;> by_cases h2 : s.attentionSet.any = true <;>
      simp [owed, h1, h2, placeExch_exch, hup, LinkState.queues, hr]
  dropped := by
    intro hd
    rw [judgeAttention_exch]
    split
    · simp [placeExch_exch, hd, LinkState.queues]
    · rfl

end Sys2Proof.Machine
end

