-- ==== Sys2Proof/Laws/Calls.lean ====
section
/-! SUPPORT. Reading a call record and a bearer after each update of the Call Table (R54, R58), and what letting a leg go
and keeping one can do (R66, R106, R108). -/

namespace Sys2Proof.Machine

open Sys2Proof

variable (s : State)

@[simp] theorem callOf_modUnit (l : LinkId) (f : LinkUnit → LinkUnit) (n : Circuit) :
    (s.modUnit l f).callOf n = s.callOf n := by simp [State.callOf]
@[simp] theorem bearer_modUnit (l : LinkId) (f : LinkUnit → LinkUnit) (c : CellId) (k : SlotId) :
    (s.modUnit l f).bearer c k = s.bearer c k := by simp [State.bearer]
@[simp] theorem callOf_placeSig (c : CellId) (f : Frame) (n : Circuit) : (s.placeSig c f).callOf n = s.callOf n := by
  simp [State.callOf]
@[simp] theorem bearer_placeSig (c d : CellId) (f : Frame) (k : SlotId) :
    (s.placeSig c f).bearer d k = s.bearer d k := by simp [State.bearer]
@[simp] theorem callOf_placeExch (f : Frame) (n : Circuit) : (s.placeExch f).callOf n = s.callOf n := by
  simp [State.callOf]
@[simp] theorem bearer_placeExch (f : Frame) (c : CellId) (k : SlotId) :
    (s.placeExch f).bearer c k = s.bearer c k := by simp [State.bearer]
@[simp] theorem callOf_capture (kind : CaptureKind) (d : CaptureDetail) (n : Circuit) :
    (s.capture kind d).callOf n = s.callOf n := by simp [State.callOf]
@[simp] theorem bearer_capture (kind : CaptureKind) (d : CaptureDetail) (c : CellId) (k : SlotId) :
    (s.capture kind d).bearer c k = s.bearer c k := by simp [State.bearer]

/-- A call record changed is read changed, and every other is as it was. -/
@[simp] theorem callOf_modCall_same (n : Circuit) (f : CallRecord → CallRecord) :
    (s.modCall n f).callOf n = f (s.callOf n) := by simp [State.callOf, State.modCall]
@[simp] theorem callOf_modCall_other {n m : Circuit} (f : CallRecord → CallRecord) (h : m ≠ n) :
    (s.modCall n f).callOf m = s.callOf m := by simp [State.callOf, State.modCall, h]
@[simp] theorem bearer_modCall (n : Circuit) (f : CallRecord → CallRecord) (c : CellId) (k : SlotId) :
    (s.modCall n f).bearer c k = s.bearer c k := by simp [State.bearer, State.modCall]
theorem modCall_modCall (n : Circuit) (f g : CallRecord → CallRecord) :
    (s.modCall n f).modCall n g = s.modCall n (fun r => g (f r)) := by
  simp only [State.modCall, State.callOf]
  simp [Table.put, Table.at]

/-- A bearer entry replaced is read replaced, and every other is as it was. -/
theorem bearer_setBearer (c d : CellId) (k j : SlotId) (b : Bearer) :
    (s.setBearer c k b).bearer d j = if d = c ∧ j = k then b else s.bearer d j := by
  simp only [State.bearer, State.setBearer, Table.at_put]
  by_cases h : d = c <;> by_cases h2 : j = k <;> simp [h, h2]
@[simp] theorem callOf_setBearer (c : CellId) (k : SlotId) (b : Bearer) (n : Circuit) :
    (s.setBearer c k b).callOf n = s.callOf n := by simp [State.callOf, State.setBearer]

/-- A leg let go: its bearer is RELEASING, and no call record changes. -/
theorem bearer_releaseLeg (n : Circuit) (g : Leg) (c : CellId) (k : SlotId) :
    (s.releaseLeg n g).bearer c k = if c = g.cell ∧ k = g.slot then .releasing n else s.bearer c k := by
  simp [State.releaseLeg, bearer_setBearer]
@[simp] theorem callOf_releaseLeg (n m : Circuit) (g : Leg) : (s.releaseLeg n g).callOf m = s.callOf m := by
  simp [State.releaseLeg]

/-- A leg kept at the end of a bridge: its bearer is SERVING, its call is ACTIVE on it with the window's base as its
expected sequence and the default profile of its cell, and no other call record changes. -/
theorem bearer_keepLeg (n : Circuit) (g : Leg) (c : CellId) (k : SlotId) :
    (s.keepLeg n g).bearer c k = if c = g.cell ∧ k = g.slot then .serving n else s.bearer c k := by
  simp [State.keepLeg, bearer_setBearer]
theorem callOf_keepLeg_same (n : Circuit) (g : Leg) :
    (s.keepLeg n g).callOf n = (s.callOf n).closedOn g ((s.callOf n).window.bind Window.base)
      (s.tables.activeProfile g.cell (s.callOf n).classOr) := by
  simp only [State.keepLeg, callOf_modCall_same, callOf_setBearer, CallRecord.closedOn, State.defaultProfile,
    Tables.activeProfile]
  cases (s.callOf n).classOr <;> rfl
@[simp] theorem callOf_keepLeg_other {n m : Circuit} (g : Leg) (h : m ≠ n) : (s.keepLeg n g).callOf m = s.callOf m := by
  simp [State.keepLeg, h]

end Sys2Proof.Machine
end

