-- ==== Sys2Proof/Laws/Port.lean ====
section
/-! SUPPORT. What the memory port can do at the end of an event: the grants change only the registry's queue of writes,
port, counts and sweep, and the unread mark. -/

namespace Sys2Proof.Machine

open Sys2Proof

/-- Two states that differ at most in what the memory port's grants may change. -/
structure SamePort (s t : State) : Prop where
  pending : t.pending = s.pending
  timeBase : t.timeBase = s.timeBase
  cells : t.cells = s.cells
  exch : t.exch = s.exch
  sig : t.sig = s.sig
  cache : t.cache = s.cache
  call : t.call = s.call
  tables : t.tables = s.tables
  attn : t.attn = s.attn
  mem : t.reg.mem = s.reg.mem
  format : t.reg.format = s.reg.format
  formatPos : t.reg.formatPos = s.reg.formatPos
  contexts : t.reg.contexts = s.reg.contexts
  startOrder : t.reg.startOrder = s.reg.startOrder
  queue : t.mgmt.queue = s.mgmt.queue
  op : t.mgmt.op = s.mgmt.op
  watch : t.mgmt.watch = s.mgmt.watch
  sweepList : t.mgmt.sweepList = s.mgmt.sweepList

theorem SamePort.refl (s : State) : SamePort s s := by constructor <;> rfl

theorem SamePort.trans {s t u : State} (h : SamePort s t) (k : SamePort t u) : SamePort s u := by
  constructor
  · rw [k.pending, h.pending]
  · rw [k.timeBase, h.timeBase]
  · rw [k.cells, h.cells]
  · rw [k.exch, h.exch]
  · rw [k.sig, h.sig]
  · rw [k.cache, h.cache]
  · rw [k.call, h.call]
  · rw [k.tables, h.tables]
  · rw [k.attn, h.attn]
  · rw [k.mem, h.mem]
  · rw [k.format, h.format]
  · rw [k.formatPos, h.formatPos]
  · rw [k.contexts, h.contexts]
  · rw [k.startOrder, h.startOrder]
  · rw [k.queue, h.queue]
  · rw [k.op, h.op]
  · rw [k.watch, h.watch]
  · rw [k.sweepList, h.sweepList]

theorem samePort_setPort (s : State) (op : Option PortOp) : SamePort s (s.setPort op) := by constructor <;> rfl

theorem samePort_grantW (s : State) : SamePort s s.grantW := by
  simp only [State.grantW]
  split
  · constructor <;> rfl
  · exact .refl s

theorem samePort_grantS (s : State) : SamePort s s.grantS := by
  simp only [State.grantS]
  split
  · split
    · exact samePort_setPort s _
    · exact .refl s
  · exact .refl s

theorem samePort_grantM (s : State) : SamePort s s.grantM := by
  simp only [State.grantM]
  split
  · exact .refl s
  · split
    · exact samePort_setPort s _
    · exact samePort_setPort s _
    · constructor <;> rfl

theorem samePort_sweepOn (s : State) (m : SweepMode) (b l : BucketId) : SamePort s (s.sweepOn m b l) := by
  simp only [State.sweepOn]
  split
  · constructor <;> rfl
  · split <;> (constructor <;> rfl)

theorem samePort_sweepWritten (s : State) (m : SweepMode) (b l : BucketId) (i : Table Record 4)
    (todo : List SweepWrite) : SamePort s (s.sweepWritten m b l i todo) := by
  simp only [State.sweepWritten]
  split
  · exact samePort_sweepOn s m b l
  · constructor <;> rfl

theorem samePort_grantB (s : State) : SamePort s s.grantB := by
  simp only [State.grantB]
  split
  · exact samePort_setPort s _
  · split
    · exact samePort_setPort s _
    · split
      · exact samePort_setPort s _
      · exact samePort_sweepWritten ..
    · exact .refl s

/-- A grant to any requester. -/
theorem samePort_grant (s : State) (r : Requester) : SamePort s (s.grant r) := by
  cases r
  · exact samePort_grantW s
  · exact samePort_grantS s
  · exact samePort_grantM s
  · exact samePort_grantB s

theorem samePort_grants (before : List ContextId) : ∀ (n : Nat) (s : State), SamePort s (State.grants before n s) := by
  intro n
  induction n with
  | zero => intro s; exact .refl s
  | succ n ih =>
    intro s
    simp only [State.grants]
    split
    · exact .refl s
    · split
      · exact .refl s
      · next r _ =>
        refine .trans ?_ (ih _)
        have h : SamePort s (s.countGrant r) := by constructor <;> rfl
        refine (h.trans (samePort_grant _ r)).trans ?_
        constructor <;> rfl

/-- The memory port at the end of an event. -/
theorem samePort_settlePort (s before : State) : SamePort s (s.settlePort before) := by
  simp only [State.settlePort]
  have h1 : SamePort s { s with reg := s.reg.refresh before.reg.readyOrder } := by constructor <;> rfl
  have h2 := h1.trans (samePort_grants before.reg.readyOrder 8 _)
  refine h2.trans ?_
  constructor <;> rfl

/-- While the port is busy no grant is made. -/
theorem grants_busy (before : List ContextId) (n : Nat) (s : State) (h : s.reg.port.isSome = true) :
    State.grants before n s = s := by
  cases n with
  | zero => rfl
  | succ n => simp [State.grants, h]

/-- While the port is busy nothing leaves the write-through queue at the end of an event, and no sweep moves on. -/
theorem settlePort_busy (s before : State) (h : s.reg.port.isSome = true) :
    (s.settlePort before).reg.port = s.reg.port ∧ (s.settlePort before).reg.writes = s.reg.writes ∧
      (s.settlePort before).reg.sweep = s.reg.sweep ∧ (s.settlePort before).mgmt.unread = s.mgmt.unread := by
  have hg := grants_busy before.reg.readyOrder 8 { s with reg := s.reg.refresh before.reg.readyOrder } h
  simp only [State.settlePort, hg]
  exact ⟨rfl, rfl, rfl, rfl⟩

/-- Everything the port's grants can do to the write-through queue: leave it, put its oldest write on the port (R14), or take
away the write of the slot that M writes (R9). -/
def LeavesWrites (s t : State) : Prop :=
  t.reg.writes = s.reg.writes ∨
    (∃ w, s.reg.writes = w :: t.reg.writes ∧ t.reg.port = some (.writeThrough w.addr w.image)) ∨
    ∃ job a image insert damaged, s.mgmt.op = some ⟨job, .write a image insert, damaged⟩ ∧
      t.reg.port = some (s.composeWrite job a image insert) ∧ t.reg.writes = s.reg.writes.filter (·.addr ≠ a)

/-- A management write is composed from the write-through queue and the cache alone. -/
theorem composeWrite_congr {s t : State} (hw : t.reg.writes = s.reg.writes) (hc : t.cache = s.cache) (job : MgmtJob)
    (a : RecAddr) (image : Record) (insert : Bool) :
    t.composeWrite job a image insert = s.composeWrite job a image insert := by
  have he : t.entryAt a = s.entryAt a := by simp [State.entryAt, hc]
  cases job <;> simp [State.composeWrite, State.baseImage, hw, he]

/-- What leaves the queue after a step that touched neither it, nor the cache, nor M's request. -/
theorem LeavesWrites.after {s t u : State} (hw : t.reg.writes = s.reg.writes) (hc : t.cache = s.cache)
    (ho : t.mgmt.op = s.mgmt.op) (h : LeavesWrites t u) : LeavesWrites s u := by
  rcases h with h | ⟨w, h, hp⟩ | ⟨job, a, image, insert, damaged, h, hp, hr⟩
  · exact .inl (h.trans hw)
  · exact .inr (.inl ⟨w, hw ▸ h, hp⟩)
  · exact .inr (.inr ⟨job, a, image, insert, damaged, ho ▸ h, by rw [hp, composeWrite_congr hw hc], by rw [hr, hw]⟩)

/-- A grant to B leaves the write-through queue. -/
theorem grantB_writes (s : State) : s.grantB.reg.writes = s.reg.writes := by
  simp only [State.grantB, State.setPort, State.sweepWritten, State.sweepOn, State.sweepEnd]
  repeat' split
  all_goals rfl

/-- One grant, with the contexts' order as it may be set after it. -/
theorem leavesWrites_grant (s : State) (r : Requester) (before : List ContextId) :
    let t := (s.countGrant r).grant r
    LeavesWrites s { t with reg := t.reg.refresh before } ∧
      (t.reg.port.isSome = true ∨ t.reg.writes = s.reg.writes) := by
  cases r with
  | w =>
    cases hw : s.reg.writes with
    | nil => simp [State.grant, State.grantW, State.countGrant, LeavesWrites, Registry.refresh, hw]
    | cons w rest => simp [State.grant, State.grantW, State.countGrant, LeavesWrites, Registry.refresh, hw]
  | s =>
    simp only [State.grant, State.grantS, State.setPort, State.countGrant]
    split
    · split <;> exact ⟨.inl rfl, .inr rfl⟩
    · exact ⟨.inl rfl, .inr rfl⟩
  | m =>
    simp only [State.grant, State.grantM, State.setPort]
    split
    · exact ⟨.inl rfl, .inr rfl⟩
    · next op hop =>
      split
      · exact ⟨.inl rfl, .inr rfl⟩
      · exact ⟨.inl rfl, .inr rfl⟩
      · next a image insert hst =>
        refine ⟨.inr (.inr ⟨op.job, a, image, insert, op.damaged, ?_, ?_, rfl⟩), .inl rfl⟩
        · show (s.countGrant .m).mgmt.op = _
          rw [hop, ← hst]
        · exact congrArg some (composeWrite_congr (s := s) (t := s.countGrant .m) rfl rfl ..)
  | b => exact ⟨.inl (grantB_writes (s.countGrant .b)), .inr (grantB_writes (s.countGrant .b))⟩

/-- The grants at the end of an event. -/
theorem leavesWrites_grants (before : List ContextId) : ∀ (n : Nat) (s : State),
    LeavesWrites s (State.grants before n s) := by
  intro n
  induction n with
  | zero => intro s; exact .inl rfl
  | succ n ih =>
    intro s
    simp only [State.grants]
    split
    · exact .inl rfl
    · split
      · exact .inl rfl
      · next r _ =>
        obtain ⟨h, hp | hw⟩ := leavesWrites_grant s r before
        · rw [grants_busy before n { (s.countGrant r).grant r with reg := ((s.countGrant r).grant r).reg.refresh before } hp]
          exact h
        · have p := (show SamePort s (s.countGrant r) by constructor <;> rfl).trans (samePort_grant _ r)
          exact (ih _).after (s := s) hw p.cache p.op

/-- The memory port at the end of an event. -/
theorem leavesWrites_settlePort (s before : State) : LeavesWrites s (s.settlePort before) :=
  (leavesWrites_grants before.reg.readyOrder 8 { s with reg := s.reg.refresh before.reg.readyOrder }).after
    (s := s) rfl rfl rfl

/-- R19: the sweep has no write to make. -/
def State.SweepKeeps (s : State) : Prop :=
  ∀ mode b last image todo, s.reg.sweep ≠ .running mode b last (.writing image todo)

/-- One grant moves no sweep that has no write to make. -/
theorem grant_sweep {s : State} (h : s.SweepKeeps) (r : Requester) :
    (s.grant r).reg.sweep = s.reg.sweep ∧ (s.grant r).mgmt.unread = s.mgmt.unread := by
  cases r with
  | w => simp only [State.grant, State.grantW]; split <;> exact ⟨rfl, rfl⟩
  | s => simp only [State.grant, State.grantS, State.setPort]; repeat' split
         all_goals exact ⟨rfl, rfl⟩
  | m => simp only [State.grant, State.grantM, State.setPort]; repeat' split
         all_goals exact ⟨rfl, rfl⟩
  | b =>
    simp only [State.grant, State.grantB, State.setPort]
    split
    · exact ⟨rfl, rfl⟩
    · split
      · exact ⟨rfl, rfl⟩
      · next hs => exact absurd hs (h _ _ _ _ _)
      · exact ⟨rfl, rfl⟩

/-- The grants at the end of an event move no sweep that has no write to make. -/
theorem grants_sweep (before : List ContextId) : ∀ (n : Nat) {s : State}, s.SweepKeeps →
    (State.grants before n s).reg.sweep = s.reg.sweep ∧ (State.grants before n s).mgmt.unread = s.mgmt.unread := by
  intro n
  induction n with
  | zero => intro s _; exact ⟨rfl, rfl⟩
  | succ n ih =>
    intro s h
    simp only [State.grants]
    split
    · exact ⟨rfl, rfl⟩
    · split
      · exact ⟨rfl, rfl⟩
      · next r _ =>
        have g := grant_sweep (s := s.countGrant r) h r
        have k := ih (s := { (s.countGrant r).grant r with reg := ((s.countGrant r).grant r).reg.refresh before })
          fun mode b last image todo => by
            show ((s.countGrant r).grant r).reg.sweep ≠ _
            rw [g.1]
            exact h mode b last image todo
        exact ⟨k.1.trans g.1, k.2.trans g.2⟩

/-- The memory port at the end of an event moves no sweep that has no write to make. -/
theorem settlePort_sweep {s : State} (h : s.SweepKeeps) (before : State) :
    (s.settlePort before).reg.sweep = s.reg.sweep ∧ (s.settlePort before).mgmt.unread = s.mgmt.unread :=
  grants_sweep before.reg.readyOrder 8 (s := { s with reg := s.reg.refresh before.reg.readyOrder }) h

end Sys2Proof.Machine
end

