-- ==== Sys2Proof/Laws/Settle.lean ====
section
/-! SUPPORT. What the end of an event that may touch the memory port can do (R12, R13, R15, R183). -/

namespace Sys2Proof.Machine

open Sys2Proof

/-- R15: a held message is releasable by the write-through queue and the cache alone. -/
theorem releasable_congr {s t : State} (hw : t.reg.writes = s.reg.writes) (hc : t.cache = s.cache) (m : Held) :
    t.releasable m = s.releasable m := by
  have he : t.entryOf = s.entryOf := by funext h; simp [State.entryOf, hc]
  simp [State.releasable, hw, he]

/-- R15: a message that is held and waits is not released. -/
theorem tryRelease_none {s : State} (h : s.HeldWaits) : s.tryRelease = none := by
  simp only [State.tryRelease]
  split
  · next m hm => simp [h m hm]
  · rfl

/-- R15: a held message with room for its write is released. -/
theorem tryRelease_some {s : State} {m : Held} (hm : s.sig.held = some m) (hr : s.releasable m = true) :
    s.tryRelease = some (s.release (actOf m.msg) m) := by
  simp [State.tryRelease, hm, hr]

/-- R15: no message is held, so none waits. -/
theorem heldWaits_of_none {s : State} (h : s.sig.held = none) : s.HeldWaits := by
  intro m hm
  rw [h] at hm
  cases hm

/-- R26: giving out contexts leaves the held message. -/
theorem assign_held (n : Nat) : ∀ s : State, (State.assign n s).sig.held = s.sig.held := by
  induction n with
  | zero => intro s; rfl
  | succ n ih =>
    intro s
    simp only [State.assign]
    split
    · rw [ih]
      split <;> rfl
    · rfl

/-- R15: a message acted on at its release is not held again. -/
theorem release_held {s : State} {m : Held} (hr : s.releasable m = true) :
    (s.release (actOf m.msg) m).sig.held = none := by
  have base (f : Option Record) (t : State) (ht : t.sig.held = none) :
      (actOf m.msg t m.link m.msg f).state.sig.held = none := by
    rw [(base_actOf t m.msg m.link m.msg f).sig, ht]
  simp only [State.release, State.actWithout]
  split
  · exact base _ _ rfl
  · next h hm =>
    split
    · next e he =>
      have he : s.entryOf h = some e := he
      have fits : writeFits s.reg.writes e.addr = true := by
        simpa [State.releasable, hm, he, writeFits] using hr
      simp only [State.actWith]
      split
      · exact base _ _ rfl
      · split
        · exact base _ _ rfl
        · rw [State.changeEntry_sig]
          exact base _ _ rfl
    · next he =>
      simp only [State.lookup, State.actWithout]
      split
      · rfl
      · split
        · exact base _ _ rfl
        · simp only [he, State.newGroup, State.assignContexts]
          rw [assign_held]
          rfl

/-- R15: at the end of an event that may touch the memory port a message still held waits. -/
theorem settle_heldWaits (u s : State) : (u.settle s).HeldWaits := by
  simp only [State.settle]
  generalize (u.tryRelease.getD u).settlePort s = v
  have judged (w : State) (h : w.HeldWaits) : (w.judgeAttention s).HeldWaits := by
    intro m hm
    rw [State.judgeAttention_sig] at hm
    rw [releasable_congr (s := w) (by simp) (by simp)]
    exact h m hm
  cases hv : v.tryRelease with
  | none =>
    refine judged v fun m hm => ?_
    simp only [State.tryRelease, hm] at hv
    cases hr : v.releasable m with
    | false => rfl
    | true => simp [hr] at hv
  | some t =>
    refine judged _ (heldWaits_of_none ?_)
    rw [(samePort_settlePort t s).sig]
    simp only [State.tryRelease] at hv
    split at hv
    · next m hm =>
      split at hv
      · next hr =>
        cases hv
        exact release_held hr
      · cases hv
    · cases hv

/-- R15: a message that waits while the port is busy waits after the grants. -/
theorem heldWaits_settlePort {s before : State} (h : s.KeepsHeld) : (s.settlePort before).HeldWaits := by
  have p := samePort_settlePort s before
  rcases h with h | ⟨hb, hw⟩
  · exact heldWaits_of_none (by rw [p.sig, h])
  · intro m hm
    rw [p.sig] at hm
    rw [releasable_congr (settlePort_busy s before hb).2.1 p.cache]
    exact hw m hm

/-- A state whose held message, if it has one, waits at a busy port. -/
theorem heldWaits_of_keeps {s : State} (h : s.KeepsHeld) : s.HeldWaits := by
  rcases h with h | ⟨_, hw⟩
  · exact heldWaits_of_none h
  · exact hw

/-- An event that releases no held message ends with the port's grants and the judgement of the attention set. -/
theorem settle_eq {u s : State} (h : u.KeepsHeld) : u.settle s = (u.settlePort s).judgeAttention s := by
  simp [State.settle, tryRelease_none (heldWaits_of_keeps h), tryRelease_none (heldWaits_settlePort h)]

/-- Everything the end of an event that may touch the memory port can do when it releases no held message. -/
theorem settles_settle (s : State) {u : State} (hk : u.KeepsHeld) : Settles s u (u.settle s) := by
  rw [settle_eq hk]
  have h := samePort_settlePort u s
  have e := ends_judgeAttention s (u.settlePort s)
  have hexch : (u.settlePort s).exch = u.exch := h.exch
  constructor
  · rw [e.pending, h.pending]
  · rw [e.timeBase, h.timeBase]
  · rw [e.cells, h.cells]
  · rw [e.sig, h.sig]
  · rw [e.cache, h.cache]
  · rw [e.call, h.call]
  · rw [e.tables, h.tables]
  · rw [e.reg, h.mem]
  · rw [e.reg, h.format]
  · rw [e.reg, h.formatPos]
  · rw [e.reg, h.contexts]
  · rw [e.mgmt, h.queue]
  · rw [e.mgmt, h.op]
  · rw [e.mgmt, h.watch]
  · rw [e.mgmt, h.sweepList]
  · intro hb
    rw [e.reg, e.mgmt]
    exact settlePort_busy u s hb
  · intro _
    rw [e.reg]
    exact leavesWrites_settlePort u s
  · intro h
    rw [e.reg, e.mgmt]
    exact settlePort_sweep h s
  · rw [e.attn, h.attn]
  · intro hu hr
    have := e.placed (by rw [State.exchUp, hexch]; exact hu) (by rw [hexch]; exact hr)
    rw [this, hexch]
  · intro hd
    have := e.dropped (by rw [hexch]; exact hd)
    rw [this, hexch]

end Sys2Proof.Machine
end

