-- ==== Sys2Proof/Laws/Intake.lean ====
section
/-! SUPPORT. What an event gives when it takes place, what an arrival does to its link, and one turn of the Signalling
Processor on a message whose lookup ends at once (R25, R40). -/

namespace Sys2Proof.Machine

open Sys2Proof

/-- A command whose event takes place ends with the judgement of the attention set. -/
theorem ends_of {s u : State} {o : Option State} (h : o = some u) :
    ∃ t, (Host.Outcome.next (s.judged o) : Host.Outcome State Fault Refusal) = .next t ∧ Ends s u t := by
  subst h
  exact ⟨_, rfl, ends_judgeAttention s u⟩

/-- A command that may touch the memory port, and releases no held message, ends with the port and then the attention
set. -/
theorem settles_of {s u : State} {o : Option State} (h : o = some u) (hk : u.KeepsHeld) :
    ∃ t, (Host.Outcome.next (s.settled o) : Host.Outcome State Fault Refusal) = .next t ∧ Settles s u t := by
  subst h
  exact ⟨_, rfl, settles_settle s hk⟩

@[simp] theorem modUnit_modUnit (s : State) (l : LinkId) (f g : LinkUnit → LinkUnit) :
    (s.modUnit l f).modUnit l g = s.modUnit l fun u => g (f u) := by
  cases l <;> simp [State.modUnit, State.modCell, State.modExch]
  simp [Table.put, Table.at]

/-- R138, R139, R147: what a valid frame other than fill does to its link. -/
theorem received_eq (s : State) (l : LinkId) : s.received l = s.modUnit l fun u => u.afterArrival s.timeBase := by
  simp [State.received, State.heard, State.after, Config.linkSilence, LinkUnit.countReceived, LinkUnit.afterArrival,
    countUp, Config.counterMax]

/-- A run that is judged a valid frame of the kind asked for arrives on a link that is DOWN or UP. -/
theorem arrival_eq {s : State} {l : LinkId} {run : List Byte} {f : Frame} {test : Byte → Bool}
    (hl : (s.unit l).state = .down ∨ (s.unit l).state = .up) (hj : judge run = .valid f) (ht : test f.kind = true) :
    s.arrival l run test = some f := by
  have : (s.unit l).state.listens = true := by rcases hl with h | h <;> simp [h, LinkState.listens]
  simp [State.arrival, this, hj, ht]

@[simp] theorem takeFrame_reg (s : State) (l : LinkId) : (s.takeFrame l).reg = s.reg := by simp [State.takeFrame]
@[simp] theorem takeFrame_call (s : State) (l : LinkId) : (s.takeFrame l).call = s.call := by simp [State.takeFrame]
@[simp] theorem takeFrame_cache (s : State) (l : LinkId) : (s.takeFrame l).cache = s.cache := by simp [State.takeFrame]
@[simp] theorem takeFrame_entryOf (s : State) (l : LinkId) (h : Hid) : (s.takeFrame l).entryOf h = s.entryOf h := by
  simp [State.entryOf]
@[simp] theorem takeFrame_groupOf (s : State) (l : LinkId) (h : Hid) :
    (s.takeFrame l).sig.groupOf h = s.sig.groupOf h := by
  simp [State.takeFrame, SigProc.groupOf]

/-- R40: the message taken next is dispatched. -/
theorem turn_frame {s : State} {l : LinkId} {f : Frame} {m : Msg} (ht : TakesNext s l f m) (mine : Msg → Bool) (act : Act)
    (hm : mine m = true) : s.turn mine act = some ((s.takeFrame l).dispatch act l m) := by
  have hp : s.sig.parkingFull = false := by
    have := ht.room
    simp only [SigProc.parkingFull, decide_eq_false_iff_not]
    omega
  have : s.work = some (.frame l f) := by simp [State.work, ht.held, ht.ready, hp, ht.first]
  simp [State.turn, this, ht.parsed, hm]

/-- R25: a message whose lookup is NOT FOUND at once is acted on. -/
theorem turn_notFound {s : State} {l : LinkId} {f : Frame} {m : Msg} {h : Hid} (ht : TakesNext s l f m)
    (hh : m.hid = some h) (hf : s.Finds h none) (mine : Msg → Bool) (act : Act) (hm : mine m = true) :
    s.turn mine act = some (act (s.takenFor l h none) l m none).state := by
  rw [turn_frame ht mine act hm]
  simp only [State.Finds] at hf
  simp [State.dispatch, hh, State.lookup, ht.alone h hh, hf, State.actWithout, State.takenFor]

/-- R25: a message whose lookup hits is acted on with its entry. -/
theorem turn_hit {s : State} {l : LinkId} {f : Frame} {m : Msg} {h : Hid} {e : CacheEntry} (ht : TakesNext s l f m)
    (hh : m.hid = some h) (hf : s.Finds h (some e)) (mine : Msg → Bool) (act : Act) (hm : mine m = true) :
    s.turn mine act = some ((s.takenFor l h (some e)).actWith act l m e) := by
  rw [turn_frame ht mine act hm]
  simp only [State.Finds] at hf
  simp [State.dispatch, hh, State.lookup, ht.alone h hh, hf, State.takenFor]

/-- R45: a message that names no handset is acted on when taken. -/
theorem turn_direct {s : State} {l : LinkId} {f : Frame} {m : Msg} (ht : TakesNext s l f m) (hh : m.hid = none)
    (mine : Msg → Bool) (act : Act) (hm : mine m = true) :
    s.turn mine act = some (act (s.takeFrame l) l m none).state := by
  rw [turn_frame ht mine act hm]
  simp [State.dispatch, hh, State.actWithout]

/-- R23: the entry found for a HID names it. -/
theorem entryOf_hid {s : State} {h : Hid} {e : CacheEntry} (he : s.entryOf h = some e) : e.record.hid = h := by
  simp only [State.entryOf, CacheSet.hit, CacheSet.holds] at he
  split at he
  · next w hw => revert hw; cases w <;> simp_all [CacheSet.get] <;> grind
  · simp at he

end Sys2Proof.Machine
end

