-- ==== Sys2Proof/Laws/Cache.lean ====
section
/-! SUPPORT. The entry found for a HID after the mark moves (R24), after a change through the entry (R32) and after a
fill (R28). -/

namespace Sys2Proof.Machine

open Sys2Proof

/-- What a lookup of a set gives. -/
def CacheSet.entry (c : CacheSet) (h : Hid) : Option CacheEntry :=
  match c.hit h with
  | some w => c.get w
  | none => none

theorem entryOf_eq (s : State) (h : Hid) : s.entryOf h = (s.cache.at (cacheSetOf h)).entry h := rfl

/-- R24: moving the mark changes no lookup. -/
@[simp] theorem CacheSet.entry_used (c : CacheSet) (w : Way) (h : Hid) : (c.used w).entry h = c.entry h := rfl

theorem entryOf_touch (s : State) (h g : Hid) : (s.touch h).entryOf g = s.entryOf g := by
  simp only [State.touch]
  split
  · simp only [entryOf_eq, Table.at_put]
    split
    · next he => rw [he, CacheSet.entry_used]
    · rfl
  · rfl

/-- R32: the entry found after its record is replaced. -/
theorem CacheSet.entry_set {c : CacheSet} {h : Hid} {w : Way} {e : CacheEntry} {r : Record} (hw : c.hit h = some w)
    (he : c.get w = some e) (hr : r.hid = h) : (c.set w ((c.get w).map fun e => { e with record := r })).entry h =
      some { e with record := r } := by
  unfold CacheSet.hit at hw
  cases w
  · have h0 : c.way0 = some e := he
    simp [CacheSet.entry, CacheSet.hit, CacheSet.holds, CacheSet.set, CacheSet.get, h0, hr]
  · have h1 : c.way1 = some e := he
    have hn : c.holds h .way0 = false := by
      by_contra hc
      rw [if_pos (by simpa using hc)] at hw
      cases hw
    have hn' : (c.set .way1 ((c.get .way1).map fun e => { e with record := r })).holds h .way0 = false := hn
    simp only [CacheSet.entry, CacheSet.hit, hn', Bool.false_eq_true, if_false]
    simp [CacheSet.holds, CacheSet.set, CacheSet.get, h1, hr]

theorem entryOf_setEntry {s : State} {h : Hid} {e : CacheEntry} {r : Record} (he : s.entryOf h = some e)
    (hr : r.hid = h) : (s.setEntry h r).entryOf h = some { e with record := r } := by
  rw [entryOf_eq] at he
  simp only [CacheSet.entry] at he
  split at he
  · next w hw =>
    rw [entryOf_eq]
    simp only [State.setEntry, hw, Table.at_put_same]
    exact CacheSet.entry_set hw he hr
  · simp at he

/-- R32: the entry found after a change through the entry. -/
theorem entryOf_changeEntry {s : State} {h : Hid} {e : CacheEntry} {a : RecAddr} {r : Record}
    (he : s.entryOf h = some e) (hr : r.hid = h) : (s.changeEntry h a r).entryOf h = some { e with record := r } :=
  entryOf_setEntry he hr

/-- R24, R28: a fill is found by its own HID, when no entry of the set was. -/
theorem CacheSet.entry_fill {c : CacheSet} {e : CacheEntry} (hn : c.hit e.record.hid = none) :
    (c.fill e).entry e.record.hid = some e := by
  unfold CacheSet.hit at hn
  have h0 : c.holds e.record.hid .way0 = false := by
    by_contra hc
    rw [if_pos (by simpa using hc)] at hn
    cases hn
  rw [CacheSet.fill, CacheSet.entry_used]
  cases hw : c.fillWay
  · simp [CacheSet.entry, CacheSet.hit, CacheSet.holds, CacheSet.set, CacheSet.get]
  · have h0' : (c.set .way1 (some e)).holds e.record.hid .way0 = false := h0
    simp only [CacheSet.entry, CacheSet.hit, h0', Bool.false_eq_true, if_false]
    simp [CacheSet.holds, CacheSet.set, CacheSet.get]

end Sys2Proof.Machine
end

