-- ==== Sys2Proof/Laws/Memory.lean ====
section
/-! SUPPORT. Registry memory: what reading a byte after a write gives, that every write keeps the canonical form, and
that equal contents are equal data. -/

namespace Sys2Proof.Machine

open Sys2Proof

/-- The canonical form above an address bound, as a statement. -/
theorem Memory.wfFrom_cons {low k : Nat} {v : Byte} {rest : List Host.Cell} :
    Memory.wfFrom low ((k, v) :: rest) = true ↔
      low ≤ k ∧ k < Config.memoryBytes ∧ v ≠ Memory.unlisted ∧ Memory.wfFrom (k + 1) rest = true := by
  simp [Memory.wfFrom, and_assoc]

theorem Memory.wfFrom_mono {mem : List Host.Cell} : ∀ {a b : Nat}, a ≤ b → Memory.wfFrom b mem = true →
    Memory.wfFrom a mem = true := by
  cases mem with
  | nil => intros; rfl
  | cons c rest =>
    obtain ⟨k, v⟩ := c
    intro a b h hw
    rw [Memory.wfFrom_cons] at hw ⊢
    exact ⟨Nat.le_trans h hw.1, hw.2⟩

/-- Below its bound a canonical memory reads as unlisted. -/
theorem Memory.read_below {mem : List Host.Cell} : ∀ {low a : Nat}, Memory.wfFrom low mem = true → a < low →
    Memory.read mem a = Memory.unlisted := by
  induction mem with
  | nil => intros; rfl
  | cons c rest ih =>
    obtain ⟨k, v⟩ := c
    intro low a hw ha
    rw [Memory.wfFrom_cons] at hw
    have hk : k ≠ a := by omega
    simp only [Memory.read, hk, if_false]
    exact ih hw.2.2.2 (by omega)

/-- A write keeps the canonical form. -/
theorem Memory.wfFrom_write {mem : List Host.Cell} : ∀ {low a : Nat} (v : Byte), Memory.wfFrom low mem = true →
    low ≤ a → a < Config.memoryBytes → Memory.wfFrom low (Memory.write mem a v) = true := by
  induction mem with
  | nil =>
    intro low a v _ hl ha
    simp only [Memory.write]
    split
    · rfl
    · next h => exact Memory.wfFrom_cons.2 ⟨hl, ha, h, rfl⟩
  | cons c rest ih =>
    obtain ⟨k, w⟩ := c
    intro low a v hw hl ha
    obtain ⟨h1, h2, h3, h4⟩ := Memory.wfFrom_cons.1 hw
    simp only [Memory.write]
    split
    · next hlt =>
      split
      · exact hw
      · next hv => exact Memory.wfFrom_cons.2 ⟨hl, ha, hv, Memory.wfFrom_cons.2 ⟨hlt, h2, h3, h4⟩⟩
    · next hge =>
      split
      · next he =>
        subst he
        split
        · exact Memory.wfFrom_mono (by omega) h4
        · next hv => exact Memory.wfFrom_cons.2 ⟨hl, ha, hv, h4⟩
      · exact Memory.wfFrom_cons.2 ⟨h1, h2, h3, ih v h4 (by omega) ha⟩

/-- Reading the byte written gives it. -/
theorem Memory.read_write_same {mem : List Host.Cell} : ∀ {low : Nat} (a : Nat) (v : Byte),
    Memory.wfFrom low mem = true → Memory.read (Memory.write mem a v) a = v := by
  induction mem with
  | nil =>
    intro low a v _
    simp only [Memory.write]
    split
    · next h => exact h.symm
    · simp [Memory.read]
  | cons c rest ih =>
    obtain ⟨k, w⟩ := c
    intro low a v hw
    obtain ⟨-, -, -, h4⟩ := Memory.wfFrom_cons.1 hw
    simp only [Memory.write]
    split
    · next hlt =>
      split
      · next hv =>
        have : k ≠ a := by omega
        simp only [Memory.read, this, if_false]
        rw [Memory.read_below h4 (by omega), hv]
      · simp [Memory.read]
    · split
      · next he =>
        subst he
        split
        · next hv => rw [Memory.read_below h4 (by omega), hv]
        · simp [Memory.read]
      · next hne =>
        have : k ≠ a := fun e => hne e.symm
        simp only [Memory.read, this, if_false]
        exact ih a v h4

/-- Reading any other byte gives what it gave before. -/
theorem Memory.read_write_other {mem : List Host.Cell} : ∀ {low a b : Nat} (v : Byte),
    Memory.wfFrom low mem = true → b ≠ a → Memory.read (Memory.write mem a v) b = Memory.read mem b := by
  induction mem with
  | nil =>
    intro low a b v _ hb
    simp only [Memory.write]
    split
    · rfl
    · simp [Memory.read, Ne.symm hb]
  | cons c rest ih =>
    obtain ⟨k, w⟩ := c
    intro low a b v hw hb
    obtain ⟨-, -, -, h4⟩ := Memory.wfFrom_cons.1 hw
    simp only [Memory.write]
    split
    · split
      · rfl
      · simp [Memory.read, Ne.symm hb]
    · split
      · next he =>
        subst he
        split
        · next hv =>
          simp [Memory.read, Ne.symm hb]
        · simp [Memory.read, Ne.symm hb]
      · simp only [Memory.read]
        split
        · rfl
        · exact ih v h4 hb

/-- Writing a run of bytes inside the memory keeps the canonical form. -/
theorem Memory.wf_writeAll (vs : List Byte) : ∀ {mem : List Host.Cell} {a : Nat}, Memory.wf mem = true →
    a + vs.length ≤ Config.memoryBytes → Memory.wf (Memory.writeAll mem a vs) = true := by
  induction vs with
  | nil => intro mem a h _; exact h
  | cons v vs ih =>
    intro mem a h ha
    simp only [List.length_cons] at ha
    exact ih (Memory.wfFrom_write v h (Nat.zero_le a) (by omega)) (by omega)

/-- After a run of bytes is written, an address reads as the run says inside it, and as before outside. -/
theorem Memory.read_writeAll (vs : List Byte) : ∀ {mem : List Host.Cell} {a : Nat} (b : Nat), Memory.wf mem = true →
    a + vs.length ≤ Config.memoryBytes →
    Memory.read (Memory.writeAll mem a vs) b =
      if h : a ≤ b ∧ b < a + vs.length then vs[b - a]'(by omega) else Memory.read mem b := by
  induction vs with
  | nil =>
    intro mem a b _ _
    have : ¬(a ≤ b ∧ b < a) := by omega
    simp [Memory.writeAll, this]
  | cons v vs ih =>
    intro mem a b h ha
    simp only [List.length_cons] at ha
    have hw := Memory.wfFrom_write v h (Nat.zero_le a) (show a < Config.memoryBytes by omega)
    rw [Memory.writeAll, ih b hw (by omega)]
    by_cases hb : b = a
    · subst hb
      simp [Memory.read_write_same b v h]
    · by_cases hin : a + 1 ≤ b ∧ b < a + 1 + vs.length
      · have h2 : a ≤ b ∧ b < a + (v :: vs).length := by simp only [List.length_cons]; omega
        rw [dif_pos hin, dif_pos h2]
        have hs : b - a = (b - (a + 1)) + 1 := by omega
        simp [hs]
      · have h2 : ¬(a ≤ b ∧ b < a + (v :: vs).length) := by simp only [List.length_cons]; omega
        rw [dif_neg hin, dif_neg h2]
        exact Memory.read_write_other v h hb

@[simp] theorem Record.bytes_length (r : Record) : r.bytes.length = 16 := by
  simp [Record.bytes, Record.fields, hidBytes]

/-- Every registry slot lies inside the memory. -/
theorem RecAddr.base_le (a : RecAddr) : a.base + 16 ≤ Config.memoryBytes := by
  have := a.bucket.isLt
  have := a.slot.isLt
  simp only [RecAddr.base, Config.memoryBytes]
  omega

/-- A record write keeps the canonical form (R1). -/
theorem wf_writeRecord {mem : List Host.Cell} (a : RecAddr) (r : Record) (h : Memory.wf mem = true) :
    Memory.wf (writeRecord mem a r) = true :=
  Memory.wf_writeAll _ h (by rw [Record.bytes_length]; exact a.base_le)

/-- After a record write its slot holds the record's 16 bytes, and every other address reads as before (R1). -/
theorem read_writeRecord {mem : List Host.Cell} (a : RecAddr) (r : Record) (b : Nat) (h : Memory.wf mem = true) :
    Memory.read (writeRecord mem a r) b =
      if h : a.base ≤ b ∧ b < a.base + 16 then r.bytes[b - a.base]'(by rw [Record.bytes_length]; omega)
      else Memory.read mem b := by
  have := Memory.read_writeAll r.bytes b h (by rw [Record.bytes_length]; exact a.base_le)
  rw [writeRecord, this]
  simp only [Record.bytes_length]

end Sys2Proof.Machine
end

