-- ==== Sys2Proof/WellFormed.lean ====
section
/-! DEFINITION. Which commands are well formed: a command that carries a run carries a run of the sort its row of the
table names, as R141, R155, R156 and R157 judge it. Links, cells, circuits and slots are in range by their types. -/

namespace Sys2Proof

open Machine

/-- A command is well formed when its run is of the sort its row names. -/
def wellFormed : Instr → Bool
  | .fillFrameReceived _ run => runIs run (· == Kind.fill)
  | .invalidFrameReceived _ run => !runIs run (fun _ => true)
  | .signallingArrival link run => runIs run (isSignallingKind link)
  | .mgmtArrival run => runIs run (· == Kind.mgmt)
  | .uplinkVoiceFrame _ run => runIs run (· == Kind.voice)
  | .downlinkVoiceFrame run => runIs run (· == Kind.voice)
  | .pinReset | .loopedFrameReturn _ _ | .frameSend _ | .frameSendEnd _ | .fillFrameSend _ | .testFrameSend _
  | .linkSilenceExpiry _ | .malformedMessage | .enrol | .camp | .retire | .seizeOrigin | .seizeAnswer | .seizeMoveIn
  | .vacate | .stateReport | .relayFromCell | .offer | .endCall | .relayFromExchange | .holdTimerExpiry _
  | .clearTimerExpiry _ | .stageTimerExpiry _ | .bridgeTimerExpiry _ | .legSilenceExpiry _ _ | .holdDeadlineExpiry _ _
  | .searchReadComplete | .writeThroughComplete | .mgmtReadComplete | .mgmtWriteComplete | .emptyWriteComplete
  | .formatWriteComplete | .sweepReadComplete | .sweepWriteComplete | .readRecord | .writeRecord | .writeIfUnchanged
  | .deleteRecord | .clearSlot | .formatRegistry | .sweep | .readSweep | .loadProfile | .loadNeighbourRow | .loadZone
  | .loadCell | .loadTiming | .readTable | .cellControlEnable | .cellControlDisable | .cellControlLoop | .linkTest
  | .readLink | .readCell | .readCall | .forceClear | .readCause | .setAttention | .readCapture | .setCapture
  | .restart | .unknownCommand | .portOperationCompletesIntoNothing => true

end Sys2Proof
end

