-- ==== Sys2Proof/Laws/PerInstr.lean ====
section
/-! SUPPORT. A statement about every command, proved per constructor: the run of a well-formed arrival of a valid frame
holds 5 to 245 bytes (R156, the envelope table). -/

namespace Sys2Proof.Laws.RunFits

open Sys2Proof Sys2Proof.Machine

/-- The run of a command that is the arrival of a valid frame. -/
def arrivalRun : Instr → Option (List Byte)
  | .fillFrameReceived _ run | .signallingArrival _ run | .mgmtArrival run | .uplinkVoiceFrame _ run
  | .downlinkVoiceFrame run => some run

  | .pinReset | .invalidFrameReceived _ _ | .loopedFrameReturn _ _ | .frameSend _ | .frameSendEnd _
  | .fillFrameSend _ | .testFrameSend _ | .linkSilenceExpiry _ | .malformedMessage | .enrol | .camp | .retire
  | .seizeOrigin | .seizeAnswer | .seizeMoveIn | .vacate | .stateReport | .relayFromCell | .offer | .endCall
  | .relayFromExchange | .holdTimerExpiry _ | .clearTimerExpiry _ | .stageTimerExpiry _ | .bridgeTimerExpiry _
  | .legSilenceExpiry _ _ | .holdDeadlineExpiry _ _ | .searchReadComplete | .writeThroughComplete
  | .mgmtReadComplete | .mgmtWriteComplete | .emptyWriteComplete | .formatWriteComplete | .sweepReadComplete
  | .sweepWriteComplete | .readRecord | .writeRecord | .writeIfUnchanged | .deleteRecord | .clearSlot
  | .formatRegistry | .sweep | .readSweep | .loadProfile | .loadNeighbourRow | .loadZone | .loadCell | .loadTiming
  | .readTable | .cellControlEnable | .cellControlDisable | .cellControlLoop | .linkTest | .readLink | .readCell
  | .readCall | .forceClear | .readCause | .setAttention | .readCapture | .setCapture | .restart | .unknownCommand
  | .portOperationCompletesIntoNothing => none

/-- The run of a well-formed arrival of a valid frame holds 5 to 245 bytes. -/
def Statement (i : Instr) : Prop :=
  wellFormed i = true → ∀ run, arrivalRun i = some run → 5 ≤ run.length ∧ run.length ≤ 245

/-- A run judged valid holds 5 to 245 bytes. -/
theorem judge_length {run : List Byte} {f : Frame} (h : judge run = .valid f) : 5 ≤ run.length ∧ run.length ≤ 245 := by
  unfold judge at h
  split at h
  · next d k n rest =>
    split at h
    · next hc =>
      have hn : n.toNat ≤ 240 := by
        have := hc.2.1
        revert this
        cases classOf k <;> simp [classAllows] <;> omega
      have := hc.2.2
      simp only [List.length_cons]
      omega
    · cases h
  · cases h

theorem runIs_length {run : List Byte} {test : Byte → Bool} (h : runIs run test = true) :
    5 ≤ run.length ∧ run.length ≤ 245 := by
  unfold runIs at h
  split at h
  · next f hf => exact judge_length hf
  · cases h

theorem pinReset : Statement .pinReset := by
  intro _ _ h
  cases h

theorem fillFrameReceived (link : LinkId) (run : List Byte) : Statement (.fillFrameReceived link run) := by
  intro h r hr
  obtain rfl : run = r := by simpa [arrivalRun] using hr
  exact runIs_length (by simpa only [wellFormed] using h)

theorem invalidFrameReceived (link : LinkId) (run : List Byte) : Statement (.invalidFrameReceived link run) := by
  intro _ _ h
  cases h

theorem signallingArrival (link : LinkId) (run : List Byte) : Statement (.signallingArrival link run) := by
  intro h r hr
  obtain rfl : run = r := by simpa [arrivalRun] using hr
  exact runIs_length (by simpa only [wellFormed] using h)

theorem mgmtArrival (run : List Byte) : Statement (.mgmtArrival run) := by
  intro h r hr
  obtain rfl : run = r := by simpa [arrivalRun] using hr
  exact runIs_length (by simpa only [wellFormed] using h)

theorem uplinkVoiceFrame (c : CellId) (run : List Byte) : Statement (.uplinkVoiceFrame c run) := by
  intro h r hr
  obtain rfl : run = r := by simpa [arrivalRun] using hr
  exact runIs_length (by simpa only [wellFormed] using h)

theorem downlinkVoiceFrame (run : List Byte) : Statement (.downlinkVoiceFrame run) := by
  intro h r hr
  obtain rfl : run = r := by simpa [arrivalRun] using hr
  exact runIs_length (by simpa only [wellFormed] using h)

theorem loopedFrameReturn (c : CellId) (run : List Byte) : Statement (.loopedFrameReturn c run) := by
  intro _ _ h
  cases h

theorem frameSend (link : LinkId) : Statement (.frameSend link) := by
  intro _ _ h
  cases h

theorem frameSendEnd (link : LinkId) : Statement (.frameSendEnd link) := by
  intro _ _ h
  cases h

theorem fillFrameSend (link : LinkId) : Statement (.fillFrameSend link) := by
  intro _ _ h
  cases h

theorem testFrameSend (c : CellId) : Statement (.testFrameSend c) := by
  intro _ _ h
  cases h

theorem linkSilenceExpiry (link : LinkId) : Statement (.linkSilenceExpiry link) := by
  intro _ _ h
  cases h

theorem malformedMessage : Statement .malformedMessage := by
  intro _ _ h
  cases h

theorem enrol : Statement .enrol := by
  intro _ _ h
  cases h

theorem camp : Statement .camp := by
  intro _ _ h
  cases h

theorem retire : Statement .retire := by
  intro _ _ h
  cases h

theorem seizeOrigin : Statement .seizeOrigin := by
  intro _ _ h
  cases h

theorem seizeAnswer : Statement .seizeAnswer := by
  intro _ _ h
  cases h

theorem seizeMoveIn : Statement .seizeMoveIn := by
  intro _ _ h
  cases h

theorem vacate : Statement .vacate := by
  intro _ _ h
  cases h

theorem stateReport : Statement .stateReport := by
  intro _ _ h
  cases h

theorem relayFromCell : Statement .relayFromCell := by
  intro _ _ h
  cases h

theorem offer : Statement .offer := by
  intro _ _ h
  cases h

theorem endCall : Statement .endCall := by
  intro _ _ h
  cases h

theorem relayFromExchange : Statement .relayFromExchange := by
  intro _ _ h
  cases h

theorem holdTimerExpiry (n : Circuit) : Statement (.holdTimerExpiry n) := by
  intro _ _ h
  cases h

theorem clearTimerExpiry (n : Circuit) : Statement (.clearTimerExpiry n) := by
  intro _ _ h
  cases h

theorem stageTimerExpiry (n : Circuit) : Statement (.stageTimerExpiry n) := by
  intro _ _ h
  cases h

theorem bridgeTimerExpiry (n : Circuit) : Statement (.bridgeTimerExpiry n) := by
  intro _ _ h
  cases h

theorem legSilenceExpiry (n : Circuit) (leg : LegRole) : Statement (.legSilenceExpiry n leg) := by
  intro _ _ h
  cases h

theorem holdDeadlineExpiry (n : Circuit) (k : Fin 4) : Statement (.holdDeadlineExpiry n k) := by
  intro _ _ h
  cases h

theorem searchReadComplete : Statement .searchReadComplete := by
  intro _ _ h
  cases h

theorem writeThroughComplete : Statement .writeThroughComplete := by
  intro _ _ h
  cases h

theorem mgmtReadComplete : Statement .mgmtReadComplete := by
  intro _ _ h
  cases h

theorem mgmtWriteComplete : Statement .mgmtWriteComplete := by
  intro _ _ h
  cases h

theorem emptyWriteComplete : Statement .emptyWriteComplete := by
  intro _ _ h
  cases h

theorem formatWriteComplete : Statement .formatWriteComplete := by
  intro _ _ h
  cases h

theorem sweepReadComplete : Statement .sweepReadComplete := by
  intro _ _ h
  cases h

theorem sweepWriteComplete : Statement .sweepWriteComplete := by
  intro _ _ h
  cases h

theorem readRecord : Statement .readRecord := by
  intro _ _ h
  cases h

theorem writeRecord : Statement .writeRecord := by
  intro _ _ h
  cases h

theorem writeIfUnchanged : Statement .writeIfUnchanged := by
  intro _ _ h
  cases h

theorem deleteRecord : Statement .deleteRecord := by
  intro _ _ h
  cases h

theorem clearSlot : Statement .clearSlot := by
  intro _ _ h
  cases h

theorem formatRegistry : Statement .formatRegistry := by
  intro _ _ h
  cases h

theorem sweep : Statement .sweep := by
  intro _ _ h
  cases h

theorem readSweep : Statement .readSweep := by
  intro _ _ h
  cases h

theorem loadProfile : Statement .loadProfile := by
  intro _ _ h
  cases h

theorem loadNeighbourRow : Statement .loadNeighbourRow := by
  intro _ _ h
  cases h

theorem loadZone : Statement .loadZone := by
  intro _ _ h
  cases h

theorem loadCell : Statement .loadCell := by
  intro _ _ h
  cases h

theorem loadTiming : Statement .loadTiming := by
  intro _ _ h
  cases h

theorem readTable : Statement .readTable := by
  intro _ _ h
  cases h

theorem cellControlEnable : Statement .cellControlEnable := by
  intro _ _ h
  cases h

theorem cellControlDisable : Statement .cellControlDisable := by
  intro _ _ h
  cases h

theorem cellControlLoop : Statement .cellControlLoop := by
  intro _ _ h
  cases h

theorem linkTest : Statement .linkTest := by
  intro _ _ h
  cases h

theorem readLink : Statement .readLink := by
  intro _ _ h
  cases h

theorem readCell : Statement .readCell := by
  intro _ _ h
  cases h

theorem readCall : Statement .readCall := by
  intro _ _ h
  cases h

theorem forceClear : Statement .forceClear := by
  intro _ _ h
  cases h

theorem readCause : Statement .readCause := by
  intro _ _ h
  cases h

theorem setAttention : Statement .setAttention := by
  intro _ _ h
  cases h

theorem readCapture : Statement .readCapture := by
  intro _ _ h
  cases h

theorem setCapture : Statement .setCapture := by
  intro _ _ h
  cases h

theorem restart : Statement .restart := by
  intro _ _ h
  cases h

theorem unknownCommand : Statement .unknownCommand := by
  intro _ _ h
  cases h

theorem portOperationCompletesIntoNothing : Statement .portOperationCompletesIntoNothing := by
  intro _ _ h
  cases h

end Sys2Proof.Laws.RunFits
end

