-- ==== Sys2Proof/Tests/Slice0.lean ====
section
/-! SUPPORT. Tests whose expected values are the manual's own worked examples, the smoke test of WellFormed, and one
witness for the hypotheses of every statement of Certificates/Slice0/Obligations.lean. -/

set_option Elab.async false

namespace Sys2Proof.Tests

open Sys2Proof Sys2Proof.Machine

/-! ### Small states -/

/-- The first handset of the manual's examples: primary bucket 15, alternate 698, cache set 15. -/
def hidA : Hid := 0x0000C02807#40

/-- The slot that holds its record in the examples. -/
def addrA : RecAddr := ⟨698, 1⟩

/-- Its record: PERMITTED, STANDARD, DETACHED. -/
def recA : Record := { Record.empty with hid := hidA }

/-- Its record once attached at a cell, both marks set. -/
def attached (c : CellId) : Record := { recA with attach := .attached, location := some c, seen := true, moved := true }

/-- A link unit that is UP. -/
def unitUp : LinkUnit := { LinkUnit.reset .up with silence := some 16 }

/-- Every link UP and the registry FORMATTED, after a reset. -/
def live : State :=
  { State.reset with
    cells := Table.all 24 { CellLink.reset with link := unitUp }
    exch := { ExchLink.reset with link := unitUp }
    reg := { State.reset.reg with format := .formatted } }

/-- The same after a time in ms. -/
def at' (ms : Nat) (s : State) : State := { s with timeBase := BitVec.ofNat 32 ms }

/-- A message at the head of a link's FIFO. -/
def inFifo (l : LinkId) (f : Frame) (s : State) : State := s.modUnit l fun u => { u with rxFifo := [f] }

/-- A request at the head of the management queue. -/
def asked (command : Byte) (operands : List Byte) (s : State) : State :=
  { s with mgmt := { s.mgmt with queue := [⟨7, command, operands⟩] } }

/-- The record of the first handset in the cache. -/
def cached (r : Record) (s : State) : State := s.installEntry ⟨r, addrA⟩

/-- An operation on the port. -/
def onPort (op : PortOp) (s : State) : State := s.setPort (some op)

/-- A call put on a circuit. -/
def withCall (n : Circuit) (r : CallRecord) (s : State) : State :=
  { s.modCall n fun _ => r with call := { (s.modCall n fun _ => r).call with freeQueue := s.call.freeQueue.filter (· ≠ n) } }

/-- What the calls below share. -/
def claimed : CallRecord :=
  { CallRecord.free .default with hid := some hidA, direction := some .outgoing, mclass := some .standard }

/-- The serving leg of the calls below. -/
def legS : Leg := ⟨0, 0, 2000, some 50, 0, 120⟩

/-- The candidate leg of the bridged call below. -/
def legC : Leg := ⟨23, 11, 2100, none, 0, 120⟩

/-- A stored frame. -/
def stored (score : Nat) : StoredFrame := ⟨⟨0, 50, 40, 0, List.replicate 40 0⟩, score⟩

def paging : CallRecord :=
  { claimed with
    state := .paging, direction := some .incoming, stageTimer := some 5, pageStage := some .stage3, pageCell := some 0
    summoned := [0] }
def active : CallRecord := { claimed with state := .active, serving := some legS }
def bridged : CallRecord :=
  { claimed with
    state := .bridged, serving := some legS, candidate := some legC, bridgeTimer := some 5
    window := some ⟨some 50, #v[⟨some (stored 2560), none, some 5⟩, .vacant, .vacant, .vacant]⟩ }
def holding : CallRecord := { claimed with state := .holding, lastServing := some 0, holdTimer := some 5 }
def clearing : CallRecord := { CallRecord.free .default with state := .clearing, clearTimer := some 5 }

/-- An ACTIVE call on the last circuit, its leg on bearer (0, 0). -/
def liveActive : State := (live |> withCall 191 active).setBearer 0 0 (.serving 191)

/-- A BRIDGED call on the last circuit. -/
def liveBridged : State :=
  ((live |> withCall 191 bridged).setBearer 0 0 (.serving 191)).setBearer 23 11 (.candidate 191)

/-- The state after one command. -/
def after (i : Instr) (s : State) : Option State :=
  match exec i s with
  | .next t => some t
  | .fault f => nomatch f
  | .refused _ => none

/-- A signalling message from a SEIZE's fields. -/
def seizeFrame (k : Byte) (purpose level : Byte) : Frame := ⟨Kind.seize, k :: (hidBytes hidA ++ [purpose, level])⟩

/-- A voice frame with no slip and no error. -/
def voiceFrame (tag seq level : Byte) : Frame := ⟨Kind.voice, [tag, seq, level, 0] ++ List.replicate 40 0x5A⟩

/-- The fields of such a frame. -/
def voiceOfFrame (tag seq level : Byte) : Voice := ⟨tag, seq, level, 0, List.replicate 40 0x5A⟩

/-! ### WellFormed refuses an ill-formed command of each sort -/

theorem test_wf_fill : wellFormed (.fillFrameReceived .exchange attentionFrame.run) = false := by decide +kernel
theorem test_wf_invalid : wellFormed (.invalidFrameReceived (.cell 0) fillFrame.run) = false := by decide +kernel
theorem test_wf_signalling : wellFormed (.signallingArrival .exchange (replyFrame 1 1 .done []).run) = false := by
  decide +kernel
theorem test_wf_mgmt : wellFormed (.mgmtArrival attentionFrame.run) = false := by decide +kernel
theorem test_wf_uplink : wellFormed (.uplinkVoiceFrame 23 fillFrame.run) = false := by decide +kernel
theorem test_wf_downlink : wellFormed (.downlinkVoiceFrame [0x7E]) = false := by decide +kernel
theorem test_wf_accepts : wellFormed (.uplinkVoiceFrame 23 (voiceFrame 11 255 63).run) = true := by decide +kernel

/-! ### The manual's worked examples -/

/-- 09, two frames and their checks: END(40). -/
theorem test_end_run : Frame.run ⟨Kind.endCall, [0x28]⟩ = [0x7E, 0x31, 0x01, 0x28, 0xBD, 0x5A] := by decide +kernel

/-- 09: the SEIZE is judged valid with the check ABh 2Bh, and fails it with the level byte altered. -/
theorem test_seize_check :
    (judge [0x7E, 0x13, 8, 2, 0, 0, 0xC0, 0x28, 7, 1, 0x1E, 0xAB, 0x2B] = .valid (seizeFrame 2 1 0x1E)) ∧
    judge [0x7E, 0x13, 8, 2, 0, 0, 0xC0, 0x28, 7, 1, 0x1F, 0xAB, 0x2B] = .checkError := by decide +kernel

/-- R160: the fill frame's wire bytes, and the last byte of a test frame's body. -/
theorem test_fill_and_test_frames : fillFrame.run = [0x7E, 0, 0, 0, 0] ∧ (testFrame 20).body.getLast? = some 0xC4 := by
  decide +kernel

/-- 01, three handsets. -/
theorem test_buckets :
    (primaryBucket hidA, alternateBucket hidA, cacheSetOf hidA) = (15, 698, 15) ∧
    (primaryBucket 1500, alternateBucket 1500, cacheSetOf 1500) = (1500, 135, 28) ∧
    (primaryBucket (-1), alternateBucket (-1), cacheSetOf (-1)) = (124, 807, 60) := by decide +kernel

/-- 09, one record in memory. -/
theorem test_record_bytes :
    { attached 5 with moved := false }.bytes = [0, 0, 0xC0, 0x28, 7, 0, 0, 1, 6, 1, 0, 0, 0, 0, 0, 0xF7] := by
  decide +kernel

/-- 09: attach 1 with location 0 and a good check reads as DETACHED, location none. -/
theorem test_record_foreign :
    slotView (Memory.writeAll [] addrA.base [0, 0, 0xC0, 0x28, 7, 0, 0, 1, 0, 1, 0, 0, 0, 0, 0, 0xF1]) addrA =
      .occupied { recA with seen := true } := by decide +kernel

/-- 07, the scores of five frames. -/
theorem test_scores :
    score .default ⟨0, 0, 40, 0, []⟩ = 2560 ∧ score .default ⟨0, 0, 30, 1, []⟩ = 1664 ∧
    score .default ⟨0, 0, 34, 5, []⟩ = 384 ∧ score .default ⟨0, 0, 20, 4, []⟩ = 0 ∧
    score .default ⟨0, 0, 63, 3, []⟩ = 3264 := by decide +kernel

/-- 07, the update at its edges. -/
theorem test_estimates :
    updateEstimate 4 1800 0 = 1350 ∧ updateEstimate 4 2112 2304 = 2160 ∧ updateEstimate 16 1000 3000 = 3000 ∧
    updateEstimate 16 4032 0 = 0 ∧ updateEstimate 4 3 0 = 2 ∧ updateEstimate 4 2 0 = 2 ∧
    updateEstimate 4 4031 4032 = 4031 ∧ updateEstimate 1 2500 2501 = 2500 ∧ updateEstimate 1 2500 2516 = 2501 := by
  decide +kernel

/-- 07, an ACTIVE leg across a gap: two zero samples and its own score. -/
theorem test_gap : updateEstimate 4 (zeroSamples 4 2 2140) 2240 = 1463 := by decide +kernel

/-- 02, replacement in set 15: four uses of the set. -/
theorem test_replacement :
    let e (h : Hid) (a : RecAddr) : CacheEntry := ⟨{ recA with hid := h }, a⟩
    let two := (CacheSet.reset.fill (e 0x4F ⟨79, 0⟩)).fill (e hidA addrA)
    two.lru = .way0 ∧ (two.used .way0).fill (e 0x8F ⟨143, 0⟩) =
      ⟨some (e 0x4F ⟨79, 0⟩), some (e 0x8F ⟨143, 0⟩), .way0⟩ := by decide +kernel

/-- 07, the ACTIVE leg of call 7: frame 50 at level 40 takes Q from 2000 to 2140 and is forwarded. -/
theorem test_uplink_active :
    (after (.uplinkVoiceFrame 0 (voiceFrame 0 50 40).run) liveActive).map (fun t =>
      ((t.callOf 191).serving.map fun g => (g.q, g.expected), t.exch.txQueue)) =
      some (some (2140, some 51), [voiceFrame 191 50 40]) := by decide +kernel

/-- R130, R131: the deadline of slot 0 makes one emission: its frame is forwarded and the base rises by 1. -/
theorem test_deadline_emits :
    (after (.holdDeadlineExpiry 191 0) (at' 5 liveBridged)).map (fun t =>
      ((t.callOf 191).dwell, (t.callOf 191).window.bind Window.base, t.exch.txQueue.length)) =
      some (0, some 51, 1) := by decide +kernel

/-- 03: an ENROL from cell 6 is answered ENROL-OK and queues one write-through. -/
theorem test_enrol :
    (after .enrol (live |> cached recA |> inFifo (.cell 6) ⟨Kind.enrol, hidBytes hidA ++ [41]⟩)).map (fun t =>
      (t.entryOf hidA, (t.cells.at 6).sigQueue, t.reg.port)) =
      some (some ⟨attached 6, addrA⟩, [enrolOkFrame hidA], some (.writeThrough addrA (attached 6))) := by decide +kernel

/-- 02, marks and write-throughs: a CAMP at the location cell, and a second RETIRE, queue nothing. -/
theorem test_camp_unchanged :
    (after .camp (live |> cached (attached 9) |> inFifo (.cell 9) ⟨Kind.camp, hidBytes hidA⟩)).map (fun t =>
      (t.entryOf hidA, t.reg.port, (t.cells.at 9).sigQueue)) = some (some ⟨attached 9, addrA⟩, none, []) := by
  decide +kernel
theorem test_retire :
    (after .retire (live |> cached (attached 17) |> inFifo (.cell 3) ⟨Kind.retire, hidBytes hidA⟩)).map (fun t =>
      t.entryOf hidA) = some (some ⟨{ recA with seen := true, moved := true }, addrA⟩) := by decide +kernel

/-- R63: an origin takes the head of the free queue, is granted and is told to the exchange. -/
theorem test_origin :
    (after .seizeOrigin (live |> cached (attached 4) |> inFifo (.cell 4) (seizeFrame 2 1 30))).map (fun t =>
      (t.bearer 4 2, (t.callOf 0).serving.map Leg.q, (t.cells.at 4).sigQueue, t.exch.txQueue, t.call.freeQueue.head?)) =
      some (.serving 0, some 1920, [grantFrame 2 hidA], [originFrame 0 hidA 4], some 1) := by decide +kernel

/-- R64: an answer turns the page into a call. -/
theorem test_answer :
    (after .seizeAnswer (live |> withCall 40 paging |> cached (attached 4) |> inFifo (.cell 4) (seizeFrame 2 2 30))).map
      (fun t => ((t.callOf 40).state, (t.callOf 40).summoned, t.exch.txQueue)) =
      some (.active, [], [reachedFrame 40 4]) := by decide +kernel

/-- R102: a move-in puts the call into BRIDGED, the window's base at the serving leg's expected sequence. -/
theorem test_move_in :
    (after .seizeMoveIn (liveActive |> cached (attached 4) |> inFifo (.cell 4) (seizeFrame 8 3 33))).map (fun t =>
      ((t.callOf 191).state, (t.callOf 191).candidate.map Leg.q, (t.callOf 191).window.bind Window.base, t.bearer 4 8)) =
      some (.bridged, some 2112, some 50, .candidate 191) := by decide +kernel

/-- R86: an OFFER summons the handset at its location cell. -/
theorem test_offer :
    (after .offer (live |> cached (attached 4) |> inFifo .exchange ⟨Kind.offer, 40 :: hidBytes hidA⟩)).map (fun t =>
      ((t.callOf 40).pageStage, (t.callOf 40).stageTimer, (t.cells.at 4).sigQueue)) =
      some (some .stage1, some 800, [summonFrame hidA 40]) := by decide +kernel

/-- 08, testing cell 3: LOOP on a cell with a call puts the call into HOLDING. -/
theorem test_loop_control :
    (after .cellControlLoop (liveActive |> asked 0x20 [0, 3])).map (fun t =>
      ((t.cells.at 0).link.state, (t.callOf 191).state, t.bearer 0 0, t.attn.captures.map Capture.kind)) =
      some (.loop, .holding, .free, [.legLost]) := by decide +kernel

/-- R77: the exchange link's silence clears an ACTIVE call. -/
theorem test_exchange_silence :
    (after (.linkSilenceExpiry .exchange) (at' 16 liveActive)).map (fun t =>
      ((t.callOf 191).state, t.bearer 0 0, (t.cells.at 0).sigQueue, t.attn.captures.map Capture.kind)) =
      some (.clearing, .releasing 191, [clearFrame 0], [.exchangeLost]) := by decide +kernel

/-- 05: a LOAD-ZONE of first 125 and count 4 is refused with BAD_VALUE. -/
theorem test_zone_refused :
    (after .loadZone (live |> asked 0x12 [2, 125, 4, 0, 1, 2, 3])).map (fun t => t.exch.txQueue) =
      some [replyFrame 7 0x12 .badValue []] := by decide +kernel

/-- 05, two zones sharing store entries: zone 2 reads as the entries stand. -/
theorem test_zone_shared :
    ((after .loadZone (live |> asked 0x12 [2, 10, 4, 5, 4, 6, 9])).bind fun t =>
      after .loadZone (asked 0x12 [3, 12, 3, 7, 8, 6] t)).map (fun t => t.tables.zoneCells 2) =
      some [5, 4, 7, 8] := by decide +kernel

/-- R183: the pin and the ATTENTION frame follow a flag that becomes pending while LINK is enabled. -/
theorem test_attention :
    (after (.invalidFrameReceived (.cell 23) [0x7F])
      { live with attn := { live.attn with enables := ⟨false, true, false, false⟩ } }).map (fun t =>
      (t.attn.pin, t.exch.txQueue)) = some (true, [attentionFrame]) := by decide +kernel

/-- R18: a MOVED sweep of a bucket lists a moved record and sets out to clear its mark. -/
theorem test_sweep_read :
    let s := { live with reg := { live.reg with
      mem := writeRecord [] addrA (attached 3), sweep := .running .moved 698 698 .reading } }
    (after .sweepReadComplete (onPort (.sweepRead 698) s)).map (fun t => (t.mgmt.sweepList, t.reg.port)) =
      some ([⟨hidA, some 3⟩], some (.sweepWrite addrA { attached 3 with moved := false })) := by decide +kernel

/-- R11: the last format write leaves the registry FORMATTED. -/
theorem test_format_ends :
    let s := { live with reg := { live.reg with format := .formatting, formatPos := 8191 } }
    (after .formatWriteComplete (onPort (.formatWrite ⟨2047, 3⟩) s)).map (fun t => t.reg.format) =
      some .formatted := by decide +kernel

/-- R15: the write-through that completes lets W onto the port, and the ENROL held at the full queue is answered in the
same event, its write queued. -/
theorem test_held_released :
    let s := live |> cached recA
    let writes := (List.range 16).map fun i => (⟨⟨BitVec.ofNat 11 i |>.toFin, 0⟩, recA⟩ : QueuedWrite)
    (after .writeThroughComplete { s with
      reg := { s.reg with writes, port := some (.writeThrough ⟨16, 0⟩ recA) }
      sig := { s.sig with held := some ⟨.cell 6, .enrol hidA 63⟩ } }).map (fun t =>
      (t.sig.held, (t.cells.at 6).sigQueue, t.entryOf hidA, t.reg.writes.getLast?, t.reg.writes.length)) =
      some (none, [enrolOkFrame hidA], some ⟨attached 6, addrA⟩, some ⟨addrA, attached 6⟩, 16) := by decide +kernel

/-! ### Witnesses: hypotheses of the statements about the whole machine -/

/-- A running state: a call, a record in memory, a frame to send and a command that waits. -/
def running : State :=
  { liveActive with
    pending := [.frameSend .exchange]
    exch := { liveActive.exch with txQueue := [attentionFrame] }
    reg := { liveActive.reg with mem := writeRecord [] addrA recA } }

theorem running_call (n : Circuit) : running.callOf n = if n = 191 then active else .free .default := by
  simp [running, liveActive, live, withCall, State.callOf, State.setBearer, State.modCall, State.reset, State.pinReset,
    CallTable.reset, Table.at_put]

theorem running_bearer (c : CellId) (k : SlotId) :
    running.bearer c k = if c = 0 ∧ k = 0 then .serving 191 else .free := by
  simp only [running, liveActive, live, withCall, State.bearer, State.setBearer, State.modCall, State.reset,
    State.pinReset, CallTable.reset, Table.at_put, Table.at_all]
  by_cases hc : c = 0 <;> simp [hc, Table.at_put]

theorem running_steps : ∃ t, step running = .next t := ⟨_, rfl⟩

theorem witness_StepRunsTheFrontCommand : running.pending = .frameSend .exchange :: [] := rfl

theorem witness_IdleStepCountsOneMillisecond : live.pending = [] := rfl

theorem witness_MemoryStaysCanonical : running.MemoryOk ∧ ∃ t, step running = .next t :=
  ⟨by unfold State.MemoryOk; decide +kernel, running_steps⟩

theorem witness_PinShowsTheAttentionSet : running.PinOk ∧ ∃ t, step running = .next t :=
  ⟨by unfold State.PinOk; decide +kernel, running_steps⟩

theorem witness_QueuesStayWithinTheirSizes :
    (running.LinksFit ∧ running.reg.Fits ∧ running.sig.Fits ∧ running.mgmt.Fits ∧ running.attn.Fits) ∧
      ∃ t, step running = .next t := by
  have h : ∀ c, (running.cells.at c).link.rxFifo.length ≤ 8 ∧ (running.cells.at c).sigQueue.length ≤ 16 ∧
      (running.cells.at c).voiceQueue.length ≤ 8 := by decide +kernel
  refine ⟨⟨⟨fun c => ⟨(h c).1, (h c).2.1, (h c).2.2⟩, ⟨?_, ?_⟩⟩, ⟨?_, ?_, ?_, ?_, ?_⟩, ⟨?_, ?_⟩, ⟨?_, ?_⟩, ?_⟩, running_steps⟩
  all_goals first | decide +kernel | (unfold Attention.Fits; decide +kernel)

theorem witness_FreeQueueHoldsTheFreeCircuits : running.FreeQueueOk ∧ ∃ t, step running = .next t := by
  have h : running.call.freeQueue = (ascending 192).filter (· ≠ 191) := rfl
  refine ⟨⟨h ▸ (nodup_ascending.filter _), fun n => ?_⟩, running_steps⟩
  rw [running_call, h]
  by_cases hn : n = 191 <;> simp [hn, active, CallRecord.free]

theorem running_calls : running.CallsOk := by
  intro n
  rw [running_call]
  split <;> decide

theorem running_bearers : running.BearersOk := by
  intro c k n
  rw [running_bearer, running_call]
  unfold legOn
  constructor <;> constructor <;> intro h <;> split at h <;> (try split) <;>
    simp_all [active, claimed, CallRecord.free, legS, eq_comm]

theorem liveBridged_call (n : Circuit) : liveBridged.callOf n = if n = 191 then bridged else .free .default := by
  simp [liveBridged, live, withCall, State.callOf, State.setBearer, State.modCall, State.reset, State.pinReset,
    CallTable.reset, Table.at_put]

/-- A call on its own, and a BRIDGED one whose window holds a frame. -/
theorem witness_CallRecordsStayConsistent :
    running.CallsOk ∧ running.HidsOk ∧ (∃ t, step running = .next t) ∧ (liveBridged.CallsOk ∧ liveBridged.WindowsOk) ∧
      ∃ t, step liveBridged = .next t := by
  refine ⟨running_calls, ?_, running_steps, ⟨?_, ?_⟩, ⟨_, rfl⟩⟩
  · intro n m hn hm _ _
    have only : ∀ n, (running.callOf n).state.inCall = true → n = 191 := by
      intro n h
      rw [running_call] at h
      by_contra hn
      simp [hn, CallRecord.free, CallState.inCall] at h
    rw [only n hn, only m hm]
  · intro n
    rw [liveBridged_call]
    split <;> decide
  · intro n w h
    rw [liveBridged_call] at h
    split at h
    · injection h with h
      subst h
      constructor <;> decide +kernel
    · simp [CallRecord.free] at h

/-- The same with a bearer that the call has let go. -/
def letGo : State := running.setBearer 1 1 (.releasing 191)

theorem letGo_bearer (c : CellId) (k : SlotId) :
    letGo.bearer c k = if c = 1 ∧ k = 1 then .releasing 191 else running.bearer c k := by
  simp only [letGo, State.bearer, State.setBearer, Table.at_put]
  by_cases hc : c = 1 <;> by_cases hk : k = 1 <;> simp [hc, hk]

theorem letGo_bearers : letGo.BearersOk := by
  intro c k n
  have h := running_bearers c k n
  rw [letGo_bearer]
  split
  · next hc =>
    obtain ⟨rfl, rfl⟩ := hc
    rw [running_bearer] at h
    exact ⟨iff_of_false nofun fun hl => by simpa using h.1.2 hl, iff_of_false nofun fun hl => by simpa using h.2.2 hl⟩
  · exact h

theorem letGo_releasing : letGo.ReleasingOk := by
  intro c k n h
  rw [letGo_bearer, running_bearer] at h
  split at h
  · cases h
    exact .inl (by decide +kernel)
  · split at h <;> cases h

theorem witness_BearersMatchLegs :
    (letGo.FreeQueueOk ∧ letGo.CallsOk ∧ letGo.BearersOk ∧ letGo.ReleasingOk) ∧ ∃ t, step letGo = .next t :=
  ⟨⟨witness_FreeQueueHoldsTheFreeCircuits.1, running_calls, letGo_bearers, letGo_releasing⟩, ⟨_, rfl⟩⟩

theorem witness_EstimatesAndCountersStayInRange :
    running.EstimatesOk ∧ running.CountersOk ∧ ∃ t, step running = .next t := by
  refine ⟨⟨?_, ?_, ?_, ?_⟩, ?_, running_steps⟩
  · intro n g h
    rw [running_call] at h
    split at h <;> simp_all [active, claimed, CallRecord.free, legS, Config.qualityMax]
    subst h; decide
  · intro n g h
    rw [running_call] at h
    split at h <;> simp_all [active, claimed, CallRecord.free]
  · intro m h; exact absurd h (by simp [running, liveActive, live, State.setBearer, withCall, State.modCall, State.reset, State.pinReset, SigProc.reset])
  · intro m h; exact absurd h (by simp [running, liveActive, live, State.setBearer, withCall, State.modCall, State.reset, State.pinReset, SigProc.reset])
  · intro l
    cases l with
    | exchange => constructor <;> decide +kernel
    | cell c =>
      have h : ∀ c, (running.cells.at c).link.counters = .zero := by decide +kernel
      constructor <;> simp [State.unit, h, LinkCounters.zero, Config.counterMax]

/-- The state of the lookups: one entry, one group that searches and one write. -/
def searching : State :=
  { live |> cached recA with
    reg := { live.reg with
      port := some (.searchRead 3 28), contexts := Table.put (Table.all 4 none) 3 (some ⟨1500, false, none, false⟩)
      writes := [⟨addrA, recA⟩] }
    sig := { live.sig with parked := [⟨1500, .cell 0, .camp 1500⟩], groups := [⟨1500, .searching 3⟩] } }

theorem witness_CacheAndWritesStayUnique :
    searching.LookupOk ∧ searching.WritesOk ∧ ∃ t, step searching = .next t := by
  refine ⟨⟨?_, ?_, ?_, ?_, ?_⟩, ?_, ⟨_, rfl⟩⟩
  · have h : ∀ i, ((searching.cache.at i).way0.elim true fun e => cacheSetOf e.record.hid == i) = true ∧
        ((searching.cache.at i).way1.elim true fun e => cacheSetOf e.record.hid == i) = true := by decide +kernel
    intro i w e he
    cases w <;> (simp only [CacheSet.get] at he; have hi := h i; simp only [he] at hi) <;> simp_all
  · have h : ∀ i, (searching.cache.at i).way1 = none := by decide +kernel
    intro i e f _ hf
    rw [h i] at hf
    cases hf
  · decide +kernel
  · have h : ∀ c, (searching.reg.contexts.at c).elim true (fun x =>
        searching.sig.groups.contains ⟨x.hid, .searching c⟩) = true := by decide +kernel
    intro c x hx
    have := h c
    simp_all [searching]
  · decide +kernel
  · unfold State.WritesOk
    decide +kernel

theorem witness_LinksAgreeWithTheirState :
    running.ExchangeOk ∧ running.CellsOk ∧ ∃ t, step running = .next t := by
  refine ⟨⟨.inr rfl, fun h => absurd rfl h, by decide +kernel⟩, ?_, running_steps⟩
  intro c
  have h : ∀ c, (running.cells.at c).link.state = .up ∧ (running.cells.at c).link.silence.isSome = true ∧
      (running.cells.at c).testCount = 0 ∧ (running.cells.at c).returning = [] := by decide +kernel
  exact ⟨fun hq => absurd hq (by rw [(h c).1]; decide), by simp [h c], fun ht => absurd (h c).2.2.1 ht,
    fun hr => absurd (h c).2.2.2 hr⟩

/-- A message of the greatest length, and a fill frame. -/
theorem witness_EveryFrameIsReadBack :
    classAllows (classOf Kind.mgmt) (List.replicate 240 (0 : Byte)).length = true ∧
      classAllows (classOf fillFrame.kind) fillFrame.body.length = true := by decide +kernel

theorem witness_EveryRecordIsReadBack :
    Memory.wf (writeRecord [] ⟨2047, 3⟩ (attached 23)) = true ∧ (attached 0).hid ≠ 0 ∧
      ((attached 0).location.isSome = true ↔ (attached 0).attach = .attached) ∧ (⟨2047, 3⟩ : RecAddr) ≠ addrA := by
  decide +kernel

theorem witness_EstimateMovesTowardItsSample : (1 : Nat) ≤ 16 ∧ (16 : Nat) ≤ 16 ∧ (4032 : Nat) ≤ 4032 ∧ (0 : Nat) ≤ 4032 := by
  decide

/-! ### Witnesses: links -/

/-- Cell 3 in LOOP, its test running. -/
def looped : State :=
  live.modCell 3 fun u => { u with link := { u.link with state := .loop, silence := none }, testCount := 20 }

/-- Cell 3 in LOOP once it has sent a test frame, which is to return. -/
def sentLooped : State := looped.modCell 3 fun u => { u with returning := [testFrame 20] }

/-- R151: the frame whose sending ends in LOOP is to return, and counts when it does; a run with no frame sent changes
nothing. -/
theorem test_loop_returns :
    let sending := looped.modCell 3 fun u => { u with link := { u.link with sending := some (testFrame 20) } }
    (after (.frameSendEnd (.cell 3)) sending).map (fun t => (t.cells.at 3).returning) = some [testFrame 20] ∧
    (after (.loopedFrameReturn 3 (testFrame 20).run) sentLooped).map (fun t =>
      ((t.cells.at 3).link.counters.looped, (t.cells.at 3).returning)) = some (1, []) ∧
    (after (.loopedFrameReturn 3 (testFrame 20).run) looped).map (fun t =>
      (t.cells.at 3).link.counters.looped) = some 0 := by decide +kernel

/-- A DOWN link and an UP link, one in LOOP, and one there whose frame is to return; a fill frame, a test frame, and a run
of each failure. -/
theorem witness_RunsActOnTheirLink :
    ((State.reset.unit .exchange).state = .down ∧ (live.unit (.cell 23)).state = .up ∧
      (looped.cells.at 3).link.state = .loop ∧ (looped.cells.at 3).returning = []) ∧
    ((sentLooped.cells.at 3).link.state = .loop ∧ (sentLooped.cells.at 3).returning = testFrame 20 :: [] ∧
      classAllows (classOf (testFrame 20).kind) (testFrame 20).body.length = true) ∧
    (judge [0x7E, 0, 0, 0, 0] = .valid fillFrame ∧ fillFrame.kind = Kind.fill) ∧
    (judge (testFrame 20).run = .valid (testFrame 20) ∧ (testFrame 20).kind ≠ Kind.fill) ∧
    judge [] = .framingError ∧ judge [0x7E, 0, 0, 0, 1] = .checkError := by decide +kernel

/-- A link with room, and one whose FIFO is full. -/
theorem witness_SignallingMessageJoinsTheFifo :
    ((live.unit (.cell 0)).state = .down ∨ (live.unit (.cell 0)).state = .up) ∧
      judge (seizeFrame 11 3 63).run = .valid (seizeFrame 11 3 63) ∧
      isSignallingKind (.cell 0) (seizeFrame 11 3 63).kind = true ∧
      (live.unit (.cell 0)).rxFifo.length < 8 ∧
      ¬((live.modUnit .exchange fun u => { u with rxFifo := List.replicate 16 fillFrame }).unit .exchange).rxFifo.length
        < 16 := by decide +kernel

theorem witness_ManagementRequestJoinsTheQueue :
    (live.exch.link.state = .down ∨ live.exch.link.state = .up) ∧
      (judge (Frame.run ⟨Kind.mgmt, [7, 0x30]⟩) = .valid ⟨Kind.mgmt, [7, 0x30]⟩ ∧ live.mgmt.queue.length < 4) ∧
      4 ≤ ({ live with mgmt := { live.mgmt with queue := List.replicate 4 ⟨0, 0, []⟩ } } : State).mgmt.queue.length ∧
      (judge (Frame.run ⟨Kind.mgmt, [7]⟩) = .valid ⟨Kind.mgmt, [7]⟩ ∧ [(7 : Byte)].length < 2) := by decide +kernel

/-- Uplink tag 12, and tag 11 with level 64; downlink tag 192; the PROTOCOL kind disabled, a link's limit mark set and
clear, and a capture queue with room and full. -/
theorem witness_VoiceFrameOutOfRangeIsDiscarded :
    let newest : Capture := ⟨.exchangeLost, 0, false, {}⟩
    let unmade : State := { live with attn := { live.attn with captureEnables := { live.attn.captureEnables with protocol := false } } }
    let crowded : State := { live with attn := { live.attn with captures := List.replicate 4 newest } }
    (∀ s ∈ [live, unmade, crowded, live.setLimit (.cell 23) true, live.setLimit .exchange true],
      (s.cells.at 23).link.state = .up ∧ s.exch.link.state = .up) ∧
    (unmade.attn.captureEnables.protocol = false ∧ (live.setLimit (.cell 23) true).limit (.cell 23) = true ∧
      (live.setLimit .exchange true).limit .exchange = true) ∧
    (∀ s ∈ [live, crowded], s.attn.captureEnables.protocol = true ∧ s.limit (.cell 23) = false ∧ s.limit .exchange = false) ∧
    (live.attn.captures.length < 4 ∧ crowded.attn.captures = List.replicate 3 newest ++ [newest] ∧
      4 ≤ crowded.attn.captures.length) ∧
    (judge (voiceFrame 192 0 0).run = .valid (voiceFrame 192 0 0) ∧
      voiceOf (voiceFrame 192 0 0).body = some (voiceOfFrame 192 0 0) ∧ 191 < (voiceOfFrame 192 0 0).tag.toNat) ∧
      (judge (voiceFrame 12 0 63).run = .valid (voiceFrame 12 0 63) ∧ (voiceFrame 12 0 63).kind = Kind.voice ∧
        voiceOf (voiceFrame 12 0 63).body = some (voiceOfFrame 12 0 63) ∧ 12 ≤ (voiceOfFrame 12 0 63).tag.toNat) ∧
      (judge (voiceFrame 11 0 64).run = .valid (voiceFrame 11 0 64) ∧ (voiceFrame 11 0 64).kind = Kind.voice ∧
        voiceOf (voiceFrame 11 0 64).body = some (voiceOfFrame 11 0 64) ∧ (voiceOfFrame 11 0 64).tag.toNat < 12 ∧
        63 < (voiceOfFrame 11 0 64).level.toNat) := by
  decide +kernel

/-- The expected sequence is 50: 177 is the last number ahead, 178 the first that is late; and a leg with none. -/
theorem witness_ActiveUplinkFrameIsForwarded :
    ((liveActive.cells.at 0).link.state = .down ∨ (liveActive.cells.at 0).link.state = .up) ∧
      (judge (voiceFrame 0 177 63).run = .valid (voiceFrame 0 177 63) ∧ (voiceFrame 0 177 63).kind = Kind.voice ∧
        voiceOf (voiceFrame 0 177 63).body = some (voiceOfFrame 0 177 63) ∧ (voiceOfFrame 0 177 63).tag.toNat = 0 ∧
        (voiceOfFrame 0 177 63).level.toNat ≤ 63) ∧
      (liveActive.bearer 0 0 = .serving 191 ∧ (liveActive.callOf 191).state = .active ∧
        (liveActive.callOf 191).serving = some legS ∧ legS.expected = some 50) ∧
      ((177 : Seq) - 50).toNat < 128 ∧ 128 ≤ ((178 : Seq) - 50).toNat ∧
      judge (voiceFrame 0 178 63).run = .valid (voiceFrame 0 178 63) ∧
      (((live |> withCall 191 { active with serving := some { legS with expected := none } }).callOf 191).serving.bind
        Leg.expected) = none := by decide +kernel

/-- A BRIDGED call whose next emission commits by dwell. -/
def committing : State :=
  liveBridged.modCall 191 fun r =>
    { r with
      dwell := 7, candidate := some { legC with q := 4000 }
      window := some ⟨some 50, #v[⟨none, some (stored 2560), some 5⟩, .vacant, .vacant, .vacant]⟩ }

/-- A FREE and a RELEASING bearer; and from the legs of a bridge whose base is 50 and whose slot 0 holds a serving frame:
the first late number, a duplicate, the last slot, the frame that completes slot 0, and the first number past the window,
with the call still BRIDGED after the emission, ACTIVE on the frame's leg, and ACTIVE on the other leg. -/
theorem witness_BridgedUplinkFrameIsPlaced :
    let frames (q : Byte) : Prop := judge (voiceFrame 11 q 63).run = .valid (voiceFrame 11 q 63) ∧
      voiceOf (voiceFrame 11 q 63).body = some (voiceOfFrame 11 q 63) ∧ (voiceOfFrame 11 q 63).tag.toNat = 11
    let win : Window := ⟨some 50, #v[⟨some (stored 2560), none, some 5⟩, .vacant, .vacant, .vacant]⟩
    let next (s : State) (est : Nat × Nat) : State := State.emissions 191 est 1 s
    (frames 50 ∧ frames 53 ∧ frames 54 ∧ frames 177 ∧ frames 178) ∧
    (live.bearer 23 11 = .free ∧ (live.setBearer 23 11 (.releasing 191)).bearer 23 11 = .releasing 191) ∧
    (liveBridged.bearer 0 0 = .serving 191 ∧ liveBridged.bearer 23 11 = .candidate 191 ∧
      (liveBridged.callOf 191).state = .bridged ∧ (liveBridged.callOf 191).serving = some legS ∧
      (liveBridged.callOf 191).candidate = some legC ∧ (liveBridged.callOf 191).window = some win ∧
      (win.slots.at 0).full = false ∧ (win.slots.at 1).full = false) ∧
    (128 ≤ ((178 : Seq) - 50).toNat ∧ ((177 : Seq) - 50).toNat < 128 ∧ 4 ≤ ((54 : Seq) - 50).toNat ∧
      ((53 : Seq) - 50).toNat < 4) ∧
    (((win.slots.at 0).of .serving).isSome = true ∧ (win.slots.at 0).of .candidate = none ∧
      (win.slots.at 3).of .serving = none) ∧
    (((next liveBridged (2000, 2100)).callOf 191).state = .bridged ∧
      ((next liveBridged (2000, 2100)).callOf 191).window.isSome = true) ∧
    ((committing.callOf 191).state = .bridged ∧ ((next committing (2000, 4000)).callOf 191).state = .active ∧
      (next committing (2000, 4000)).bearer 23 11 = .serving 191 ∧
      ((next committing (2000, 4000)).callOf 191).serving.bind Leg.expected = some 51 ∧
      (next committing (2000, 4000)).bearer 0 0 ≠ .serving 191) := by
  refine ⟨?_, by decide +kernel, ?_, by decide +kernel, by decide +kernel, by decide +kernel, by decide +kernel⟩ <;>
    decide +kernel

/-- Both legs of the bridge at miss runs as given, slot 0 of the window as given. -/
def missed (serving candidate : Nat) (slot : MergeSlot) (hold : Nat) : State :=
  let s := liveBridged.modCall 191 fun r =>
    { r with
      serving := some { legS with miss := serving }, candidate := some { legC with miss := candidate }
      window := some ⟨some 50, #v[slot, .vacant, .vacant, .vacant]⟩ }
  { s with tables := { s.tables with timing := { s.tables.timing with hold } } }

/-- R131, R112: an emission at which both miss runs reach L = 12, with a hold time and without. -/
theorem test_emission_loses :
    ((missed 11 11 .vacant 50).emit 191 (2000, 2100) |>.callOf 191).state = .holding ∧
      ((missed 11 11 .vacant 0).emit 191 (2000, 2100) |>.callOf 191).state = .free ∧
      ((missed 10 11 .vacant 50).emit 191 (2000, 2100) |>.callOf 191).serving.map Leg.cell = some 0 := by decide +kernel

/-- An emission after which no commit is due, and one that commits by dwell at T = 1; and the miss run that reaches L at
the candidate alone, at the serving leg alone, and at both, with a hold time and without. -/
theorem witness_EmissionMovesBothLegs :
    ((liveBridged.callOf 191).state = .bridged ∧ (liveBridged.callOf 191).serving = some legS ∧
      (liveBridged.callOf 191).candidate = some legC ∧ ((liveBridged.callOf 191).window.bind Window.base) = some 50 ∧
      legS.miss + 1 < (liveBridged.callOf 191).profile.l ∧ legC.miss + 1 < (liveBridged.callOf 191).profile.l ∧
      ¬(updateEstimate 4 2000 2560 + 192 ≤ updateEstimate 4 2100 0) ∧ ¬(updateEstimate 4 2000 2560 < 1280) ∧
      (liveBridged.callOf 191).profile.t ≠ 0) ∧
    (updateEstimate 4 2000 0 + 192 ≤ updateEstimate 4 2100 2560 ∧ (0 : Nat) + 1 = 1) ∧
    (updateEstimate 4 1300 0 < 1280 ∧ 1280 ≤ updateEstimate 4 2100 2560) ∧
    (∀ p ∈ [(0, 11, (⟨some (stored 2560), none, some 5⟩ : MergeSlot), 50), (11, 0, ⟨none, some (stored 2560), some 5⟩, 50),
        (11, 11, .vacant, 50), (11, 11, .vacant, 0)],
      let s := missed p.1 p.2.1 p.2.2.1 p.2.2.2
      (s.callOf 191).state = .bridged ∧ (s.callOf 191).serving = some { legS with miss := p.1 } ∧
      (s.callOf 191).candidate = some { legC with miss := p.2.1 } ∧ (s.callOf 191).profile.l = 12 ∧
      ((s.callOf 191).window.bind Window.base) = some 50 ∧ s.tables.timing.hold = p.2.2.2 ∧
      s.attn.captureEnables.legLost = true ∧ s.attn.captureEnables.callLost = true ∧
      s.attn.captureEnables.handoverAbandoned = true ∧ s.attn.captures.length + 2 ≤ 4) := by decide +kernel

theorem witness_DownlinkFrameIsCopiedToEachLeg :
    (live.exch.link.state = .down ∨ live.exch.link.state = .up) ∧
      (judge (voiceFrame 191 7 0).run = .valid (voiceFrame 191 7 0) ∧ (voiceFrame 191 7 0).kind = Kind.voice ∧
        voiceOf (voiceFrame 191 7 0).body = some (voiceOfFrame 191 7 0) ∧ (voiceOfFrame 191 7 0).tag.toNat = 191) ∧
      ((liveActive.callOf 191).state = .active ∧ (liveActive.callOf 191).serving = some legS) ∧
      ((liveBridged.callOf 191).state = .bridged ∧ (liveBridged.callOf 191).serving = some legS ∧
        (liveBridged.callOf 191).candidate = some legC) ∧
      ((live.callOf 191).state ≠ .active ∧ (live.callOf 191).state ≠ .bridged) := by decide +kernel

/-- A cell with frames in both queues, each queue's turn; an idle link; a test; the exchange, and the exchange idle; and a
frame that ends on a cell link in UP, on one in LOOP and on the exchange link. -/
theorem witness_FramesAreSentInTurn :
    let both (m : SendMark) := live.modCell 23 fun u =>
      { u with sigQueue := [clearFrame 0], voiceQueue := [voiceFrame 0 0 0], sendMark := m }
    (∀ m, ((both m).cells.at 23).link.state ≠ .off ∧ ((both m).cells.at 23).link.sending = none ∧
      ((both m).cells.at 23).sigQueue = [clearFrame 0] ∧ ((both m).cells.at 23).voiceQueue = [voiceFrame 0 0 0] ∧
      ((both m).cells.at 23).sendMark = m) ∧
    ((live.cells.at 0).sigQueue = [] ∧ (live.cells.at 0).voiceQueue = [] ∧ (live.cells.at 0).testCount = 0 ∧
      4 ≤ ((at' 4 live).timeBase - (live.cells.at 0).link.idleStart).toNat) ∧
    ((looped.cells.at 3).link.state = .loop ∧ (looped.cells.at 3).link.sending = none ∧
      (looped.cells.at 3).sigQueue = [] ∧ (looped.cells.at 3).voiceQueue = [] ∧ (looped.cells.at 3).testCount ≠ 0) ∧
    (running.exch.link.state ≠ .off ∧ running.exch.link.sending = none ∧ running.exch.txQueue = attentionFrame :: []) ∧
    ((at' 4 live).exch.link.state ≠ .off ∧ (at' 4 live).exch.link.sending = none ∧ (at' 4 live).exch.txQueue = [] ∧
      4 ≤ ((at' 4 live).timeBase - (at' 4 live).exch.link.idleStart).toNat) ∧
    (∀ s ∈ [live, sentLooped], ((s.modUnit (.cell 3) fun u => { u with sending := some fillFrame }).cells.at 3).link.sending =
      some fillFrame) ∧
    ((live.modUnit .exchange fun u => { u with sending := some fillFrame }).unit .exchange).sending = some fillFrame := by
  refine ⟨?_, by decide +kernel, by decide +kernel, by decide +kernel, by decide +kernel, by decide +kernel, by decide +kernel⟩
  intro m
  cases m <;> decide +kernel

theorem witness_SilentCellLinkLosesItsBearers :
    ((at' 16 running).cells.at 0).link.state = .up ∧ ((at' 16 running).cells.at 0).link.silence = some 16 ∧
      (at' 16 running).due 16 = true ∧ (at' 16 running).CallsOk ∧ (at' 16 running).BearersOk :=
  ⟨by decide +kernel, by decide +kernel, by decide +kernel, running_calls, running_bearers⟩

/-- A link that falls silent with an ACTIVE call, and with none. -/
theorem witness_SilentExchangeLinkEndsEveryCall :
    (∀ s ∈ [at' 16 letGo, at' 16 live], s.exch.link.state = .up ∧ s.exch.link.silence = some 16 ∧ s.due 16 = true ∧
      s.attn.captureEnables.exchangeLost = true ∧ s.attn.captures.length < 4) ∧
    ((at' 16 letGo).CallsOk ∧ (at' 16 letGo).BearersOk ∧ (at' 16 letGo).ReleasingOk) ∧
    ((at' 16 letGo).callOf 191).state = .active ∧ (∀ n, ((at' 16 live).callOf n).state = .free) := by
  refine ⟨by decide +kernel, ⟨running_calls, letGo_bearers, letGo_releasing⟩, by decide +kernel, by decide +kernel⟩

/-! ### Witnesses: signalling -/

/-- Nothing is parked or held: the first message of the round-robin is taken next. -/
theorem takes {s : State} {l : LinkId} {f : Frame} {m : Msg} (hs : s.sig = .reset) (hf : s.nextFrame = some (l, f))
    (hm : parseFrom l f = some m) : TakesNext s l f m :=
  ⟨by rw [hs]; rfl, by rw [hs]; rfl, by rw [hs]; decide, hf, hm, fun _ _ => by rw [hs]; rfl⟩

/-- A link whose capture may be made, one whose limit mark is set, and one with the kind disabled. -/
theorem witness_MalformedMessageIsDiscarded :
    let s := live |> inFifo (.cell 23) ⟨Kind.vacate, [12]⟩
    (s.sig.held = none ∧ s.sig.firstReady = none ∧ s.sig.parked.length < 8 ∧
      s.nextFrame = some (.cell 23, ⟨Kind.vacate, [12]⟩) ∧ parseFrom (.cell 23) ⟨Kind.vacate, [12]⟩ = none) ∧
    (s.attn.captureEnables.protocol = true ∧ s.limit (.cell 23) = false ∧ s.attn.captures.length < 4) ∧
    (s.setLimit (.cell 23) true).limit (.cell 23) = true := by decide +kernel

/-- ENROL of the first handset from cell 6. -/
def enrolFrame : Frame := ⟨Kind.enrol, hidBytes hidA ++ [63]⟩

/-- The write-through queue full of writes for other records, and one more on the port. -/
def full (s : State) : State :=
  { s with reg := { s.reg with
      writes := (List.range 16).map fun i => ⟨⟨BitVec.ofNat 11 i |>.toFin, 0⟩, recA⟩
      port := some (.writeThrough ⟨16, 0⟩ recA) } }

/-- Each of the three: the lookup NOT FOUND; a DETACHED record, one at the cell already, one elsewhere and a BARRED one,
with room for a write; and a full write-through queue at a busy port. -/
theorem witness_EnrolCampAndRetireChangeTheRecord :
    ∀ p ∈ [(enrolFrame, Msg.enrol hidA 63), (⟨Kind.camp, hidBytes hidA⟩, .camp hidA),
        (⟨Kind.retire, hidBytes hidA⟩, .retire hidA)],
      (TakesNext (State.reset |> inFifo (.cell 6) p.1) (.cell 6) p.1 p.2 ∧ State.reset.Finds hidA none) ∧
      ∀ r ∈ [recA, attached 6, attached 23, { recA with standing := .barred }],
        let s := live |> cached r |> inFifo (.cell 6) p.1
        (TakesNext s (.cell 6) p.1 p.2 ∧ s.Finds hidA (some ⟨r, addrA⟩) ∧ writeFits s.reg.writes addrA = true) ∧
        TakesNext (full s) (.cell 6) p.1 p.2 ∧ (full s).Finds hidA (some ⟨r, addrA⟩) ∧
          writeFits (full s).reg.writes addrA = false ∧ (full s).reg.port.isSome = true := by
  intro p hp
  simp only [List.mem_cons, List.not_mem_nil, or_false] at hp
  rcases hp with rfl | rfl | rfl
  all_goals
    refine ⟨⟨takes rfl (by decide +kernel) (by decide +kernel), by unfold State.Finds; decide +kernel⟩, ?_⟩
    intro r hr
    simp only [List.mem_cons, List.not_mem_nil, or_false] at hr
    rcases hr with rfl | rfl | rfl | rfl
    all_goals
      exact ⟨⟨takes rfl (by decide +kernel) (by decide +kernel), by unfold State.Finds; decide +kernel,
        by decide +kernel⟩, takes rfl (by decide +kernel) (by decide +kernel), by unfold State.Finds; decide +kernel,
        by decide +kernel, by decide +kernel⟩

/-- A miss with no group, with a context FREE and with none, and a miss whose group is parked. -/
theorem witness_MissedMessageIsParked :
    let s := live |> inFifo (.cell 6) enrolFrame
    let busy := { s with reg := { s.reg with contexts := Table.all 4 (some ⟨1, false, none, false⟩) } }
    let joined := { s with sig := { s.sig with
      parked := [⟨hidA, .cell 0, .camp hidA⟩], groups := [⟨hidA, .searching 0⟩] } }
    (Msg.enrol hidA 63).isEnrol = true ∧ (Msg.enrol hidA 63).hid = some hidA ∧
    (s.sig.held = none ∧ s.sig.firstReady = none ∧ s.sig.parked.length < 8 ∧
      s.nextFrame = some (.cell 6, enrolFrame) ∧ parseFrom (.cell 6) enrolFrame = some (.enrol hidA 63)) ∧
    (s.sig.groupOf hidA = none ∧ s.reg.format = .formatted ∧ s.entryOf hidA = none ∧ s.reg.freeContext = some 0 ∧
      s.sig.groups = []) ∧
    busy.reg.freeContext = none ∧
    (joined.sig.firstReady = none ∧ joined.sig.groupOf hidA = some ⟨hidA, .searching 0⟩) := by decide +kernel

/-- ENROL of the first handset parked, its group in the given phase. -/
def parkedAs (phase : GroupPhase) (s : State) : State :=
  { s with sig := { s.sig with parked := [⟨hidA, .cell 6, .enrol hidA 63⟩], groups := [⟨hidA, phase⟩] } }

/-- READY with NOT FOUND; with FOUND and the entry there, with room for the change and without; and with FOUND and no
entry, with a context FREE and with none. -/
theorem witness_ReadyMessageIsTakenFromParking :
    let m : Parked := ⟨hidA, .cell 6, .enrol hidA 63⟩
    let entry := live |> cached recA
    let busy (s : State) : State := { s with reg := { s.reg with contexts := Table.all 4 (some ⟨1, false, none, false⟩) } }
    (∀ found, ∀ s ∈ [live, entry, full entry, busy live],
      (parkedAs (.ready found) s).sig.held = none ∧
      (parkedAs (.ready found) s).sig.firstReady = some ⟨hidA, .ready found⟩ ∧
      (parkedAs (.ready found) s).sig.parked.find? (fun p => p.hid == hidA) = some m) ∧
    (m.msg.hid = some hidA ∧ m.msg.row = .enrol ∧ live.entryOf hidA = none) ∧
    (entry.entryOf hidA = some ⟨recA, addrA⟩ ∧ recA.standing = .permitted ∧ attached 6 ≠ recA ∧
      (actOf m.msg entry m.link m.msg (some recA)).record = some (attached 6)) ∧
    (writeFits entry.reg.writes addrA = true ∧ writeFits (full entry).reg.writes addrA = false ∧
      (full entry).reg.port.isSome = true) ∧
    (live.reg.freeContext = some 0 ∧ live.reg.format = .formatted ∧ (busy live).reg.freeContext = none) := by
  refine ⟨?_, by decide +kernel, by decide +kernel, by decide +kernel, by decide +kernel⟩
  intro found
  cases found <;> decide +kernel

/-- An ENROL held at a full write-through queue, a write-through on the port. -/
def heldBack (s : State) : State :=
  { full s with sig := { s.sig with held := some ⟨.cell 6, .enrol hidA 63⟩ } }

/-- A held message that waits; its entry there and gone, no context FREE; and FORMAT-REGISTRY at the head. -/
theorem witness_HeldMessageIsReleased :
    let s := heldBack (live |> cached recA)
    let gone : State := { heldBack live with
      reg := { (heldBack live).reg with contexts := Table.all 4 (some ⟨1, false, none, false⟩) } }
    ((∀ m, s.sig.held = some m → s.releasable m = false) ∧ ∃ t, step s = .next t) ∧
    ((∀ x ∈ [s, gone], x.sig.held = some ⟨.cell 6, .enrol hidA 63⟩ ∧ x.reg.port = some (.writeThrough ⟨16, 0⟩ recA) ∧
      x.reg.writes.tail.length = 15 ∧ x.reg.writes ≠ [] ∧ x.reg.pass = ⟨0, 0, 0, 0⟩) ∧
    (s.entryOf hidA = some ⟨recA, addrA⟩ ∧ queuedAt s.reg.writes addrA = none ∧ recA ≠ attached 6) ∧
    (gone.entryOf hidA = none ∧ gone.sig.groupOf hidA = none ∧ gone.reg.format = .formatted ∧
      gone.reg.freeContext = none)) ∧
    (asked 0x06 [] s).AtHead ⟨7, 0x06, []⟩ [] ∧ s.reg.format ≠ .formatting ∧ s.reg.sweep.isRunning = false ∧
      s.sig.groupOf hidA = none := by
  refine ⟨⟨?_, ⟨_, rfl⟩⟩, by decide +kernel, ⟨rfl, rfl⟩, by decide +kernel, by decide +kernel, by decide +kernel⟩
  intro m hm
  simp only [heldBack, Option.some.injEq] at hm
  subst hm
  decide +kernel

/-- The lookup NOT FOUND; a BARRED and a DETACHED record; a handset in a call; no circuit; and an origin accepted. -/
theorem witness_OriginMakesACallOrIsDenied :
    let f := seizeFrame 11 1 63
    let s (r : Record) := live |> cached r |> inFifo (.cell 23) f
    let m : Msg := .seize 11 hidA .origin 63
    (TakesNext (live |> inFifo (.cell 23) f |> fun s => { s with reg := State.reset.reg }) (.cell 23) f m ∧
      ({ live with reg := State.reset.reg } : State).Finds hidA none) ∧
    (∀ r ∈ [{ recA with standing := .barred }, recA, attached 0],
      TakesNext (s r) (.cell 23) f m ∧ (s r).Finds hidA (some ⟨r, addrA⟩) ∧ (s r).cellUp 23 = true ∧
        (s r).bearer 23 11 = .free) ∧
    ((s (attached 0)).findCall hidA = none ∧ (s (attached 0)).exchUp = true ∧
      (s (attached 0)).call.freeQueue = 0 :: (ascending 192).tail ∧ writeFits (s (attached 0)).reg.writes addrA = true) ∧
    (liveActive.findCall hidA).isSome = true := by
  refine ⟨⟨takes rfl (by decide +kernel) (by decide +kernel), by unfold State.Finds; decide +kernel⟩, ?_,
    ⟨by decide +kernel, by decide +kernel, by rfl, by decide +kernel⟩, by decide +kernel⟩
  intro r hr
  simp only [List.mem_cons, List.not_mem_nil, or_false] at hr
  rcases hr with rfl | rfl | rfl <;>
    exact ⟨takes rfl (by decide +kernel) (by decide +kernel), by unfold State.Finds; decide +kernel, by decide +kernel,
      by decide +kernel⟩

/-- A handset that is not paged, and one that is. -/
theorem witness_AnswerEndsThePage :
    let f := seizeFrame 11 2 63
    let m : Msg := .seize 11 hidA .answer 63
    let found : CacheEntry := ⟨attached 0, addrA⟩
    ∀ s ∈ [live |> cached (attached 0) |> inFifo (.cell 23) f,
        live |> withCall 191 paging |> cached (attached 0) |> inFifo (.cell 23) f],
      TakesNext s (.cell 23) f m ∧ s.cellUp 23 = true ∧ s.bearer 23 11 = .free ∧ s.Finds hidA (some found) ∧
        writeFits s.reg.writes found.addr = true ∧
        (s.findCall hidA = none ∨ s.findCall hidA = some 191 ∧ (s.callOf 191).state = .paging) := by
  intro f m found s hs
  simp only [List.mem_cons, List.not_mem_nil, or_false] at hs
  rcases hs with rfl | rfl <;>
    exact ⟨takes rfl (by decide +kernel) (by decide +kernel), by decide +kernel, by decide +kernel,
      by unfold State.Finds; decide +kernel, by decide +kernel, by decide +kernel⟩

/-- No call, and a call in each state that a move-in may find; an entry that is BARRED and a cell out of sync. -/
theorem witness_MoveInStartsABridge :
    let f := seizeFrame 5 3 63
    let m : Msg := .seize 5 hidA .moveIn 63
    let found : CacheEntry := ⟨attached 0, addrA⟩
    let s (r : CallRecord) := live |> withCall 191 r |> cached (attached 0) |> inFifo (.cell 22) f
    (∀ r ∈ [paging, bridged, holding, active],
      TakesNext (s r) (.cell 22) f m ∧ (s r).cellUp 22 = true ∧ (s r).bearer 22 5 = .free ∧
        (s r).Finds hidA (some found) ∧ writeFits (s r).reg.writes found.addr = true ∧
        (s r).findCall hidA = some 191 ∧ (s r).callOf 191 = r) ∧
    (live |> cached (attached 0) |> inFifo (.cell 22) f).findCall hidA = none ∧
    (holding.lastServing = some 0 ∧ active.serving = some legS) ∧
    ((live.tables.neighbours.at 0).at 22).of .standard = some 0 ∧
    (⟨none, none⟩ : NeighbourEntry).of .standard = none ∧
    ((live.cells.at 22).report.radio && (live.cells.at 22).report.sync) = true ∧
    ((⟨true, false, false⟩ : CellReport).radio && (⟨true, false, false⟩ : CellReport).sync) = false := by
  refine ⟨?_, by decide +kernel, by decide +kernel, by decide +kernel, by decide +kernel, by decide +kernel,
    by decide +kernel⟩
  intro r hr
  simp only [List.mem_cons, List.not_mem_nil, or_false] at hr
  rcases hr with rfl | rfl | rfl | rfl <;>
    exact ⟨takes rfl (by decide +kernel) (by decide +kernel), by decide +kernel, by decide +kernel,
      by unfold State.Finds; decide +kernel, by decide +kernel, by decide +kernel, by decide +kernel⟩

/-- SEIZE of each purpose from cell 0, slot 0: from a cell that is DOWN; on a RELEASING bearer, of a call in CLEARING and
not; on the bearer of an ACTIVE call's leg, for its own handset and for another; on a leg of its own BRIDGED call; and one
that is accepted at a full write-through queue. -/
theorem witness_SeizeFreesItsBearerFirst :
    let f (p : Byte) := seizeFrame 0 p 63
    let m (p : Purpose) : Msg := .seize 0 hidA p 63
    let found : CacheEntry := ⟨attached 0, addrA⟩
    let other : CallRecord := { active with hid := some 1500 }
    let s (t : State) (p : Byte) := t |> cached (attached 0) |> inFifo (.cell 0) (f p)
    let down := live.modCell 0 fun u => { u with link := { u.link with state := .down, silence := none } }
    let onOther := (live |> withCall 191 other).setBearer 0 0 (.serving 191)
    (∀ q ∈ [((1 : Byte), Purpose.origin), (2, .answer), (3, .moveIn)],
      ∀ t ∈ [down, live.setBearer 0 0 (.releasing 191), (live |> withCall 191 clearing).setBearer 0 0 (.releasing 191),
          liveActive, onOther, liveBridged],
        TakesNext (s t q.1) (.cell 0) (f q.1) (m q.2) ∧ (s t q.1).Finds hidA (some found) ∧
          writeFits (s t q.1).reg.writes found.addr = true) ∧
    (down.cellUp 0 = false ∧ live.cellUp 0 = true) ∧
    ((live.callOf 191).state ≠ .clearing ∧ ((live |> withCall 191 clearing).callOf 191).state = .clearing) ∧
    (0 < live.tables.timing.hold ∧ (liveActive.callOf 191).serving = some legS ∧ legS.cell = 0 ∧ legS.slot = 0 ∧
      (liveActive.callOf 191).hid = some hidA ∧ liveActive.findCall hidA = some 191 ∧ onOther.findCall hidA = none ∧
      (onOther.callOf 191).serving = some legS ∧ onOther.bearer 0 0 = .serving 191 ∧ onOther.call.freeQueue.head? = some 0 ∧
      (onOther |> withCall 40 paging).findCall hidA = some 40) ∧
    (((live.tables.neighbours.at 0).at 0).of .standard = some 0 ∧ (⟨none, none⟩ : NeighbourEntry).of .standard = none) ∧
    (liveBridged.findCall hidA = some 191 ∧ (liveBridged.callOf 191).state = .bridged ∧
      liveBridged.bearer 0 0 = .serving 191 ∧ liveBridged.bearer 23 11 = .candidate 191 ∧
      ¬(legS.cell = legC.cell ∧ legS.slot = legC.slot) ∧
      ((liveBridged.cells.at 0).report.radio && (liveBridged.cells.at 0).report.sync) = true) ∧
    ∀ t, t = full (live |> cached (attached 3) |> inFifo (.cell 0) (f 1)) →
      TakesNext t (.cell 0) (f 1) (m .origin) ∧ t.Finds hidA (some ⟨attached 3, addrA⟩) ∧
      (attached 3).locate 0 ≠ attached 3 ∧ writeFits t.reg.writes addrA = false ∧ t.reg.port.isSome = true ∧
      t.bearer 0 0 = .free ∧ t.findCall hidA = none ∧ t.exchUp = true ∧ t.call.freeQueue ≠ [] := by
  refine ⟨?_, by decide +kernel, by decide +kernel, by decide +kernel, by decide +kernel, by decide +kernel, ?_⟩
  · intro q hq t ht
    simp only [List.mem_cons, List.not_mem_nil, or_false] at hq ht
    rcases hq with rfl | rfl | rfl <;> rcases ht with rfl | rfl | rfl | rfl | rfl | rfl <;>
      exact ⟨takes rfl (by decide +kernel) (by decide +kernel), by unfold State.Finds; decide +kernel, by decide +kernel⟩
  · rintro t rfl
    exact ⟨takes rfl (by decide +kernel) (by decide +kernel), by unfold State.Finds; decide +kernel, by decide +kernel,
      by decide +kernel, by decide +kernel, by decide +kernel, by decide +kernel, by decide +kernel, by decide +kernel⟩

/-- A circuit in use, an unknown handset, one in a call, a DETACHED one, and an OFFER accepted. -/
theorem witness_OfferStartsAPageOrIsRefused :
    let f : Frame := ⟨Kind.offer, 191 :: hidBytes hidA⟩
    let m : Msg := .offer 191 hidA
    let s (r : Record) := live |> cached r |> inFifo .exchange f
    (∀ r ∈ [recA, attached 23],
      TakesNext (s r) .exchange f m ∧ (s r).exchUp = true ∧ (s r).Finds hidA (some ⟨r, addrA⟩) ∧
        ((s r).callOf 191).state = .free ∧ ((s r).findCall hidA).isSome = false) ∧
    ((attached 23).location = some 23 ∧ (s (attached 23)).cellUp 23 = true) ∧
    ((liveActive.callOf 191).state ≠ .free ∧ (liveActive.findCall hidA).isSome = true) ∧
    ({ live with reg := State.reset.reg } : State).Finds hidA none := by
  refine ⟨?_, by decide +kernel, by decide +kernel, by unfold State.Finds; decide +kernel⟩
  intro r hr
  simp only [List.mem_cons, List.not_mem_nil, or_false] at hr
  rcases hr with rfl | rfl <;>
    exact ⟨takes rfl (by decide +kernel) (by decide +kernel), by decide +kernel, by unfold State.Finds; decide +kernel,
      by decide +kernel, by decide +kernel⟩

/-- OFFER on an exchange link that is DOWN; the expiries of stages 1 and 2 of a page, with a zone, without one and with
no cell left; and an OFFER whose page cell is DOWN. -/
theorem witness_PageGoesOnToTheNextCells :
    let f : Frame := ⟨Kind.offer, 191 :: hidBytes hidA⟩
    let m : Msg := .offer 191 hidA
    let found : CacheEntry := ⟨attached 5, addrA⟩
    let zoned (s : State) : State := { s with tables := { s.tables with
      zones := s.tables.zones.put 0 ⟨0, 2⟩, zoneStore := s.tables.zoneStore.put 1 23 } }
    let unlinked := { live with cells := State.reset.cells }
    let partly := unlinked.modCell 23 fun u => { u with link := unitUp }
    let page (stage : PageStage) (s : State) : State :=
      at' 5 (s |> withCall 191 { paging with pageStage := some stage })
    let offered (s : State) : State := s |> cached (attached 5) |> inFifo .exchange f
    let cells (s : State) (summoned : List CellId) : List CellId :=
      ((s.tables.zoneCells 0).filter fun d => s.cellUp d && !summoned.contains d).eraseDups
    let every (s : State) : List CellId := ((ascending 24).filter fun d => s.cellUp d && d != 0).eraseDups
    let unsent : State := offered { live with exch := { live.exch with link := .reset .down } }
    (TakesNext unsent .exchange f m ∧ unsent.exchUp = false ∧ unsent.Finds hidA (some found)) ∧
    ((∀ s ∈ [zoned live, partly, unlinked], ∀ stage, ((page stage s).callOf 191).state = .paging ∧
      ((page stage s).callOf 191).stageTimer = some 5 ∧ (page stage s).due 5 = true ∧
      ((page stage s).callOf 191).hid = some hidA ∧ ((page stage s).callOf 191).pageCell = some 0 ∧
      ((page stage s).callOf 191).pageStage = some stage) ∧
      (cells (zoned live) [0] = [23] ∧ partly.tables.zoneCells 0 = [] ∧ every partly = [23] ∧ every unlinked = [])) ∧
    ∀ s ∈ [zoned partly, partly, unlinked],
      TakesNext (offered s) .exchange f m ∧ (offered s).exchUp = true ∧ (offered s).Finds hidA (some found) ∧
      ((offered s).callOf 191).state = .free ∧ (offered s).findCall hidA = none ∧ (attached 5).location = some 5 ∧
      (offered s).cellUp 5 = false := by
  refine ⟨⟨takes rfl (by decide +kernel) (by decide +kernel), by decide +kernel, by unfold State.Finds; decide +kernel⟩,
    ⟨?_, by decide +kernel⟩, ?_⟩
  · intro s hs stage
    simp only [List.mem_cons, List.not_mem_nil, or_false] at hs
    rcases hs with rfl | rfl | rfl <;> cases stage <;> decide +kernel
  · intro s hs
    simp only [List.mem_cons, List.not_mem_nil, or_false] at hs
    rcases hs with rfl | rfl | rfl <;>
      exact ⟨takes rfl (by decide +kernel) (by decide +kernel), by decide +kernel, by unfold State.Finds; decide +kernel,
        by decide +kernel, by decide +kernel, by decide +kernel, by decide +kernel⟩

/-- A FREE bearer; a RELEASING one, its call ACTIVE, CLEARING with another bearer and CLEARING with none; a leg of an
ACTIVE call, with a hold time and without; and each leg of a BRIDGED call. -/
theorem witness_VacateFreesTheBearer :
    let f : Frame := ⟨Kind.vacate, [0]⟩
    let vacate11 : Frame := ⟨Kind.vacate, [11]⟩
    let releasing (r : CallRecord) := (live |> withCall 191 r).setBearer 0 0 (.releasing 191)
    let unheld : State := { liveActive with tables := { liveActive.tables with timing := ⟨800, 1200, 2000, 0, 500⟩ } }
    (∀ s ∈ [live, releasing active, releasing clearing, (releasing clearing).setBearer 1 1 (.releasing 191), liveActive,
        unheld, liveBridged], TakesNext (s |> inFifo (.cell 0) f) (.cell 0) f (.vacate 0)) ∧
    TakesNext (liveBridged |> inFifo (.cell 23) vacate11) (.cell 23) vacate11 (.vacate 11) ∧
    live.bearer 0 0 = .free ∧
    ((releasing active).bearer 0 0 = .releasing 191 ∧ ((releasing active).callOf 191).state ≠ .clearing ∧
      ((releasing clearing).callOf 191).state = .clearing ∧
      ((releasing clearing).setBearer 1 1 (.releasing 191)).bearer 1 1 = .releasing 191) ∧
    (∀ d j, ¬(d = 0 ∧ j = 0) → (releasing clearing).bearer d j ≠ .releasing 191) ∧
    ((∀ s ∈ [liveActive, unheld], s.bearer 0 0 = .serving 191 ∧ (s.callOf 191).state = .active ∧
        (s.callOf 191).serving = some legS) ∧ legS.cell = 0 ∧ legS.slot = 0 ∧
      0 < liveActive.tables.timing.hold ∧ unheld.tables.timing.hold = 0 ∧
      liveActive.attn.captureEnables.legLost = true ∧ liveActive.attn.captures.length + 2 ≤ 4) ∧
    ((liveBridged.callOf 191).state = .bridged ∧ (liveBridged.callOf 191).serving = some legS ∧
      (liveBridged.callOf 191).candidate = some legC ∧ ¬(legS.cell = legC.cell ∧ legS.slot = legC.slot) ∧
      liveBridged.bearer 0 0 = .serving 191 ∧ liveBridged.bearer 23 11 = .candidate 191 ∧ legC.cell = 23 ∧
      legC.slot = 11) := by
  refine ⟨?_, takes rfl (by decide +kernel) (by decide +kernel), by decide +kernel, by decide +kernel,
    by decide +kernel, by decide +kernel, by decide +kernel⟩
  intro s hs
  simp only [List.mem_cons, List.not_mem_nil, or_false] at hs
  rcases hs with rfl | rfl | rfl | rfl | rfl | rfl | rfl <;> exact takes rfl (by decide +kernel) (by decide +kernel)

/-- A report of trouble at the candidate's cell of a bridge, and one that admits. -/
theorem witness_StateReportIsKept :
    (TakesNext (liveBridged |> inFifo (.cell 23) ⟨Kind.state, [1, 0, 1]⟩) (.cell 23) ⟨Kind.state, [1, 0, 1]⟩
      (.stateReport ⟨true, false, true⟩)) ∧
    (TakesNext (liveBridged |> inFifo (.cell 23) ⟨Kind.state, [1, 1, 0]⟩) (.cell 23) ⟨Kind.state, [1, 1, 0]⟩
      (.stateReport ⟨true, true, false⟩)) ∧
    ((liveBridged.callOf 191).state = .bridged ∧ (liveBridged.callOf 191).serving = some legS ∧
      (liveBridged.callOf 191).candidate = some legC ∧ legC.cell = 23) ∧
    legAt 23 (liveBridged.callOf 0).candidate = false := by
  refine ⟨takes rfl (by decide +kernel) (by decide +kernel), takes rfl (by decide +kernel) (by decide +kernel),
    by decide +kernel, by decide +kernel⟩

/-- RELAY on a serving, a candidate, a RELEASING and a FREE bearer; and for a circuit with and without a call. -/
theorem witness_RelaysAreForwarded :
    let up : Frame := ⟨Kind.relayCell, 0 :: List.replicate 64 0x31⟩
    let down : Frame := ⟨Kind.relayExch, [191]⟩
    (∀ s ∈ [live, live.setBearer 0 0 (.releasing 191), live.setBearer 0 0 (.candidate 191), liveActive],
      TakesNext (s |> inFifo (.cell 0) up) (.cell 0) up (.relayFromCell 0 (List.replicate 64 0x31))) ∧
    (∀ s ∈ [live, liveActive, liveBridged],
      TakesNext (s |> inFifo .exchange down) .exchange down (.relayFromExchange 191 [])) ∧
    (liveActive.bearer 0 0 = .serving 191 ∧ live.bearer 0 0 = .free) ∧
    ((liveActive.callOf 191).state = .active ∧ (liveActive.callOf 191).serving = some legS ∧
      (live.callOf 191).state ≠ .active ∧ (live.callOf 191).state ≠ .bridged) := by
  refine ⟨?_, ?_, by decide +kernel, by decide +kernel⟩
  all_goals
    intro s hs
    simp only [List.mem_cons, List.not_mem_nil, or_false] at hs
  · rcases hs with rfl | rfl | rfl | rfl <;> exact takes rfl (by decide +kernel) (by decide +kernel)
  · rcases hs with rfl | rfl | rfl <;> exact takes rfl (by decide +kernel) (by decide +kernel)

/-- END of a call in each state. -/
theorem witness_EndClearsTheCall :
    let f : Frame := ⟨Kind.endCall, [191]⟩
    let s (r : CallRecord) := live |> withCall 191 r |> inFifo .exchange f
    (∀ r ∈ [CallRecord.free .default, clearing, paging, active, bridged, holding],
      TakesNext (s r) .exchange f (.endCall 191) ∧ (s r).callOf 191 = r ∧
        (s r).exchUp = true ∧ (s r).exch.txQueue.length + 2 ≤ 64) ∧
    (active.serving = some legS ∧ active.candidate = none ∧ bridged.serving = some legS ∧
      bridged.candidate = some legC ∧ ¬(legS.cell = legC.cell ∧ legS.slot = legC.slot) ∧ holding.serving = none ∧
      holding.candidate = none) ∧
    ∀ c k, live.bearer c k ≠ .releasing 191 := by
  refine ⟨?_, by decide +kernel, by decide +kernel⟩
  intro r hr
  simp only [List.mem_cons, List.not_mem_nil, or_false] at hr
  rcases hr with rfl | rfl | rfl | rfl | rfl | rfl <;>
    exact ⟨takes rfl (by decide +kernel) (by decide +kernel), by decide +kernel, by decide +kernel, by decide +kernel⟩

/-! ### Witnesses: timers -/

/-- Each timer due at its expiry count, and not due one millisecond before. -/
theorem witness_CallTimersFreeTheCall :
    let s (r : CallRecord) := at' 5 (live |> withCall 191 r)
    ((s holding).callOf 191 = holding ∧ holding.holdTimer = some 5 ∧ (s holding).due 5 = true ∧
      (s holding).exchUp = true ∧ (s holding).attn.captureEnables.callLost = true) ∧
    ((s clearing).callOf 191 = clearing ∧ clearing.clearTimer = some 5 ∧ (s clearing).due 5 = true) ∧
    ((s paging).callOf 191 = paging ∧ paging.stageTimer = some 5 ∧ (s paging).due 5 = true ∧
      paging.pageStage = some .stage3) ∧
    (at' 4 live).due 5 = false := by decide +kernel

/-- The candidate ahead, as the estimates stand, and a tie, which keeps the serving leg. -/
theorem witness_BridgeTimerSettlesTheBridge :
    let tied := at' 5 (liveBridged.modCall 191 fun r => { r with candidate := some { legC with q := 2000 } })
    ((at' 5 liveBridged).callOf 191 = bridged ∧ bridged.state = .bridged ∧ bridged.bridgeTimer = some 5 ∧
      (at' 5 liveBridged).due 5 = true ∧ bridged.serving = some legS ∧ bridged.candidate = some legC ∧
      ¬(legS.cell = legC.cell ∧ legS.slot = legC.slot) ∧ legS.q < legC.q) ∧
    ((tied.callOf 191).state = .bridged ∧ ((tied.callOf 191).candidate.map Leg.q) = some legS.q ∧ tied.due 5 = true) ∧
    (live.cellUp legS.cell = true ∧ (live.cells.at legS.cell).sigQueue.length < 16 ∧
      live.attn.captureEnables.handoverAbandoned = true) := by decide +kernel

theorem witness_SilentLegIsLost :
    ((at' 120 liveActive).callOf 191 = active ∧ active.state = .active ∧ active.serving = some legS ∧
      (at' 120 liveActive).due legS.silence = true ∧ 0 < (at' 120 liveActive).tables.timing.hold ∧
      (⟨800, 1200, 2000, 0, 500⟩ : Timing).hold = 0) ∧
    ((at' 120 liveBridged).callOf 191 = bridged ∧ bridged.state = .bridged ∧ bridged.serving = some legS ∧
      bridged.candidate = some legC ∧ ¬(legS.cell = legC.cell ∧ legS.slot = legC.slot) ∧
      (at' 120 liveBridged).due legC.silence = true) := by decide +kernel

/-- A window with every slot's deadline set, slots 1 and 2 holding both frames: the deadlines of slots 0 to 3 due, and not
due; and, after slot 0, two slots that are complete. -/
theorem witness_HoldDeadlineEmitsItsSlot :
    let half : MergeSlot := ⟨some (stored 2560), none, some 5⟩
    let whole : MergeSlot := ⟨some (stored 2560), some (stored 2000), some 5⟩
    let win : Window := ⟨some 50, #v[half, whole, whole, half]⟩
    let s := liveBridged.modCall 191 fun r => { r with window := some win }
    ((s.callOf 191).state = .bridged ∧ (s.callOf 191).window = some win ∧ win.base = some 50) ∧
    (∀ k, (win.slots.at k).deadline = some 5) ∧ ((at' 5 s).due 5 = true ∧ (at' 4 s).due 5 = false) ∧
    (((ascending 4).drop 1).takeWhile fun j => (win.slots.at j).full) = [1, 2] ∧
    (((ascending 4).drop 4).takeWhile fun j => (win.slots.at j).full) = [] := by decide +kernel

/-- R130, R131: the deadline of slot 1 emits slots 0 and 1, and then slot 2, which is complete. -/
theorem test_deadline_of_slot_1 :
    let whole : MergeSlot := ⟨some (stored 2560), some (stored 2000), some 5⟩
    let s := liveBridged.modCall 191 fun r =>
      { r with window := some ⟨some 50, #v[.vacant, ⟨some (stored 2560), none, some 5⟩, whole, .vacant]⟩ }
    (after (.holdDeadlineExpiry 191 1) (at' 5 s)).map (fun t => ((t.callOf 191).window.bind Window.base,
      t.exch.txQueue.length)) = some (some 53, 2) := by decide +kernel

/-! ### Witnesses: registry and cache -/

/-- A requester chosen with W and B waiting: B is overdue in the second state. -/
theorem witness_PortIsGrantedByPriority :
    let s : State := { live with reg := { live.reg with writes := [⟨addrA, recA⟩], sweep := .running .stale 0 0 .reading } }
    let late : State := { s with reg := { s.reg with pass := ⟨0, 0, 0, 8⟩ } }
    s.chosen = some .w ∧ late.chosen = some .b ∧ live.chosen = none ∧ s.reg.port = none ∧
      (s.setPort (some (.orphanRead 0))).reg.port ≠ none := by decide +kernel

/-- An update whose slot has a queued write, a valid entry only, and neither; an insert; and a delete. -/
theorem witness_PortIsGrantedByPriority_image :
    let r := { recA with seen := true }
    let m (x : MgmtOp) (s : State) : State := { s |> asked 0x02 [] with
      mgmt := { (s |> asked 0x02 []).mgmt with op := some x } }
    let update : MgmtOp := ⟨.write hidA .barred .vehicle, .write addrA recA false, none⟩
    let insert : MgmtOp := ⟨.write hidA .barred .vehicle, .write addrA recA true, none⟩
    let delete : MgmtOp := ⟨.delete hidA, .write addrA recA false, none⟩
    let queued : State := { live with reg := { live.reg with writes := [⟨addrA, r⟩], pass := ⟨0, 0, 8, 0⟩ } }
    (∀ x ∈ [update, insert, delete], ∀ s ∈ [queued, live |> cached r, live],
      (m x s).chosen = some .m ∧ (m x s).reg.port = none ∧ (m x s).mgmt.op = some x) ∧
    (queuedAt queued.reg.writes addrA).isSome = true ∧
    (queuedAt live.reg.writes addrA = none ∧ (live |> cached r).entryAt addrA = some ⟨r, addrA⟩ ∧
      live.entryAt addrA = none) := by decide +kernel

/-- A sweep's next write, its slot's image still the HID that was read, and no longer; with more writes to come and none. -/
theorem witness_PortIsGrantedByPriority_sweep :
    let s (b last : BucketId) (todo : List SweepWrite) (list : List SweepEntry) : State := { live with
      reg := { live.reg with sweep := .running .stale b last (.writing (Table.all 4 (attached 3)) todo) }
      mgmt := { live.mgmt with sweepList := list } }
    (∀ x ∈ [s 698 700 [⟨1, hidA⟩] [], s 698 700 [⟨1, 3⟩, ⟨2, hidA⟩] [], s 698 698 [⟨1, 3⟩] [],
        s 698 700 [⟨1, 3⟩] (List.replicate 32 ⟨1, none⟩), s 698 700 [⟨1, 3⟩] []],
      x.reg.port = none ∧ x.chosen = some .b ∧ x.reg.format ≠ .formatting) ∧
    ((Table.all 4 (attached 3)).at (1 : RegSlot)).hid = hidA ∧ hidA ≠ 3 := by decide +kernel

/-- The alternate read finds the record in slot 1, and finds nothing past a damaged slot; the primary read finds nothing;
a stale search; and a second group that asks while every other context is taken. -/
theorem witness_SearchReadInstallsTheRecord :
    let x : Search := ⟨hidA, true, none, false⟩
    let mem := writeRecord [] addrA recA
    let hurt := Memory.writeAll [] addrA.base [0, 1]
    let s (mem : List Host.Cell) (b : BucketId) (x : Search) (more : List Group) : State := { live with
      reg := { live.reg with
        mem, port := some (.searchRead 3 b)
        contexts := Table.put (Table.all 4 (some ⟨1, false, none, false⟩)) 3 (some x) }
      sig := { live.sig with
        parked := ⟨hidA, .cell 0, .camp hidA⟩ :: more.map fun g => ⟨g.hid, .cell 1, .camp g.hid⟩
        groups := ⟨hidA, .searching 3⟩ :: more } }
    (∀ mem b x more, (s mem b x more).reg.port = some (.searchRead 3 b) ∧ (s mem b x more).reg.contexts.at 3 = some x ∧
      (s mem b x more).sig.held = none) ∧
    (scanBucket mem hidA 698 none = ⟨some (addrA, recA), none⟩ ∧ scanBucket [] hidA 15 none = ⟨none, none⟩ ∧
      scanBucket hurt hidA 698 none = ⟨none, some addrA⟩ ∧ scanBucket [] hidA 698 none = ⟨none, none⟩) ∧
    ((∀ g ∈ (s mem 698 x []).sig.groups, g.hid ≠ hidA → g.phase.asks = false) ∧ (s mem 698 x []).entryOf hidA = none) ∧
    ((s [] 698 x [⟨1500, .awaiting⟩]).sig.firstAsking = some 1500 ∧ (1500 : Hid) ≠ hidA ∧
      (s [] 698 x [⟨1500, .awaiting⟩]).reg.format = .formatted ∧
      ∀ d, d ≠ 3 → (s [] 698 x [⟨1500, .awaiting⟩]).reg.contexts.at d ≠ none) ∧
    ({ x with stale := true } : Search).stale = true ∧ live.attn.captureEnables.registryDamaged = true := by
  refine ⟨fun _ _ _ _ => ⟨rfl, ?_, rfl⟩, by decide +kernel, by decide +kernel, by decide +kernel, by decide +kernel,
    by decide +kernel⟩
  simp

/-- Each write, and a read without a requester, on the port; a slot that held a record, an empty and a damaged one; a search for its HID; a group READY with NOT
FOUND for its HID, with a context FREE and with none; and a sweep whose write is on the port. -/
theorem witness_RecordWritesReachMemory :
    let s (c : Option Search) (phase : GroupPhase) : State := { live with
      reg := { live.reg with
        mem := writeRecord [] addrA recA, contexts := (Table.all 4 (some ⟨1500, false, none, false⟩)).put 2 c
        sweep := .running .stale 698 698 (.writing (Table.all 4 recA) [⟨1, hidA⟩]) }
      sig := { live.sig with parked := [⟨hidA, .cell 6, .enrol hidA 63⟩], groups := [⟨hidA, phase⟩] } }
    let searching := s (some ⟨hidA, true, none, false⟩) (.searching 2)
    let free := s none (.ready false)
    let taken := s (some ⟨1500, false, none, false⟩) (.ready false)
    (∀ op ∈ [PortOp.writeThrough addrA recA, .mgmtWrite addrA recA, .emptyWrite addrA, .formatWrite ⟨2047, 3⟩,
        .sweepWrite addrA recA, .orphanWrite addrA recA, .orphanRead 2047], ∀ x ∈ [live, searching, free, taken],
      (onPort op x).reg.port = some op ∧ (onPort op x).sig.held = none) ∧
    (slotView searching.reg.mem addrA = .occupied recA ∧ slotView live.reg.mem addrA = .empty ∧
      slotView (Memory.writeAll [] addrA.base [0, 1]) addrA = .damaged ∧ hidA ∈ [recA.hid]) ∧
    searching.reg.contexts.at 2 = some ⟨hidA, true, none, false⟩ ∧
    (free.reg.freeContext = some 2 ∧ taken.reg.freeContext = none ∧ free.reg.format = .formatted) ∧
    (⟨hidA, .ready false⟩ ∈ free.sig.groups ∧ ∀ x ∈ free.sig.groups, x.phase.asks = false ∧ x = ⟨hidA, .ready false⟩) ∧
    (⟨hidA, .cell 6, .enrol hidA 63⟩ : Parked) ∈ free.sig.parked ∧
    free.reg.sweep = .running .stale 698 698 (.writing (Table.all 4 recA) [⟨1, hidA⟩]) := by
  refine ⟨?_, by decide +kernel, by decide +kernel, by decide +kernel, by decide +kernel, by decide +kernel,
    by decide +kernel⟩
  decide +kernel

theorem witness_WritesReachTheCacheEntry :
    let op : MgmtOp := ⟨.write hidA .barred .vehicle, .write addrA recA false, none⟩
    let s : State := { live |> asked 0x02 [] with
      reg := { live.reg with port := some (.mgmtWrite addrA (recA.managed .barred .vehicle)) } }
    let t : State := { s with mgmt := { s.mgmt with op := some op } }
    let image : Table Record 4 := Table.all 4 recA
    let sw : State := { live with reg := { live.reg with
      port := some (.sweepWrite addrA recA), sweep := .running .stale 698 698 (.writing image [⟨1, hidA⟩]) } }
    (t.reg.port = some (.mgmtWrite addrA (recA.managed .barred .vehicle)) ∧ t.mgmt.op = some op ∧
      t.mgmt.queue = [⟨7, 0x02, []⟩]) ∧
    (sw.reg.port = some (.sweepWrite addrA recA) ∧
      sw.reg.sweep = .running .stale 698 698 (.writing image [⟨1, hidA⟩]) ∧ sw.sig.held = none) ∧
    (∀ op ∈ [PortOp.writeThrough ⟨698, 2⟩ recA, .mgmtWrite ⟨698, 2⟩ recA, .emptyWrite ⟨698, 2⟩],
      (onPort op sw).reg.port = some op ∧ (onPort op sw).reg.sweep = sw.reg.sweep ∧ (onPort op sw).sig.held = none) ∧
    (((image.put 2 recA).at 1).hid = hidA ∧ ((image.put 2 .empty).at 1).hid = hidA) := by decide +kernel

/-- A sweep's write with the range not done, a full list, or writes after it; and a management image of the slot that a
write-through or a sweep write completes on. -/
theorem witness_WritesReachTheCacheEntry_images :
    let image : Table Record 4 := Table.all 4 recA
    let sw (todo : List SweepWrite) (list : List SweepEntry) : State := { live with
      reg := { live.reg with
        port := some (.sweepWrite addrA recA), sweep := .running .moved 698 700 (.writing image todo) }
      mgmt := { live.mgmt with sweepList := list } }
    let op : MgmtOp := ⟨.delete hidA, .write addrA recA false, none⟩
    let m (p : PortOp) : State := { onPort p live with mgmt := { live.mgmt with op := some op } }
    (∀ list ∈ [[], List.replicate 32 ⟨1, none⟩], (sw [⟨1, hidA⟩] list).reg.port = some (.sweepWrite addrA recA) ∧
      (sw [⟨1, hidA⟩] list).mgmt.sweepList = list ∧ (sw [⟨1, hidA⟩] list).sig.held = none) ∧
    ((698 : BucketId) ≠ 700 ∧ (sw [⟨1, hidA⟩, ⟨3, hidA⟩] []).reg.sweep =
      .running .moved 698 700 (.writing image [⟨1, hidA⟩, ⟨3, hidA⟩]) ∧ (image.at 3).hid = hidA) ∧
    ∀ p ∈ [PortOp.writeThrough addrA (attached 3), .sweepWrite addrA (attached 3)],
      (m p).reg.port = some p ∧ (m p).mgmt.op = some op ∧ (m p).sig.held = none := by decide +kernel

/-- A READ-RECORD that finds its record; a primary and an alternate read that do not, with room to insert and with none,
past a damaged slot; and a sweep of a bucket that is empty, that makes writes, and that does not fit. -/
theorem witness_BucketReadsDeliver :
    let found := writeRecord [] addrA recA
    let filled := (ascending 4).foldl (fun mem k =>
      writeRecord (writeRecord mem ⟨15, k⟩ { recA with hid := 1 }) ⟨698, k⟩ { recA with hid := 1 }) []
    let hurt := Memory.writeAll filled addrA.base [0, 1]
    let s (mem : List Host.Cell) (b : BucketId) (job : MgmtJob) (stage : MgmtStage) : State :=
      { live |> asked 0x01 (hidBytes hidA) with
        reg := { live.reg with mem, port := some (.mgmtRead b) }
        mgmt := { (live |> asked 0x01 (hidBytes hidA)).mgmt with op := some ⟨job, stage, none⟩ } }
    let sw (mem : List Host.Cell) (b : BucketId) (list : List SweepEntry) : State := { live with
      reg := { live.reg with mem, port := some (.sweepRead b), sweep := .running .moved b 2047 .reading }
      mgmt := { live.mgmt with sweepList := list } }
    let moved := writeRecord [] addrA (attached 3)
    let entries (mem : List Host.Cell) := (decideBucket mem .moved 698).filterMap Decision.entry
    let writes (mem : List Host.Cell) := (decideBucket mem .moved 698).filterMap Decision.write
    (∀ mem b job stage, (s mem b job stage).reg.port = some (.mgmtRead b) ∧
      (s mem b job stage).mgmt.op = some ⟨job, stage, none⟩ ∧ (s mem b job stage).mgmt.queue = [⟨7, 0x01, hidBytes hidA⟩] ∧
      (s mem b job stage).sig.held = none) ∧
    (scanBucket found hidA 698 none = ⟨some (addrA, recA), none⟩ ∧ scanBucket found hidA 15 none = ⟨none, none⟩ ∧
      scanBucket filled hidA 698 none = ⟨none, none⟩ ∧ scanBucket hurt hidA 698 none = ⟨none, some addrA⟩) ∧
    (firstEmpty found 15 = some 0 ∧ firstEmpty filled 15 = none ∧ firstEmpty filled 698 = none) ∧
    (∀ mem b list, (sw mem b list).reg.port = some (.sweepRead b) ∧
      (sw mem b list).reg.sweep = .running .moved b 2047 .reading ∧ (sw mem b list).sig.held = none) ∧
    ((entries []).length = 0 ∧ writes [] = [] ∧ (entries moved).length = 1 ∧ writes moved ≠ [] ∧
      (List.replicate 31 (⟨1, none⟩ : SweepEntry) ++ entries moved).length = 32 ∧
      32 < (List.replicate 32 (⟨1, none⟩ : SweepEntry) ++ entries moved).length) := by
  refine ⟨fun _ _ _ _ => ⟨rfl, rfl, rfl, rfl⟩, by decide +kernel, by decide +kernel, fun _ _ _ => ⟨rfl, rfl, rfl⟩,
    by decide +kernel⟩

/-! ### Witnesses: management -/

theorem atHead (c : Byte) (o : List Byte) : (asked c o live).AtHead ⟨7, c, o⟩ [] := ⟨rfl, rfl⟩

/-- Each record request with operands in range, at a FORMATTED and an UNFORMATTED registry, and with operands of a wrong
length or just out of range; a hit and a miss; a watch that names the HID and none; and a held message that waits at a
busy port. -/
theorem witness_RecordRequestsBeginOrAreRefused :
    ((∀ c o, (asked c o live).AtHead ⟨7, c, o⟩ []) ∧ (∀ c o, (asked c o live).KeepsHeld) ∧ live.reg.format = .formatted) ∧
    ((∀ c o, (asked c o State.reset).AtHead ⟨7, c, o⟩ []) ∧ (∀ c o, (asked c o State.reset).KeepsHeld) ∧
      State.reset.reg.format ≠ .formatted) ∧
    (heldBack live).KeepsHeld ∧
    (readHidOperand (hidBytes hidA) = some hidA ∧ (live |> cached recA).entryOf hidA = some ⟨recA, addrA⟩ ∧
      live.entryOf hidA = none) ∧
    readWriteOperands (hidBytes hidA ++ [1, 1]) = some (hidA, .barred, .vehicle) ∧
    ((live.setWatch (some ⟨addrA, hidA⟩)).mgmt.watch = some ⟨addrA, hidA⟩ ∧ live.mgmt.watch = none) ∧
    (readSlotOperands [0x07, 0xFF, 3] = some ⟨2047, 3⟩ ∧ readSweepOperands [1, 0, 0, 8, 0] = some (.stale, 0, 2047)) ∧
    ([(1 : Byte)].length ≠ 5 ∧ (∀ b ∈ ([0, 0, 0, 0, 0] : List Byte).take 5, b = 0) ∧
      ¬(∀ b ∈ (hidBytes hidA).take 5, b = 0)) ∧
    (∀ o ∈ [hidBytes 0 ++ [0, 0], hidBytes hidA ++ [2, 0], hidBytes hidA ++ [0, 2], []], readWriteOperands o = none) ∧
    ∀ o ∈ [[(8 : Byte), 0, 0], [0x07, 0xFF, 4], [0, 0]], readSlotOperands o = none := by
  refine ⟨⟨atHead, fun _ _ => .inl rfl, by decide +kernel⟩,
    ⟨fun _ _ => ⟨rfl, rfl⟩, fun _ _ => .inl rfl, by decide +kernel⟩, .inr ⟨rfl, ?_⟩, by decide +kernel, by decide +kernel,
    by decide +kernel, by decide +kernel, by decide +kernel, by decide +kernel, by decide +kernel⟩
  intro m hm
  simp only [heldBack, Option.some.injEq] at hm
  subst hm
  decide +kernel

/-- FORMAT-REGISTRY and SWEEP at a FORMATTED registry with no sweep, with one that runs, and while FORMATTING; operands at
the end of the range, and just past it. -/
theorem witness_BackgroundWorkIsAccepted :
    let formatting : State := { live with reg := { live.reg with format := .formatting } }
    let busy : State := { live with reg := { live.reg with sweep := .running .stale 0 2047 .reading } }
    (asked 0x06 [] live).AtHead ⟨7, 0x06, []⟩ [] ∧ (asked 0x07 [2, 7, 0xFF, 0, 1] live).AtHead ⟨7, 0x07, [2, 7, 0xFF, 0, 1]⟩ [] ∧
    (asked 0x06 [] busy).AtHead ⟨7, 0x06, []⟩ [] ∧ readSweepOperands [2, 7, 0xFF, 0, 1] = some (.moved, 2047, 2047) ∧
    (live.reg.format = .formatted ∧ live.reg.sweep.isRunning = false ∧ live.exchUp = true ∧ live.sig.held = none) ∧
    (busy.reg.format = .formatted ∧ busy.reg.sweep.isRunning = true) ∧ (∀ c o, (asked c o live).KeepsHeld) ∧
    (asked 0x06 [] busy).KeepsHeld ∧
    ((asked 0x06 [] formatting).AtHead ⟨7, 0x06, []⟩ [] ∧ (asked 0x06 [] formatting).KeepsHeld ∧
      formatting.reg.format = .formatting) ∧
    ((∀ c o, (asked c o live).AtHead ⟨7, c, o⟩ []) ∧ [(0 : Byte)] ≠ [] ∧
      ∀ o ∈ [[(0 : Byte), 0, 0, 0, 1], [3, 0, 0, 0, 1], [1, 8, 0, 0, 1], [1, 0, 0, 0, 0], [2, 7, 0xFF, 0, 2], [1]],
        readSweepOperands o = none) :=
  ⟨⟨rfl, rfl⟩, ⟨rfl, rfl⟩, ⟨rfl, rfl⟩, by decide +kernel, by decide +kernel, by decide +kernel, fun _ _ => .inl rfl,
    .inl rfl, ⟨⟨rfl, rfl⟩, .inl rfl, by decide +kernel⟩, atHead, by decide +kernel, by decide +kernel⟩

/-- Every value at the top of its range, and one out of range: w = 17. -/
theorem witness_LoadProfileIsWhole :
    let o (w : Byte) : List Byte := [7, w, 0x0F, 0xC0, 3, 0xFF, 3, 0xFF, 64, 0x0F, 0xC0, 3, 0xE8, 50, 9]
    (∀ w, (asked 0x10 (o w) live).AtHead ⟨7, 0x10, o w⟩ []) ∧
    readProfileOperands (o 16) = some (7, ⟨16, 4032, 1023, 1023, 64, 4032, 1000, 50, 9⟩) ∧
    readProfileOperands (o 17) = none :=
  ⟨fun _ => ⟨rfl, rfl⟩, by decide +kernel, by decide +kernel⟩

/-- For each load, operands in range and operands that are refused. -/
theorem witness_LoadsAndSettingsTakeEffect :
    (∀ c o, (asked c o live).AtHead ⟨7, c, o⟩ []) ∧
    ((readNeighbourOperands (23 :: List.replicate 48 0xFF)).isSome = true ∧
      (readNeighbourOperands (24 :: List.replicate 48 0)).isNone = true) ∧
    ((readZoneOperands [15, 124, 4, 0, 1, 2, 23]).isSome = true ∧ (readZoneOperands [2, 125, 4, 0, 1, 2, 3]).isNone = true) ∧
    (readCellOperands [23, 15, 7, 7] = some (23, ⟨15, 7, 7⟩) ∧ readCellOperands [24, 0, 0, 0] = none) ∧
    (readTimingOperands [0, 100, 0x27, 0x10, 0, 100, 0, 0, 0, 50] = some ⟨100, 10000, 100, 0, 50⟩ ∧
      readTimingOperands [0, 99, 0, 100, 0, 100, 0, 0, 0, 50] = none) ∧
    (readAttentionOperands [15] = some ⟨true, true, true, true⟩ ∧ readAttentionOperands [16] = none) ∧
    (readCaptureOperands [63] = some ⟨true, true, true, true, true, true⟩ ∧ readCaptureOperands [64] = none) :=
  ⟨atHead, by decide +kernel, by decide +kernel, by decide +kernel, by decide +kernel, by decide +kernel, by decide +kernel⟩

theorem witness_ReadCauseGivesTheFirstCause :
    (asked 0x30 [] live).AtHead ⟨7, 0x30, []⟩ [] ∧ (asked 0x30 [] live).exchUp = true ∧
      (asked 0x30 [] live).exch.txQueue.length < 64 :=
  ⟨⟨rfl, rfl⟩, by decide +kernel, by decide +kernel⟩

theorem witness_ReadsAnswerAndClear :
    (∀ c o, (asked c o live).AtHead ⟨7, c, o⟩ []) ∧ readTableOperands [2, 23] = some (.neighbourRow 23) ∧
    [(191 : Byte)] = [BitVec.ofNat 8 (191 : Circuit).val] ∧ [(24 : Byte)] = [BitVec.ofNat 8 (24 : Fin 25).val] ∧
    ({ live with reg := { live.reg with sweep := .ended none } } : State).reg.sweep = .ended none ∧
    live.reg.sweep = .idle :=
  ⟨atHead, by decide +kernel, by decide +kernel, by decide +kernel, by decide +kernel, by decide +kernel⟩

/-- A cell that is not UP, one that is UP with a leg, with a hold time and with none, and one in LOOP; cell 24 and actions 0
and 4; and a call in each state. -/
theorem witness_ControlRequestsTakeEffect :
    (∀ c o, (asked c o looped).AtHead ⟨7, c, o⟩ [] ∧ (asked c o running).AtHead ⟨7, c, o⟩ []) ∧
    ((State.reset.cells.at 23).link.state ≠ .up ∧ (looped.cells.at 3).link.state = .loop ∧
      (live.cells.at 3).link.state ≠ .loop) ∧
    ((running.cells.at 0).link.state = .up ∧ running.CallsOk ∧ running.BearersOk ∧ running.bearer 0 0 = .serving 191) ∧
    ((live.callOf 191).state = .free ∧ ((live |> withCall 191 clearing).callOf 191).state = .clearing) ∧
    (((live |> withCall 191 paging).callOf 191).state = .paging ∧ (live |> withCall 191 paging).exchUp = true ∧
      (live |> withCall 191 paging).exch.txQueue.length + 3 ≤ 64) ∧
    (∀ r ∈ [active, bridged, holding], (live |> withCall 191 r).callOf 191 = r ∧ r.state.inCall = true) ∧
    (let s : State := { running with tables := { running.tables with timing := ⟨800, 1200, 2000, 0, 500⟩ } }
     (s.cells.at 0).link.state = .up ∧ s.CallsOk ∧ s.BearersOk ∧ s.exchUp = true ∧ s.exch.txQueue.length + 1 + 2 ≤ 64 ∧
      (ascending 192).filter (fun n => s.tables.timing.hold = 0 ∧ legAt 0 (s.callOf n).serving = true ∧
        ((s.callOf n).state = .active ∨ legAt 0 (s.callOf n).candidate = true)) = [191]) ∧
    (23 < (24 : Byte).toNat ∧ (0 : Byte).toNat = 0 ∧ 3 < (4 : Byte).toNat) :=
  ⟨fun _ _ => ⟨⟨rfl, rfl⟩, rfl, rfl⟩, by decide +kernel, ⟨by decide +kernel, running_calls, running_bearers, by decide +kernel⟩,
    by decide +kernel, by decide +kernel, by decide +kernel,
    ⟨by decide +kernel, running_calls, running_bearers, by decide +kernel, by decide +kernel, by decide +kernel⟩,
    by decide +kernel⟩

theorem witness_RestartClearsTraffic :
    (asked 0x3F [] liveActive).AtHead ⟨7, 0x3F, []⟩ [] ∧ (asked 0x3F [] liveActive).exchUp = true ∧
      Cmd.assigned.contains 0x09 = false ∧ Cmd.assigned.contains 0xFF = false :=
  ⟨⟨rfl, rfl⟩, by decide +kernel, by decide +kernel, by decide +kernel⟩

end Sys2Proof.Tests
end

section
/-! Properties that the operations on calls keep (R54 to R136): what they may touch is the Call Table, the transmit
queues, the captures and the stray and late counts. -/

namespace Sys2Proof.Machine

open Sys2Proof

/-- A property of the block that the means of the call operations keep: it holds whatever the Call Table becomes, and
after a frame placed, a capture reported, a discard counted and a STATE report kept. -/
structure Closed (P : State → Prop) : Prop where
  call : ∀ {s : State} (x : CallTable), P s → P { s with call := x }
  sig : ∀ {s : State} (c : CellId) (f : Frame), P s → P (s.placeSig c f)
  voice : ∀ {s : State} (c : CellId) (f : Frame), P s → P (s.placeVoice c f)
  exch : ∀ {s : State} (f : Frame), P s → P (s.placeExch f)
  capture : ∀ {s : State} (k : CaptureKind) (d : CaptureDetail), P s → P (s.capture k d)
  stray : ∀ {s : State} (l : LinkId), P s → P (s.stray l)
  late : ∀ {s : State} (c : CellId), P s → P (s.lateDiscard c)
  report : ∀ {s : State} (c : CellId) (r : CellReport), P s →
    P (s.modCell c fun u => { u with marks := u.marks.remark u.report r, report := r })

namespace Closed

theorem foldl {P : State → Prop} {α : Type} {f : State → α → State} (h : ∀ {s} x, P s → P (f s x)) (l : List α) :
    ∀ {s}, P s → P (l.foldl f s) := by
  induction l with
  | nil => exact id
  | cons x l ih => intro s hs; exact ih (h x hs)

variable {P : State → Prop} (k : Closed P) {s : State}

include k

/-! ### Calls and bearers -/

theorem modCall (n : Circuit) (f : CallRecord → CallRecord) (h : P s) : P (s.modCall n f) := k.call _ h
theorem setBearer (c : CellId) (j : SlotId) (b : Bearer) (h : P s) : P (s.setBearer c j b) := k.call _ h
theorem freeReleasing (n : Circuit) (h : P s) : P (s.freeReleasing n) := k.call _ h
theorem freeReleasingAt (c : CellId) (h : P s) : P (s.freeReleasingAt c) := k.call _ h
theorem sortFreed (l : List Circuit) (h : P s) : P (s.sortFreed l) := k.call _ h

theorem toFree (n : Circuit) (h : P s) : P (s.toFree n) := by
  simp only [State.toFree]
  split
  · exact h
  · exact k.call _ (k.modCall n _ h)

theorem leaveClearing (n : Circuit) (h : P s) : P (s.leaveClearing n) := by
  simp only [State.leaveClearing]
  split
  · exact k.toFree n h
  · exact h

theorem loseCall (n : Circuit) (h : P s) : P (s.loseCall n) := k.toFree _ (k.capture _ _ (k.exch _ h))

theorem enterHolding (n : Circuit) (g : Leg) (b : CallState) (q : Nat) (c : Option Nat) (h : P s) :
    P (s.enterHolding n g b q c) := by
  have hc := k.capture .legLost
    { circuit := some n, hid := (s.callOf n).hid, cell := some g.cell, slot := some g.slot.val, callState := some b
      qServing := some q, qCandidate := c } (k.modCall n (fun r =>
    { r with state := .holding, serving := none, candidate := none, lastServing := some g.cell, dwell := 0
             bridgeTimer := none, window := none }) (k.freeReleasing n h))
  simp only [State.enterHolding]
  split
  · exact k.loseCall n hc
  · exact k.modCall _ _ hc

theorem releaseLeg (n : Circuit) (g : Leg) (h : P s) : P (s.releaseLeg n g) := k.setBearer _ _ _ (k.sig _ _ h)

theorem releaseLeg? (n : Circuit) (g : Option Leg) (h : P s) : P (s.releaseLeg? n g) := by
  cases g with
  | none => exact h
  | some g => exact k.releaseLeg n g h

theorem enterClearing (n : Circuit) (h : P s) : P (s.enterClearing n) :=
  k.leaveClearing _ (k.modCall _ _ (k.releaseLeg? _ _ (k.releaseLeg? _ _ h)))

theorem endCircuit (n : Circuit) (h : P s) : P (s.endCircuit n) := by
  simp only [State.endCircuit]
  split
  · exact h
  · exact h
  · exact k.toFree n h
  all_goals exact k.enterClearing n h

theorem forceClear (n : Circuit) (h : P s) : P (s.forceClear n) := by
  simp only [State.forceClear]
  split
  · exact k.exch _ (k.endCircuit n h)
  · exact h

/-! ### Bridges and legs -/

theorem keepLeg (n : Circuit) (g : Leg) (h : P s) : P (s.keepLeg n g) := by
  simp only [State.keepLeg]
  exact k.modCall _ _ (k.setBearer _ _ _ h)

theorem commit (n : Circuit) (sl cl : Leg) (h : P s) : P (s.commit n sl cl) := k.keepLeg _ _ (k.releaseLeg _ _ h)

theorem commitByLoss (n : Circuit) (sl cl : Leg) (est : Nat × Nat) (h : P s) : P (s.commitByLoss n sl cl est) :=
  k.keepLeg _ _ (k.setBearer _ _ _ (k.capture _ _ h))

theorem abandonByLoss (n : Circuit) (sl cl : Leg) (est : Nat × Nat) (h : P s) : P (s.abandonByLoss n sl cl est) :=
  k.keepLeg _ _ (k.setBearer _ _ _ (k.capture _ _ h))

theorem abandonByExpiry (n : Circuit) (sl cl : Leg) (h : P s) : P (s.abandonByExpiry n sl cl) :=
  k.keepLeg _ _ (k.releaseLeg _ _ (k.capture _ _ h))

theorem loseBoth (n : Circuit) (sl cl : Leg) (est : Nat × Nat) (h : P s) : P (s.loseBoth n sl cl est) :=
  k.enterHolding _ _ _ _ _ (k.setBearer _ _ _ (k.setBearer _ _ _ h))

theorem loseLegs (n : Circuit) (a b : Bool) (h : P s) : P (s.loseLegs n a b) := by
  simp only [State.loseLegs]
  split
  · split
    · exact k.enterHolding _ _ _ _ _ (k.setBearer _ _ _ h)
    · exact h
  · split
    · exact k.loseBoth _ _ _ _ h
    · exact k.commitByLoss _ _ _ _ h
    · exact k.abandonByLoss _ _ _ _ h
    · exact h
  · exact h

theorem loseLeg (n : Circuit) (role : LegRole) (h : P s) : P (s.loseLeg n role) := k.loseLegs n _ _ h

theorem freeBearer (c : CellId) (j : SlotId) (h : P s) : P (s.freeBearer c j) := by
  simp only [State.freeBearer]
  split
  · exact h
  · exact k.loseLeg _ _ h
  · exact k.loseLeg _ _ h
  · exact k.leaveClearing _ (k.setBearer _ _ _ h)

theorem bridgeExpired (n : Circuit) (h : P s) : P (s.bridgeExpired n) := by
  simp only [State.bridgeExpired]
  split
  · split
    · exact k.commit _ _ _ h
    · exact k.abandonByExpiry _ _ _ h
  · exact h

/-! ### Loss of a link -/

theorem cellLost (c : CellId) (h : P s) : P (s.cellLost c) :=
  k.sortFreed _ (foldl (fun n => k.leaveClearing n) _
    (k.freeReleasingAt c (foldl (fun n => k.loseLegs n _ _) _ h)))

theorem exchLost (h : P s) : P s.exchLost := by
  have he : P ((ascending 192).foldl State.endCircuit s) := foldl (fun n => k.endCircuit n) _ h
  simp only [State.exchLost]
  split
  · exact k.capture _ _ he
  · exact he

/-! ### Voice -/

theorem activeFrame (n : Circuit) (c : CellId) (v : Voice) (h : P s) : P (s.activeFrame n c v) := by
  simp only [State.activeFrame, State.forward]
  split
  · exact h
  · split
    · exact k.exch _ (k.modCall _ _ h)
    · split
      · exact k.late _ h
      · exact k.exch _ (k.modCall _ _ h)

theorem evaluate (n : Circuit) (h : P s) : P (s.evaluate n) := by
  simp only [State.evaluate]
  split
  · split
    · exact k.commit _ _ _ h
    · split
      all_goals
        split
        · exact k.commit _ _ _ h
        · exact k.modCall _ _ h
  · exact h

theorem emit (n : Circuit) (est : Nat × Nat) (h : P s) : P (s.emit n est) := by
  simp only [State.emit]
  split
  · next sl cl win _ _ _ =>
    have hf : P (match (win.slots.at 0).better with
        | some f => s.forward n f.voice
        | none => s) := by
      split
      · exact k.exch _ h
      · exact h
    split
    · exact k.loseBoth _ _ _ _ (k.modCall _ _ hf)
    · exact k.commitByLoss _ _ _ _ (k.modCall _ _ hf)
    · exact k.abandonByLoss _ _ _ _ (k.modCall _ _ hf)
    · exact k.evaluate _ (k.modCall _ _ hf)
  · exact h

theorem emitUntil (n : Circuit) (est : Nat × Nat) (goal : Seq) (fuel : Nat) :
    ∀ {s}, P s → P (State.emitUntil n est goal fuel s) := by
  induction fuel with
  | zero => exact id
  | succ fuel ih =>
    intro s h
    simp only [State.emitUntil]
    split
    · exact ih (k.emit n est h)
    · exact h

theorem placeFrame (n : Circuit) (role : LegRole) (o : Fin 4) (v : Voice) (est : Nat × Nat) (h : P s) :
    P (s.placeFrame n role o v est) := by
  simp only [State.placeFrame]
  split
  · exact h
  · exact k.emitUntil _ _ _ _ (k.modCall _ _ h)

theorem afterAdvance (n : Circuit) (role : LegRole) (c : CellId) (j : SlotId) (v : Voice) (est : Nat × Nat)
    (h : P s) : P (s.afterAdvance n role c j v est) := by
  simp only [State.afterAdvance]
  split
  · split
    · exact k.placeFrame _ _ _ _ _ h
    · exact h
  · split
    · exact k.activeFrame _ _ _ h
    · exact k.stray _ h

theorem windowFrame (n : Circuit) (role : LegRole) (c : CellId) (j : SlotId) (v : Voice) (h : P s) :
    P (s.windowFrame n role c j v) := by
  have hw := k.modCall n (fun r => { r with window := r.window.map (Window.based · v.seq) }) h
  simp only [State.windowFrame]
  split
  · exact k.late _ hw
  · split
    · split
      all_goals
        split
        · exact hw
        · exact k.placeFrame _ _ _ _ _ hw
    · exact k.afterAdvance _ _ _ _ _ _ (k.emitUntil _ _ _ _ hw)

theorem legFrame (n : Circuit) (role : LegRole) (c : CellId) (j : SlotId) (v : Voice) (h : P s) :
    P (s.legFrame n role c j v) := by
  simp only [State.legFrame, State.restartSilence]
  split
  · exact k.activeFrame _ _ _ (k.modCall _ _ h)
  · exact k.windowFrame _ _ _ _ _ (k.modCall _ _ h)
  · exact k.stray _ h

theorem uplinkFrame (c : CellId) (j : SlotId) (v : Voice) (h : P s) : P (s.uplinkFrame c j v) := by
  simp only [State.uplinkFrame]
  split
  · exact k.legFrame _ _ _ _ _ h
  · exact k.legFrame _ _ _ _ _ h
  all_goals exact k.stray _ h

theorem copyDown (v : Voice) (g : Option Leg) (h : P s) : P (s.copyDown v g) := by
  cases g with
  | none => exact h
  | some g => exact k.voice _ _ h

theorem downlink (n : Circuit) (v : Voice) (h : P s) : P (s.downlink n v) := by
  simp only [State.downlink]
  split
  · exact k.copyDown _ _ h
  · exact k.copyDown _ _ (k.copyDown _ _ h)
  all_goals exact k.stray _ h

/-! ### SEIZE -/

theorem deny (z : Seize) (x : DenyReason) (h : P s) : P (s.deny z x).state := k.sig _ _ h

theorem grantSeize (z : Seize) (h : P s) : P (s.grantSeize z) := k.sig _ _ h

theorem acceptOrigin (z : Seize) (r : Record) (n : Circuit) (h : P s) : P (s.acceptOrigin z r n) :=
  k.exch _ (k.grantSeize z (k.setBearer _ _ _ (k.modCall _ _ (k.call _ h))))

theorem seizeForOrigin (z : Seize) (r : Option Record) (h : P s) : P (s.seizeForOrigin z r).state := by
  simp only [State.seizeForOrigin]
  split
  · exact k.deny _ _ h
  · split
    · exact k.deny _ _ h
    · split
      · exact k.deny _ _ h
      · split
        · exact k.deny _ _ h
        · split
          · split
            · exact k.acceptOrigin _ _ _ h
            · exact k.deny _ _ h
          · exact k.deny _ _ h

theorem acceptAnswer (z : Seize) (n : Circuit) (h : P s) : P (s.acceptAnswer z n) :=
  k.exch _ (k.grantSeize z (k.setBearer _ _ _ (k.modCall _ _ h)))

theorem seizeForAnswer (z : Seize) (h : P s) : P (s.seizeForAnswer z).state := by
  simp only [State.seizeForAnswer]
  split
  · split
    · exact k.acceptAnswer _ _ h
    · exact k.deny _ _ h
  · exact k.deny _ _ h

theorem reenter (z : Seize) (n : Circuit) (h : P s) : P (s.reenter z n).state := by
  simp only [State.reenter]
  split
  · exact k.deny _ _ h
  · exact k.grantSeize z (k.setBearer _ _ _ (k.modCall _ _ h))

theorem testMoveIn (z : Seize) (n : Circuit) (c : CellId) (h : P s) : P (s.testMoveIn z n c).state := by
  simp only [State.testMoveIn]
  split
  · exact k.deny _ _ h
  · split
    · exact k.grantSeize z (k.setBearer _ _ _ (k.modCall _ _ h))
    · exact k.deny _ _ h

theorem seizeForMoveIn (z : Seize) (h : P s) : P (s.seizeForMoveIn z).state := by
  simp only [State.seizeForMoveIn]
  split
  · exact k.deny _ _ h
  · split
    · exact k.deny _ _ h
    · exact k.reenter _ _ h
    · exact k.testMoveIn _ _ _ h
    · exact k.deny _ _ h

theorem seizeWith (z : Seize) (r : Option Record) {purpose : State → Handled}
    (hp : ∀ {t}, P t → P (purpose t).state) (h : P s) : P (s.seizeWith z r purpose).state := by
  simp only [State.seizeWith]
  split
  · exact hp (k.freeBearer _ _ h)
  · show P (s.stray (.cell z.cell))
    exact k.stray _ h

/-! ### Pages -/

theorem beginStage (n : Circuit) (g : PageStage) (l : List CellId) (ms : Nat) {o : State} (ho : P o) (h : P s) :
    P (s.beginStage n g l ms o) := by
  simp only [State.beginStage, State.summon]
  split
  · exact ho
  · exact k.modCall _ _ (foldl (fun c => k.sig c _) _ h)

theorem pageUnanswered (n : Circuit) (h : P s) : P (s.pageUnanswered n) := k.toFree _ (k.exch _ h)
theorem stage3 (n : Circuit) (h : P s) : P (s.stage3 n) := k.beginStage _ _ _ _ (k.pageUnanswered _ h) h
theorem stage2 (n : Circuit) (h : P s) : P (s.stage2 n) := k.beginStage _ _ _ _ (k.stage3 _ h) h
theorem stage1 (n : Circuit) (h : P s) : P (s.stage1 n) := k.beginStage _ _ _ _ (k.stage2 _ h) h

theorem stageExpired (n : Circuit) (h : P s) : P (s.stageExpired n) := by
  simp only [State.stageExpired]
  split
  · exact k.stage2 n h
  · exact k.stage3 n h
  · exact k.pageUnanswered n h
  · exact h

theorem offered (n : Circuit) (g : Hid) (r : Option Record) (h : P s) : P (s.offered n g r) := by
  simp only [State.offered]
  split
  · split
    · exact k.exch _ h
    · split
      · exact k.exch _ h
      · split
        · exact k.exch _ h
        · split
          · exact k.exch _ h
          · exact k.stage1 _ (k.modCall _ _ (k.call _ h))
  · exact h

/-! ### Messages -/

theorem enrolAt (c : CellId) (g : Hid) (r : Option Record) (h : P s) : P (s.enrolAt c g r).state := by
  simp only [State.enrolAt]
  split
  · exact k.sig _ _ h
  · split <;> exact k.sig _ _ h

theorem campAt (c : CellId) (g : Hid) (r : Option Record) (h : P s) : P (s.campAt c g r).state := by
  simp only [State.campAt]
  split
  · exact k.sig _ _ h
  · split
    · exact k.sig _ _ h
    · exact h

theorem vacated (c : CellId) (j : SlotId) (h : P s) : P (s.vacated c j) := by
  simp only [State.vacated]
  split
  · exact k.stray _ h
  · exact k.freeBearer _ _ h

theorem reported (c : CellId) (r : CellReport) (h : P s) : P (s.reported c r) := by
  simp only [State.reported]
  split
  · exact k.report _ _ h
  · exact foldl (fun n => k.loseLegs n _ _) _ (k.report _ _ h)

theorem relayUp (c : CellId) (j : SlotId) (p : List Byte) (h : P s) : P (s.relayUp c j p) := by
  simp only [State.relayUp]
  split
  · exact k.exch _ h
  · exact k.exch _ h
  all_goals exact k.stray _ h

theorem relayDown (n : Circuit) (p : List Byte) (h : P s) : P (s.relayDown n p) := by
  simp only [State.relayDown]
  split
  · exact k.sig _ _ h
  · exact k.sig _ _ h
  · exact k.stray _ h

/-- Acting on any message, before its record is changed. -/
theorem actOf (m : Msg) (l : LinkId) (x : Msg) (r : Option Record) (h : P s) :
    P (Machine.actOf m s l x r).state := by
  unfold Machine.actOf
  split
  · simp only [actEnrol]; split
    · exact k.enrolAt _ _ _ h
    · exact h
  · simp only [actCamp]; split
    · exact k.campAt _ _ _ h
    · exact h
  · exact h
  · simp only [actSeizeOrigin]; split
    · exact k.seizeWith _ _ (fun h => k.seizeForOrigin _ _ h) h
    · exact h
  · simp only [actSeizeAnswer]; split
    · exact k.seizeWith _ _ (fun h => k.seizeForAnswer _ h) h
    · exact h
  · simp only [actSeizeMoveIn]; split
    · exact k.seizeWith _ _ (fun h => k.seizeForMoveIn _ h) h
    · exact h
  · simp only [actOffer]; split
    · exact k.offered _ _ _ h
    · exact h
  · simp only [actVacate]; split
    · exact k.vacated _ _ h
    · exact h
  · simp only [actState]; split
    · exact k.reported _ _ h
    · exact h
  · simp only [actRelayFromCell]; split
    · exact k.relayUp _ _ _ h
    · exact h
  · simp only [actEnd]; split
    · exact k.endCircuit _ h
    · exact h
  · simp only [actRelayFromExchange]; split
    · exact k.relayDown _ _ h
    · exact h

end Closed

end Sys2Proof.Machine
end

section
/-! What one step can do to what the block keeps between events: an inversion of `step` into the few kinds of change
that a command can make, and the induction principle that follows from it. -/

namespace Sys2Proof.Machine

open Sys2Proof

/-! ### Changes outside registry, cache and parking -/

/-- `t` is `s` with at most its links, calls, tables, captures and management requests changed, and what its registry
does not remember between events; each of these within its size if it was. -/
structure Outer (s t : State) : Prop where
  mem : t.reg.mem = s.reg.mem
  contexts : t.reg.contexts = s.reg.contexts
  writes : t.reg.writes = s.reg.writes
  pass : t.reg.pass = s.reg.pass
  cache : t.cache = s.cache
  held : t.sig.held = s.sig.held
  parked : t.sig.parked = s.sig.parked
  groups : t.sig.groups = s.sig.groups
  links : s.LinksFit → t.LinksFit
  mgmt : s.mgmt.Fits → t.mgmt.Fits
  attn : s.attn.Fits → t.attn.Fits

theorem Outer.refl (s : State) : Outer s s := ⟨rfl, rfl, rfl, rfl, rfl, rfl, rfl, rfl, id, id, id⟩

theorem Outer.trans {s t u : State} (h : Outer s t) (k : Outer t u) : Outer s u where
  mem := k.mem.trans h.mem
  contexts := k.contexts.trans h.contexts
  writes := k.writes.trans h.writes
  pass := k.pass.trans h.pass
  cache := k.cache.trans h.cache
  held := k.held.trans h.held
  parked := k.parked.trans h.parked
  groups := k.groups.trans h.groups
  links := k.links ∘ h.links
  mgmt := k.mgmt ∘ h.mgmt
  attn := k.attn ∘ h.attn

theorem Outer.entryOf {s t : State} (h : Outer s t) (g : Hid) : t.entryOf g = s.entryOf g := by
  simp [State.entryOf, h.cache]

theorem Outer.releasable {s t : State} (h : Outer s t) (m : Held) : t.releasable m = s.releasable m :=
  releasable_congr h.writes h.cache m

variable (s : State)

/-- A cell's unit changed so that it keeps within its sizes. -/
theorem outer_modCell (c : CellId) {f : CellLink → CellLink} (hf : (s.cells.at c).Fits → (f (s.cells.at c)).Fits) :
    Outer s (s.modCell c f) := by
  refine ⟨rfl, rfl, rfl, rfl, rfl, rfl, rfl, rfl, fun h => ⟨fun d => ?_, h.2⟩, id, id⟩
  simp only [State.modCell, Table.at_put]
  split
  · exact hf (h.1 c)
  · exact h.1 d

/-- The exchange's unit changed so that it keeps within its sizes. -/
theorem outer_modExch {f : ExchLink → ExchLink} (hf : s.exch.Fits → (f s.exch).Fits) : Outer s (s.modExch f) :=
  ⟨rfl, rfl, rfl, rfl, rfl, rfl, rfl, rfl, fun h => ⟨h.1, hf h.2⟩, id, id⟩

/-- The common part of a unit changed so that its FIFO keeps within its size. -/
theorem outer_modUnit (l : LinkId) {f : LinkUnit → LinkUnit}
    (hf : (s.unit l).rxFifo.length ≤ fifoSize l → (f (s.unit l)).rxFifo.length ≤ fifoSize l) :
    Outer s (s.modUnit l f) := by
  cases l with
  | cell c =>
    exact outer_modCell s c (f := fun u => { u with link := f u.link }) fun h => ⟨hf h.fifo, h.signalling, h.voice⟩
  | exchange => exact outer_modExch s (f := fun u => { u with link := f u.link }) fun h => ⟨hf h.fifo, h.queue⟩

theorem outer_call (x : CallTable) : Outer s { s with call := x } :=
  ⟨rfl, rfl, rfl, rfl, rfl, rfl, rfl, rfl, id, id, id⟩

theorem outer_placeSig (c : CellId) (f : Frame) : Outer s (s.placeSig c f) := by
  refine outer_modCell s c fun h => ?_
  split
  · split
    · next hlt => exact ⟨h.fifo, by rw [List.length_append]; exact hlt, h.voice⟩
    · exact ⟨h.fifo, h.signalling, h.voice⟩
  · exact h

theorem outer_placeVoice (c : CellId) (f : Frame) : Outer s (s.placeVoice c f) := by
  refine outer_modCell s c fun h => ?_
  split
  · split
    · next hlt => exact ⟨h.fifo, h.signalling, by rw [List.length_append]; exact hlt⟩
    · exact ⟨h.fifo, h.signalling, h.voice⟩
  · exact h

theorem outer_placeExch (f : Frame) : Outer s (s.placeExch f) := by
  refine outer_modExch s fun h => ?_
  split
  · split
    · next hlt => exact ⟨h.fifo, by rw [List.length_append]; exact hlt⟩
    · exact ⟨h.fifo, h.queue⟩
  · exact h

@[simp] theorem length_markTail : ∀ l : List Capture, (markTail l).length = l.length
  | [] => rfl
  | [_] => rfl
  | c :: d :: l => by simp [markTail, length_markTail (d :: l)]

theorem outer_attn {f : Attention → Attention} (hf : s.attn.Fits → (f s.attn).Fits) : Outer s (s.modAttn f) :=
  ⟨rfl, rfl, rfl, rfl, rfl, rfl, rfl, rfl, id, id, hf⟩

theorem outer_capture (k : CaptureKind) (d : CaptureDetail) : Outer s (s.capture k d) := by
  simp only [State.capture]
  split
  · refine outer_attn (f := fun a => { a with captures := joinCapture a.captures ⟨k, s.timeBase, false, d⟩ }) s
      fun h => ?_
    simp only [Attention.Fits, joinCapture] at h ⊢
    split
    · next hlt => rw [List.length_append]; exact hlt
    · rwa [length_markTail]
  · exact .refl s

theorem outer_stray (l : LinkId) : Outer s (s.stray l) := outer_modUnit s l id

theorem outer_lateDiscard (c : CellId) : Outer s (s.lateDiscard c) := outer_modUnit s _ id

/-- The operations on calls make outer changes. -/
theorem closed_outer (s : State) : Closed (Outer s) where
  call x h := h.trans (outer_call _ x)
  sig c f h := h.trans (outer_placeSig _ c f)
  voice c f h := h.trans (outer_placeVoice _ c f)
  exch f h := h.trans (outer_placeExch _ f)
  capture k d h := h.trans (outer_capture _ k d)
  stray l h := h.trans (outer_stray _ l)
  late c h := h.trans (outer_lateDiscard _ c)
  report c _ h := h.trans (outer_modCell _ c fun x => ⟨x.fifo, x.signalling, x.voice⟩)

theorem outer_setLimit (l : LinkId) (b : Bool) : Outer s (s.setLimit l b) := by
  cases l with
  | cell c => exact outer_attn (f := fun a => { a with cellLimits := a.cellLimits.put c b }) s id
  | exchange => exact outer_attn (f := fun a => { a with exchLimit := b }) s id

theorem outer_protocolError (l : LinkId) (k : Option SlotId) (h : Option Hid) : Outer s (s.protocolError l k h) := by
  have hu : Outer s (s.modUnit l LinkUnit.setProtocol) := outer_modUnit s l id
  simp only [State.protocolError]
  split
  · exact (hu.trans (outer_capture _ _ _)).trans (outer_setLimit _ _ _)
  · exact hu

theorem outer_judgeAttention (before : State) : Outer s (s.judgeAttention before) := by
  have hp (t : State) : Outer t t.setPin := outer_attn (f := fun a => { a with pin := t.attentionSet.any }) t id
  simp only [State.judgeAttention]
  split
  · exact (outer_placeExch s _).trans (hp _)
  · exact hp s

/-! ### Lines -/

theorem outer_heard (l : LinkId) : Outer s (s.heard l) := outer_modUnit s l id

theorem outer_received (l : LinkId) : Outer s (s.received l) :=
  (outer_heard s l).trans (outer_modUnit _ l id)

theorem LinkUnit.enqueue_fits (u : LinkUnit) (n : Nat) (f : Frame) (h : u.rxFifo.length ≤ n) :
    (u.enqueue n f).rxFifo.length ≤ n := by
  simp only [LinkUnit.enqueue]
  split
  · next hlt => rw [List.length_append]; exact hlt
  · exact h

theorem outer_flagRun {u : State} {l : LinkId} {run : List Byte} (h : s.flagRun l run = some u) : Outer s u := by
  simp only [State.flagRun] at h
  split at h
  · cases h; exact outer_modUnit s l id
  · cases h; exact outer_modUnit s l id
  · cases h

theorem outer_offerRequest (q : MgmtRequest) : Outer s (s.offerRequest q) := by
  simp only [State.offerRequest]
  split
  · next hlt =>
    exact ⟨rfl, rfl, rfl, rfl, rfl, rfl, rfl, rfl, id,
      fun h => ⟨by rw [List.length_append]; exact hlt, h.2⟩, id⟩
  · exact outer_placeExch s _

theorem outer_readHeader (body : List Byte) : Outer s (s.readHeader body) := by
  simp only [State.readHeader]
  split
  · exact outer_offerRequest s _
  · exact outer_protocolError s _ _ _

theorem outer_voiceFromCell (c : CellId) (v : Voice) : Outer s (s.voiceFromCell c v) := by
  simp only [State.voiceFromCell]
  split
  · split
    · exact (closed_outer s).uplinkFrame c _ v (.refl s)
    · exact outer_protocolError s _ _ _
  · exact outer_protocolError s _ _ _

theorem outer_voiceFromExchange (v : Voice) : Outer s (s.voiceFromExchange v) := by
  simp only [State.voiceFromExchange]
  split
  · exact (closed_outer s).downlink _ v (.refl s)
  · exact outer_protocolError s _ _ _

theorem outer_looped (c : CellId) (run : List Byte) : Outer s (s.looped c run) := by
  have hr : Outer s (s.modCell c CellLink.returned) := outer_modCell s c fun h => ⟨h.fifo, h.signalling, h.voice⟩
  simp only [State.looped]
  split
  · exact hr.trans (outer_modUnit _ _ id)
  · exact hr.trans (outer_modUnit _ _ id)
  · split
    · exact hr
    · exact hr.trans (outer_modUnit _ _ id)

theorem CellLink.sendQueued_fits {u : CellLink} (h : u.Fits) : u.sendQueued.Fits := by
  simp only [CellLink.sendQueued]
  split
  · split
    · next f rest hq => exact ⟨h.fifo, Nat.le_of_succ_le (by simpa [hq] using h.signalling), h.voice⟩
    · exact h
  · split
    · next f rest hq => exact ⟨h.fifo, h.signalling, Nat.le_of_succ_le (by simpa [hq] using h.voice)⟩
    · exact h
  · exact h

theorem ExchLink.sendQueued_fits {u : ExchLink} (h : u.Fits) : u.sendQueued.Fits := by
  simp only [ExchLink.sendQueued]
  split
  · next f rest hq => exact ⟨h.fifo, Nat.le_of_succ_le (by simpa [hq] using h.queue)⟩
  · exact h

theorem outer_sendQueued (l : LinkId) : Outer s (s.sendQueued l) := by
  simp only [State.sendQueued]
  split
  · cases l with
    | cell c => exact outer_modCell s c CellLink.sendQueued_fits
    | exchange => exact outer_modExch s ExchLink.sendQueued_fits
  · exact .refl s

@[simp] theorem LinkUnit.sent_rxFifo (u : LinkUnit) (now : Time) : (u.sent now).rxFifo = u.rxFifo := by
  simp only [LinkUnit.sent]
  split <;> rfl

theorem outer_sent (l : LinkId) : Outer s (s.sent l) := by
  cases l with
  | cell c =>
    exact outer_modCell s c (f := (CellLink.sent · s.timeBase))
      fun h => ⟨by simpa [CellLink.sent] using h.fifo, h.signalling, h.voice⟩
  | exchange =>
    exact outer_modExch s (f := fun u => { u with link := u.link.sent s.timeBase })
      fun h => ⟨by simpa using h.fifo, h.queue⟩

theorem outer_sendFill (l : LinkId) : Outer s (s.sendFill l) := by
  simp only [State.sendFill]
  split
  · exact outer_modUnit s l id
  · exact .refl s

theorem outer_sendTest (c : CellId) : Outer s (s.modCell c CellLink.sendTest) := by
  refine outer_modCell s c fun h => ?_
  simp only [CellLink.sendTest]
  split
  · exact ⟨h.fifo, h.signalling, h.voice⟩
  · exact h

theorem outer_moveCell (c : CellId) (st : LinkState) : Outer s (s.moveCell c st) := by
  have he : Outer s (s.modCell c fun u => u.enter st s.timeBase) :=
    outer_modCell s c fun h => ⟨h.fifo, Nat.zero_le _, Nat.zero_le _⟩
  simp only [State.moveCell]
  split
  · exact (closed_outer s).cellLost c he
  · exact he

theorem outer_cellSilent (c : CellId) : Outer s (s.cellSilent c) :=
  (outer_modUnit s _ id).trans (outer_moveCell _ c .down)

theorem outer_exchSilent : Outer s s.exchSilent :=
  (closed_outer s).exchLost (outer_modExch s fun h => ⟨h.fifo, Nat.zero_le _⟩)

theorem outer_takeFrame (l : LinkId) : Outer s (s.takeFrame l) :=
  (outer_modUnit s l fun h => by rw [List.length_tail]; omega).trans
    ⟨rfl, rfl, rfl, rfl, rfl, rfl, rfl, rfl, id, id, id⟩

theorem outer_discardMalformed {u : State} (h : s.discardMalformed = some u) : Outer s u := by
  simp only [State.discardMalformed] at h
  split at h
  · split at h
    · cases h
    · cases h
      exact (outer_takeFrame s _).trans (outer_protocolError _ _ _ _)
  · cases h

/-! ### Requests -/

theorem outer_mgmt {f : Management → Management} (hf : s.mgmt.Fits → (f s.mgmt).Fits) :
    Outer s { s with mgmt := f s.mgmt } :=
  ⟨rfl, rfl, rfl, rfl, rfl, rfl, rfl, rfl, id, hf, id⟩

theorem outer_setOp (op : MgmtOp) : Outer s (s.setOp op) := outer_mgmt (f := fun m => { m with op := some op }) s id

theorem outer_setWatch (w : Option Watch) : Outer s (s.setWatch w) :=
  outer_mgmt (f := fun m => { m with watch := w }) s id

theorem outer_reply (q : MgmtRequest) (o : MgmtOutcome) (d : List Byte) : Outer s (s.reply q o d) :=
  (outer_mgmt (f := fun m => { m with queue := m.queue.tail, op := none }) s
    fun h => ⟨by rw [List.length_tail]; have := h.1; omega, h.2⟩).trans (outer_placeExch _ _)

theorem outer_finish (o : MgmtOutcome) (d : List Byte) : Outer s (s.finish o d) := by
  simp only [State.finish]
  split
  · exact outer_reply s _ o d
  · exact outer_mgmt (f := fun m => { m with op := none }) s id

theorem outer_withOperands {α : Type} {t : State} (q : MgmtRequest) (ops : Option α) {run : α → State}
    (h : Outer s t) (hr : ∀ x, Outer s (run x)) : Outer s (t.withOperands q ops run) := by
  simp only [State.withOperands]
  split
  · exact hr _
  · exact h.trans (outer_reply _ q _ _)

theorem outer_readUnread : Outer s s.readUnread := by
  simp only [State.readUnread]
  split
  · exact outer_mgmt (f := fun m => { m with unread := false }) s id
  all_goals exact .refl s

theorem outer_modTables (f : Tables → Tables) : Outer s (s.modTables f) :=
  ⟨rfl, rfl, rfl, rfl, rfl, rfl, rfl, rfl, id, id, id⟩

theorem outer_controlCell (c : CellId) (a : CellAction) : Outer s (s.controlCell c a) := by
  simp only [State.controlCell]
  split
  · exact outer_moveCell s c _
  · exact .refl s

theorem outer_clearLink (l : LinkId) : Outer s (s.clearLink l) :=
  (outer_modUnit s l id).trans (outer_setLimit _ _ _)

theorem outer_reportDamaged (h : Hid) (a : Option RecAddr) : Outer s (s.reportDamaged h a) := by
  cases a with
  | none => exact .refl s
  | some a => exact outer_capture s _ _

theorem outer_setPort (op : Option PortOp) : Outer s (s.setPort op) :=
  ⟨rfl, rfl, rfl, rfl, rfl, rfl, rfl, rfl, id, id, id⟩

theorem outer_clearWatchAt (a : RecAddr) : Outer s (s.clearWatchAt a) :=
  outer_mgmt (f := fun m => { m with watch := m.watch.filter fun w => w.addr ≠ a }) s id

/-- A record write does outer changes besides the store. -/
theorem outer_written (a : RecAddr) (r : Record) : Outer (s.store a r) (s.written a r) :=
  (outer_clearWatchAt _ a).trans (outer_mgmt (f := fun m => { m with op := m.op.map (MgmtOp.refresh · a r) }) _ id)

theorem outer_writtenByOther (a : RecAddr) (r : Record) : Outer (s.store a r) (s.writtenByOther a r) :=
  (outer_written s a r).trans ⟨rfl, rfl, rfl, rfl, rfl, rfl, rfl, rfl, id, id, id⟩

theorem outer_sweepEnd (b : Option BucketId) : Outer s (s.sweepEnd b) :=
  ⟨rfl, rfl, rfl, rfl, rfl, rfl, rfl, rfl, id, id, id⟩

theorem outer_sweepWritten (m : SweepMode) (b l : BucketId) (i : Table Record 4) (todo : List SweepWrite) :
    Outer s (s.sweepWritten m b l i todo) := by
  simp only [State.sweepWritten, State.sweepOn]
  split
  · split
    · exact outer_sweepEnd s _
    · split
      · exact outer_sweepEnd s _
      · exact ⟨rfl, rfl, rfl, rfl, rfl, rfl, rfl, rfl, id, id, id⟩
  · exact ⟨rfl, rfl, rfl, rfl, rfl, rfl, rfl, rfl, id, id, id⟩

theorem outer_sweepRead (m : SweepMode) (b l : BucketId) (i : Table Record 4) (ds : List Decision) :
    Outer s (s.sweepRead m b l i ds) := by
  simp only [State.sweepRead]
  split
  · next hle =>
    exact (outer_mgmt (f := fun m => { m with sweepList := m.sweepList ++ ds.filterMap Decision.entry }) s
      fun h => ⟨h.1, by rw [List.length_append]; exact hle⟩).trans (outer_sweepWritten _ _ _ _ _ _)
  · exact outer_sweepEnd s _

theorem outer_mgmtRead (op : MgmtOp) (scan : Scan) : Outer s (s.mgmtRead op scan) := by
  simp only [State.mgmtRead]
  split
  · simp only [State.mgmtFound]
    split
    · exact (outer_setWatch s _).trans (outer_finish _ _ _)
    all_goals exact outer_setOp s _
  · exact outer_setOp s _
  · have hd := outer_reportDamaged s op.job.hid scan.damaged
    simp only [State.mgmtNotFound]
    split
    · split
      · exact hd.trans (outer_setOp _ _)
      · exact hd.trans (outer_finish _ _ _)
    all_goals exact hd.trans (outer_finish _ _ _)
  · exact .refl s

end Sys2Proof.Machine
end

section
/-! The kinds of effect that a command can have, and the induction principle over steps. -/

namespace Sys2Proof.Machine

open Sys2Proof

/-! ### Messages -/

/-- R46, R49: an action leaves the HID of a record as it is. -/
theorem Record.locate_hid (r : Record) (c : CellId) : (r.locate c).hid = r.hid := by
  simp only [Record.locate]
  split <;> rfl

theorem seizeWith_record {s : State} {z : Seize} {e r : Record} {purpose : State → Handled}
    (h : (s.seizeWith z (some e) purpose).record = some r) : r.hid = e.hid := by
  simp only [State.seizeWith] at h
  split at h
  · simp only at h
    split at h
    · cases h; exact e.locate_hid _
    · cases h; rfl
  · cases h; rfl

theorem actOf_record {s : State} {m x : Msg} {l : LinkId} {e r : Record}
    (h : (actOf m s l x (some e)).record = some r) : r.hid = e.hid := by
  have same {u : State} (h : (⟨u, some e⟩ : Acted).record = some r) : r.hid = e.hid := by cases h; rfl
  unfold actOf at h
  split at h
  · simp only [actEnrol] at h; split at h
    · simp only [State.enrolAt] at h; split at h
      · cases h; rfl
      · cases h; exact e.locate_hid _
    · exact same h
  · simp only [actCamp] at h; split at h
    · simp only [State.campAt] at h; split at h
      · cases h; rfl
      · cases h; exact e.locate_hid _
    · exact same h
  · cases h; rfl
  · simp only [actSeizeOrigin] at h; split at h
    · exact seizeWith_record h
    · exact same h
  · simp only [actSeizeAnswer] at h; split at h
    · exact seizeWith_record h
    · exact same h
  · simp only [actSeizeMoveIn] at h; split at h
    · exact seizeWith_record h
    · exact same h
  · simp only [actOffer] at h; split at h <;> exact same h
  · simp only [actVacate] at h; split at h <;> exact same h
  · simp only [actState] at h; split at h <;> exact same h
  · simp only [actRelayFromCell] at h; split at h <;> exact same h
  · simp only [actEnd] at h; split at h <;> exact same h
  · simp only [actRelayFromExchange] at h; split at h <;> exact same h

/-- R32, R25, R26: what becomes of a message once it has left its place: it is acted on, with the change of its entry or
without, held, joined to its group, or parked in a new group. -/
inductive Handles : State → State → Prop
  | acted {s u : State} : SameBase s u → Outer s u → Handles s u
  | changed {s u : State} {h : Hid} {e : CacheEntry} {r : Record} : SameBase s u → Outer s u →
      s.entryOf h = some e → r.hid = h → writeFits s.reg.writes e.addr = true → Handles s (u.changeEntry h e.addr r)
  | held {s : State} (m : Held) : Handles s { s with sig := { s.sig with held := some m } }
  | parked {s : State} (m : Parked) : Handles s { s with sig := s.sig.park m }
  | grouped {s : State} (h : Hid) (l : LinkId) (m : Msg) : s.sig.groupOf h = none → s.entryOf h = none →
      Handles s (s.newGroup h l m)
  | touched {s : State} (h : Hid) {u : State} : Handles (s.touch h) u → Handles s u

theorem actWithout_handles (s : State) (m : Msg) (l : LinkId) : Handles s (s.actWithout (actOf m) l m) :=
  .acted (base_actOf ..) ((closed_outer s).actOf _ _ _ _ (.refl s))

theorem actWith_handles {s : State} {m : Msg} {l : LinkId} {h : Hid} {e : CacheEntry} (he : s.entryOf h = some e) :
    Handles s (s.actWith (actOf m) l m e) := by
  have ho : Outer s (actOf m s l m (some e.record)).state := (closed_outer s).actOf _ _ _ _ (.refl s)
  have hb := base_actOf s m l m (some e.record)
  have hh := entryOf_hid he
  simp only [State.actWith]
  split
  · exact .acted hb ho
  · next r hr =>
    split
    · exact .acted hb ho
    · split
      · next hf =>
        have : r.hid = e.record.hid := actOf_record hr
        exact .changed hb ho (hh ▸ he) this hf
      · exact .held _

theorem lookup_handles (s : State) (m : Msg) (l : LinkId) (h : Hid) : Handles s (s.lookup (actOf m) l m h) := by
  simp only [State.lookup]
  split
  · exact .parked _
  · next hg =>
    split
    · exact actWithout_handles s m l
    · split
      · next e he => exact .touched h (actWith_handles (h := h) (by rw [entryOf_touch]; exact he))
      · next he => exact .grouped h l m (by simpa using hg) he

theorem dispatch_handles (s : State) (m : Msg) (l : LinkId) : Handles s (s.dispatch (actOf m) l m) := by
  simp only [State.dispatch]
  split
  · exact lookup_handles s m l _
  · exact actWithout_handles s m l

/-- R15: the release of a held message. -/
theorem release_handles (s : State) (m : Held) :
    Handles { s with sig := { s.sig with held := none } } (s.release (actOf m.msg) m) := by
  simp only [State.release]
  split
  · exact actWithout_handles _ m.msg m.link
  · split
    · next e he => exact actWith_handles he
    · exact lookup_handles _ m.msg m.link _

/-- A test that picks the messages of one action. -/
def Picks (mine : Msg → Bool) (act : Act) : Prop := ∀ m, mine m = true → act = actOf m

/-- R40: what a turn of the Signalling Processor does: it takes a frame where parking has room, or the oldest message of
the group that became READY first, or reopens that group. -/
inductive Turns (s : State) : State → Prop
  | frame (l : LinkId) {u : State} : s.sig.held = none → s.sig.parked.length < Config.parkingSize →
      Handles (s.takeFrame l) u → Turns s u
  | ready {g : Group} {m : Parked} {u : State} : s.sig.held = none → s.sig.firstReady = some g →
      s.sig.parked.find? (fun m => m.hid == g.hid) = some m →
      Handles { s with sig := s.sig.takeOldest g.hid } u → Turns s u
  | reopened {g : Group} : s.sig.held = none → s.sig.firstReady = some g → s.entryOf g.hid = none →
      Turns s { s with sig := s.sig.setPhase g.hid .reopened }.assignContexts

theorem takeParked_turns {s : State} {g : Group} {m : Parked} (hh : s.sig.held = none)
    (hg : s.sig.firstReady = some g) (hm : s.sig.parked.find? (fun m => m.hid == g.hid) = some m) :
    Turns s (s.takeParked (actOf m.msg) g m) := by
  simp only [State.takeParked]
  split
  · split
    · next e he =>
      refine .ready hh hg hm (.touched g.hid (actWith_handles (h := g.hid) ?_))
      rw [entryOf_touch]
      exact he
    · next he => exact .reopened hh hg he
  · exact .ready hh hg hm (actWithout_handles _ m.msg m.link)

/-- R40: the work taken next. -/
theorem work_cases {s : State} {w : Work} (h : s.work = some w) : s.sig.held = none ∧
    ((∃ g m, w = .parked g m ∧ s.sig.firstReady = some g ∧
        s.sig.parked.find? (fun m => m.hid == g.hid) = some m) ∨
      ∃ l f, w = .frame l f ∧ s.sig.parked.length < Config.parkingSize) := by
  simp only [State.work] at h
  split at h
  · cases h
  · next hh =>
    refine ⟨by simpa using hh, ?_⟩
    split at h
    · next g hg =>
      cases hm : s.sig.parked.find? (fun m => m.hid == g.hid) with
      | none => simp [hm] at h
      | some m => exact .inl ⟨g, m, by simpa [hm] using h.symm, hg, hm⟩
    · split at h
      · cases h
      · next hf =>
        cases hn : s.nextFrame with
        | none => simp [hn] at h
        | some lf =>
          exact .inr ⟨lf.1, lf.2, by simpa [hn] using h.symm, by simpa [SigProc.parkingFull] using hf⟩

theorem turn_turns {s u : State} {mine : Msg → Bool} {act : Act} (hp : Picks mine act)
    (h : s.turn mine act = some u) : Turns s u := by
  simp only [State.turn] at h
  split at h
  · next g m hw =>
    split at h
    · next hm =>
      cases h
      obtain ⟨hh, ⟨_, _, he, hg, hf⟩ | ⟨_, _, he, _⟩⟩ := work_cases hw
      · cases he
        rw [hp _ hm]
        exact takeParked_turns hh hg hf
      · cases he
    · cases h
  · next l f hw =>
    split at h
    · next m _ =>
      split at h
      · next hm =>
        cases h
        obtain ⟨hh, ⟨_, _, he, _⟩ | ⟨_, _, _, hr⟩⟩ := work_cases hw
        · cases he
        · rw [hp _ hm]
          exact .frame l hh hr (dispatch_handles _ m l)
      · cases h
    · cases h
  · cases h

/-- R45: a message that names no handset leaves the record of an entry as it is. -/
theorem actOf_record_direct {m : Msg} (hm : m.hid = none) (s : State) (l : LinkId) (x : Msg) (r : Option Record) :
    (actOf m s l x r).record = r := by
  cases m with
  | enrol | camp | retire | seize | offer => cases hm
  | vacate | stateReport | relayFromCell | endCall | relayFromExchange =>
    simp only [actOf, actVacate, actState, actRelayFromCell, actEnd, actRelayFromExchange]
    split <;> rfl

/-- R15, R45: a turn that takes a message which names no handset holds no message. -/
theorem turn_direct_held {s u : State} {mine : Msg → Bool} {act : Act} (hp : Picks mine act)
    (hd : ∀ m, mine m = true → m.hid = none) (h : s.turn mine act = some u) : u.sig.held = none := by
  have acted (v : State) (m x : Msg) (l : LinkId) (r : Option Record) (hv : v.sig.held = none) :
      (actOf m v l x r).state.sig.held = none := by rw [(base_actOf v m l x r).sig, hv]
  simp only [State.turn] at h
  split at h
  · next g m hw =>
    split at h
    · next hm =>
      obtain ⟨hh, -⟩ := work_cases hw
      cases h
      rw [hp _ hm]
      simp only [State.takeParked, State.actWith, State.actWithout, actOf_record_direct (hd _ hm), if_true]
      split
      · split
        · exact acted _ _ _ _ _ (by rw [State.touch_sig]; exact hh)
        · exact (assign_held _ _).trans hh
      · exact acted _ _ _ _ _ hh
    · cases h
  · next l f hw =>
    split at h
    · next m _ =>
      split at h
      · next hm =>
        obtain ⟨hh, -⟩ := work_cases hw
        cases h
        rw [hp _ hm]
        simp only [State.dispatch, hd _ hm, State.actWithout]
        exact acted _ _ _ _ _ (by cases l <;> exact hh)
      · cases h
    · cases h
  · cases h

/-! ### Commands -/

/-- What a command can do before its event ends with the judgement of the attention set. -/
inductive Calm (s : State) : State → Prop
  | outer {u : State} : Outer s u → Calm s u
  | turn {u : State} : Turns s u → u.sig.held = none → Calm s u
  | restart (q : MgmtRequest) : Calm s (s.restart.reply q .done [])

/-- What a command can do before its event ends at the memory port. -/
inductive Works (s : State) : State → Prop
  | turn {u : State} : Turns s u → Works s u
  | outer {u : State} : Outer s u → Works s u
  | touch (h : Hid) {u : State} : Outer (s.touch h) u → Works s u
  | format {u : State} : Outer s.startFormat u → Works s u
  | store (a : RecAddr) (r : Record) {u : State} : Outer (s.store a r) u → Works s u
  | search {u : State} : s.completeSearchRead = some u → Works s u
  | mgmtWrite {u : State} : s.completeMgmtWrite = some u → Works s u
  | emptyWrite {u : State} : s.completeEmptyWrite = some u → Works s u
  | sweepWrite {u : State} : s.completeSweepWrite = some u → Works s u

/-- What a step is: nothing that the block remembers outside its links and calls, an effect with the end of its event, or a
pin reset. -/
inductive Steps (s : State) : State → Prop
  | outer {t : State} : Outer s t → Steps s t
  | calm {u : State} : Calm s u → Steps s (u.judgeAttention s)
  | works {u : State} : Works s u → Steps s (u.settle s)
  | reset (p : List Instr) (o : Option PortOp) : Steps s (.pinReset p o s.reg.mem)

theorem steps_judged {s : State} {o : Option State} (h : ∀ u, o = some u → Calm s u) : Steps s (s.judged o) := by
  cases o with
  | none => exact .outer (.refl s)
  | some u => exact .calm (h u rfl)

theorem steps_settled {s : State} {o : Option State} (h : ∀ u, o = some u → Works s u) : Steps s (s.settled o) := by
  cases o with
  | none => exact .outer (.refl s)
  | some u => exact .works (h u rfl)

/-- An event that takes place under a condition, with an outer change. -/
theorem calm_ite {s t : State} {b : Bool} (h : Outer s t) : ∀ u, (if b then some t else none) = some u → Calm s u := by
  intro u hu
  split at hu
  · cases hu; exact .outer h
  · cases hu

/-- An event that takes place for a frame or a request, with an outer change. -/
theorem calm_map {α : Type} {s : State} {o : Option α} {f : α → State} (h : ∀ x, Outer s (f x)) :
    ∀ u, o.map f = some u → Calm s u := by
  intro u hu
  obtain ⟨x, -, rfl⟩ := Option.map_eq_some_iff.1 hu
  exact .outer (h x)

theorem works_map {α : Type} {s : State} {o : Option α} {f : α → State} (h : ∀ x, Works s (f x)) :
    ∀ u, o.map f = some u → Works s u := by
  intro u hu
  obtain ⟨x, -, rfl⟩ := Option.map_eq_some_iff.1 hu
  exact h x

theorem calm_turn {s : State} {mine : Msg → Bool} {act : Act} (hp : Picks mine act)
    (hd : ∀ m, mine m = true → m.hid = none) : ∀ u, s.turn mine act = some u → Calm s u :=
  fun _ h => .turn (turn_turns hp h) (turn_direct_held hp hd h)

theorem works_turn {s : State} {mine : Msg → Bool} {act : Act} (hp : Picks mine act) :
    ∀ u, s.turn mine act = some u → Works s u := fun _ h => .turn (turn_turns hp h)

theorem picks_seize_origin : Picks (Msg.isSeize .origin) actSeizeOrigin
  | .seize _ _ .origin _, _ => rfl
theorem picks_seize_answer : Picks (Msg.isSeize .answer) actSeizeAnswer
  | .seize _ _ .answer _, _ => rfl
theorem picks_seize_moveIn : Picks (Msg.isSeize .moveIn) actSeizeMoveIn
  | .seize _ _ .moveIn _, _ => rfl

/-! ### Record requests -/

variable (s : State)

theorem works_withOperands {α : Type} {t : State} (q : MgmtRequest) (ops : Option α) {run : α → State}
    (h : Outer s t) (hr : ∀ x, Works s (run x)) : Works s (t.withOperands q ops run) := by
  simp only [State.withOperands]
  split
  · exact hr _
  · exact .outer (h.trans (outer_reply _ q _ _))

theorem works_whenFormatted {t : State} (q : MgmtRequest) {run : State} (h : Outer s t) (hr : Works s run) :
    Works s (t.whenFormatted q run) := by
  simp only [State.whenFormatted]
  split
  · exact .outer (h.trans (outer_reply _ q _ _))
  · exact hr

theorem works_unlessSweeping {t : State} (q : MgmtRequest) {run : State} (h : Outer s t) (hr : Works s run) :
    Works s (t.unlessSweeping q run) := by
  simp only [State.unlessSweeping]
  split
  · exact .outer (h.trans (outer_reply _ q _ _))
  · exact hr

theorem touch_setWatch (w : Option Watch) (h : Hid) : (s.setWatch w).touch h = (s.touch h).setWatch w := by
  simp only [State.touch, State.setWatch]
  split <;> rfl

theorem works_readRecord (q : MgmtRequest) : Works s (s.runReadRecord q) := by
  have hw := outer_setWatch s none
  refine works_withOperands s q _ hw fun h => works_whenFormatted s q hw ?_
  simp only [State.readHid]
  split
  · refine .touch h ?_
    rw [touch_setWatch]
    exact ((outer_setWatch _ _).trans (outer_setWatch _ _)).trans (outer_reply _ _ _ _)
  · exact .outer (hw.trans (outer_setOp _ _))

theorem works_writeRecord (q : MgmtRequest) : Works s (s.runWriteRecord q) :=
  works_withOperands s q _ (.refl s) fun _ => works_whenFormatted s q (.refl s) (.outer (outer_setOp s _))

theorem works_writeIfUnchanged (q : MgmtRequest) : Works s (s.runWriteIfUnchanged q) := by
  have hw := outer_setWatch s none
  refine works_withOperands s q _ hw fun x => works_whenFormatted s q hw ?_
  split
  · exact .outer (hw.trans (outer_setOp _ _))
  · exact .outer (hw.trans (outer_reply _ _ _ _))

theorem works_deleteRecord (q : MgmtRequest) : Works s (s.runDeleteRecord q) :=
  works_withOperands s q _ (.refl s) fun _ => works_whenFormatted s q (.refl s) (.outer (outer_setOp s _))

theorem works_clearSlot (q : MgmtRequest) : Works s (s.runClearSlot q) :=
  works_withOperands s q _ (.refl s) fun _ => works_whenFormatted s q (.refl s) (.outer (outer_setOp s _))

theorem works_format (q : MgmtRequest) : Works s (s.runFormat q) := by
  refine works_withOperands s q _ (.refl s) fun _ => ?_
  split
  · exact .outer (outer_reply s _ _ _)
  · exact works_unlessSweeping s q (.refl s) (.format (outer_reply _ _ _ _))

theorem works_sweep (q : MgmtRequest) : Works s (s.runSweep q) := by
  refine works_withOperands s q _ (.refl s) fun x => works_whenFormatted s q (.refl s)
    (works_unlessSweeping s q (.refl s) (.outer ?_))
  have hs : Outer s (s.startSweep x.1 x.2.1 x.2.2) :=
    ⟨rfl, rfl, rfl, rfl, rfl, rfl, rfl, rfl, id, fun h => ⟨h.1, Nat.zero_le _⟩, id⟩
  exact hs.trans (outer_reply _ _ _ _)

/-! ### Completions -/

theorem works_writeThrough {u : State} (h : s.completeWriteThrough = some u) : Works s u := by
  simp only [State.completeWriteThrough] at h
  split at h
  · cases h; exact .store _ _ (outer_writtenByOther s _ _)
  · cases h

theorem works_mgmtRead {u : State} (h : s.completeMgmtRead = some u) : Works s u := by
  simp only [State.completeMgmtRead] at h
  split at h
  · split at h
    · cases h; exact .outer ((outer_setPort s none).trans (outer_mgmtRead _ _ _))
    · cases h; exact .outer (outer_setPort s none)
  · cases h

theorem outer_formatOn : Outer s s.formatOn := ⟨rfl, rfl, rfl, rfl, rfl, rfl, rfl, rfl, id, id, id⟩

theorem works_formatWrite {u : State} (h : s.completeFormatWrite = some u) : Works s u := by
  simp only [State.completeFormatWrite] at h
  split at h
  · rw [← Option.some.inj h]
    exact .store _ _ (outer_formatOn _)
  · cases h

theorem works_sweepRead {u : State} (h : s.completeSweepRead = some u) : Works s u := by
  simp only [State.completeSweepRead] at h
  split at h
  · split at h
    · cases h; exact .outer ((outer_setPort s none).trans (outer_sweepRead _ _ _ _ _ _))
    · cases h; exact .outer (outer_setPort s none)
  · cases h

theorem works_orphan {u : State} (h : s.completeOrphan = some u) : Works s u := by
  simp only [State.completeOrphan] at h
  split at h
  · cases h; exact .outer (outer_setPort s none)
  · cases h; exact .store _ _ (.refl _)
  · cases h

/-- R138: CELL-CONTROL. -/
theorem calm_control (a : CellAction) : ∀ u, s.control a = some u → Calm s u := by
  intro u h
  simp only [State.control] at h
  split at h
  · split at h
    · cases h
      exact .outer (outer_withOperands s _ _ (.refl s) fun x => (outer_controlCell s _ _).trans (outer_reply _ _ _ _))
    · cases h
  · cases h

/-- R179: RESTART. -/
theorem calm_restart (q : MgmtRequest) : Calm s (s.runRestart q) := by
  simp only [State.runRestart, State.withOperands]
  split
  · exact .restart q
  · exact .outer (outer_reply s _ _ _)

/-- Every command has an outcome, and it is one of these effects. -/
theorem exec_steps (v : State) (i : Instr) : ∃ t, exec i v = .next t ∧ Steps v t := by
  cases i with
  | pinReset => exact ⟨_, rfl, .reset _ _⟩
  | fillFrameReceived l run => exact ⟨_, rfl, steps_judged (calm_map fun _ => outer_heard v l)⟩
  | invalidFrameReceived l run =>
    refine ⟨_, rfl, ?_⟩
    refine steps_judged fun u hu => ?_
    split at hu
    · exact .outer (outer_flagRun v hu)
    · cases hu
  | signallingArrival l run =>
    exact ⟨_, rfl, steps_judged (calm_map fun f =>
      (outer_received v l).trans (outer_modUnit _ l (LinkUnit.enqueue_fits _ _ _)))⟩
  | mgmtArrival run =>
    exact ⟨_, rfl, steps_judged (calm_map fun f => (outer_received v _).trans (outer_readHeader _ _))⟩
  | uplinkVoiceFrame c run =>
    exact ⟨_, rfl, steps_judged (calm_map fun f => (outer_received v _).trans (outer_voiceFromCell _ c _))⟩
  | downlinkVoiceFrame run =>
    exact ⟨_, rfl, steps_judged (calm_map fun f => (outer_received v _).trans (outer_voiceFromExchange _ _))⟩
  | loopedFrameReturn c run => exact ⟨_, rfl, steps_judged (calm_ite (outer_looped v c run))⟩
  | frameSend l => exact ⟨_, rfl, .outer (outer_sendQueued v l)⟩
  | frameSendEnd l => exact ⟨_, rfl, .outer (outer_sent v l)⟩
  | fillFrameSend l => exact ⟨_, rfl, .outer (outer_sendFill v l)⟩
  | testFrameSend c => exact ⟨_, rfl, .outer (outer_sendTest v c)⟩
  | linkSilenceExpiry l =>
    refine ⟨_, rfl, ?_⟩
    refine steps_judged (calm_ite ?_)
    cases l with
    | cell c => exact outer_cellSilent v c
    | exchange => exact outer_exchSilent v
  | malformedMessage => exact ⟨_, rfl, steps_judged fun u hu => .outer (outer_discardMalformed v hu)⟩
  | enrol => exact ⟨_, rfl, steps_settled (works_turn fun | .enrol _ _, _ => rfl)⟩
  | camp => exact ⟨_, rfl, steps_settled (works_turn fun | .camp _, _ => rfl)⟩
  | retire => exact ⟨_, rfl, steps_settled (works_turn fun | .retire _, _ => rfl)⟩
  | seizeOrigin => exact ⟨_, rfl, steps_settled (works_turn picks_seize_origin)⟩
  | seizeAnswer => exact ⟨_, rfl, steps_settled (works_turn picks_seize_answer)⟩
  | seizeMoveIn => exact ⟨_, rfl, steps_settled (works_turn picks_seize_moveIn)⟩
  | vacate => exact ⟨_, rfl, steps_judged (calm_turn (fun | .vacate _, _ => rfl) fun | .vacate _, _ => rfl)⟩
  | stateReport => exact ⟨_, rfl, steps_judged (calm_turn (fun | .stateReport _, _ => rfl) fun | .stateReport _, _ => rfl)⟩
  | relayFromCell => exact ⟨_, rfl, steps_judged (calm_turn (fun | .relayFromCell _ _, _ => rfl) fun | .relayFromCell _ _, _ => rfl)⟩
  | offer => exact ⟨_, rfl, steps_settled (works_turn fun | .offer _ _, _ => rfl)⟩
  | endCall => exact ⟨_, rfl, steps_judged (calm_turn (fun | .endCall _, _ => rfl) fun | .endCall _, _ => rfl)⟩
  | relayFromExchange => exact ⟨_, rfl, steps_judged (calm_turn (fun | .relayFromExchange _ _, _ => rfl) fun | .relayFromExchange _ _, _ => rfl)⟩
  | holdTimerExpiry n => exact ⟨_, rfl, steps_judged (calm_ite ((closed_outer v).loseCall n (.refl v)))⟩
  | clearTimerExpiry n =>
    exact ⟨_, rfl, steps_judged (calm_ite ((closed_outer v).toFree n ((closed_outer v).freeReleasing n (.refl v))))⟩
  | stageTimerExpiry n => exact ⟨_, rfl, steps_judged (calm_ite ((closed_outer v).stageExpired n (.refl v)))⟩
  | bridgeTimerExpiry n => exact ⟨_, rfl, steps_judged (calm_ite ((closed_outer v).bridgeExpired n (.refl v)))⟩
  | legSilenceExpiry n leg => exact ⟨_, rfl, steps_judged (calm_ite ((closed_outer v).loseLeg n leg (.refl v)))⟩
  | holdDeadlineExpiry n k =>
    exact ⟨_, rfl, steps_judged (calm_ite ((closed_outer v).emitUntil n _ _ _ (.refl v)))⟩
  | searchReadComplete => exact ⟨_, rfl, steps_settled fun u hu => .search hu⟩
  | writeThroughComplete => exact ⟨_, rfl, steps_settled fun u hu => works_writeThrough v hu⟩
  | mgmtReadComplete => exact ⟨_, rfl, steps_settled fun u hu => works_mgmtRead v hu⟩
  | mgmtWriteComplete => exact ⟨_, rfl, steps_settled fun u hu => .mgmtWrite hu⟩
  | emptyWriteComplete => exact ⟨_, rfl, steps_settled fun u hu => .emptyWrite hu⟩
  | formatWriteComplete => exact ⟨_, rfl, steps_settled fun u hu => works_formatWrite v hu⟩
  | sweepReadComplete => exact ⟨_, rfl, steps_settled fun u hu => works_sweepRead v hu⟩
  | sweepWriteComplete => exact ⟨_, rfl, steps_settled fun u hu => .sweepWrite hu⟩
  | readRecord => exact ⟨_, rfl, steps_settled (works_map (works_readRecord v))⟩
  | writeRecord => exact ⟨_, rfl, steps_settled (works_map (works_writeRecord v))⟩
  | writeIfUnchanged => exact ⟨_, rfl, steps_settled (works_map (works_writeIfUnchanged v))⟩
  | deleteRecord => exact ⟨_, rfl, steps_settled (works_map (works_deleteRecord v))⟩
  | clearSlot => exact ⟨_, rfl, steps_settled (works_map (works_clearSlot v))⟩
  | formatRegistry => exact ⟨_, rfl, steps_settled (works_map (works_format v))⟩
  | sweep => exact ⟨_, rfl, steps_settled (works_map (works_sweep v))⟩
  | readSweep =>
    exact ⟨_, rfl, steps_judged (calm_map fun q => outer_withOperands v _ _ (.refl v) fun _ =>
      (outer_readUnread v).trans (outer_reply _ _ _ _))⟩
  | loadProfile =>
    exact ⟨_, rfl, steps_judged (calm_map fun q => outer_withOperands v _ _ (.refl v) fun _ =>
      (outer_modTables v _).trans (outer_reply _ _ _ _))⟩
  | loadNeighbourRow =>
    exact ⟨_, rfl, steps_judged (calm_map fun q => outer_withOperands v _ _ (.refl v) fun _ =>
      (outer_modTables v _).trans (outer_reply _ _ _ _))⟩
  | loadZone =>
    exact ⟨_, rfl, steps_judged (calm_map fun q => outer_withOperands v _ _ (.refl v) fun _ =>
      (outer_modTables v _).trans (outer_reply _ _ _ _))⟩
  | loadCell =>
    exact ⟨_, rfl, steps_judged (calm_map fun q => outer_withOperands v _ _ (.refl v) fun _ =>
      (outer_modTables v _).trans (outer_reply _ _ _ _))⟩
  | loadTiming =>
    exact ⟨_, rfl, steps_judged (calm_map fun q => outer_withOperands v _ _ (.refl v) fun _ =>
      (outer_modTables v _).trans (outer_reply _ _ _ _))⟩
  | readTable =>
    exact ⟨_, rfl, steps_judged (calm_map fun q => outer_withOperands v _ _ (.refl v) fun _ => outer_reply _ _ _ _)⟩
  | cellControlEnable => exact ⟨_, rfl, steps_judged (calm_control v _)⟩
  | cellControlDisable => exact ⟨_, rfl, steps_judged (calm_control v _)⟩
  | cellControlLoop => exact ⟨_, rfl, steps_judged (calm_control v _)⟩
  | linkTest =>
    refine ⟨_, rfl, ?_⟩
    refine steps_judged (calm_map fun q => outer_withOperands v _ _ (.refl v) fun x => ?_)
    split
    · exact (outer_modCell v x.1 (f := fun u => { u with testCount := x.2 })
        fun h => ⟨h.fifo, h.signalling, h.voice⟩).trans (outer_reply _ _ _ _)
    · exact outer_reply _ _ _ _
  | readLink =>
    exact ⟨_, rfl, steps_judged (calm_map fun q => outer_withOperands v _ _ (.refl v) fun _ =>
      (outer_clearLink v _).trans (outer_reply _ _ _ _))⟩
  | readCell =>
    exact ⟨_, rfl, steps_judged (calm_map fun q => outer_withOperands v _ _ (.refl v) fun c =>
      (outer_modCell v c (f := fun u => { u with marks := .unmarked })
        fun h => ⟨h.fifo, h.signalling, h.voice⟩).trans (outer_reply _ _ _ _))⟩
  | readCall =>
    exact ⟨_, rfl, steps_judged (calm_map fun q => outer_withOperands v _ _ (.refl v) fun _ => outer_reply _ _ _ _)⟩
  | forceClear =>
    exact ⟨_, rfl, steps_judged (calm_map fun q => outer_withOperands v _ _ (.refl v) fun n =>
      ((closed_outer v).forceClear n (.refl v)).trans (outer_reply _ _ _ _))⟩
  | readCause =>
    exact ⟨_, rfl, steps_judged (calm_map fun q => outer_withOperands v _ _ (.refl v) fun _ => outer_reply _ _ _ _)⟩
  | setAttention =>
    exact ⟨_, rfl, steps_judged (calm_map fun q => outer_withOperands v _ _ (.refl v) fun x =>
      (outer_attn (f := fun a => { a with enables := x }) v id).trans (outer_reply _ _ _ _))⟩
  | readCapture =>
    exact ⟨_, rfl, steps_judged (calm_map fun q => outer_withOperands v _ _ (.refl v) fun _ =>
      (outer_attn (f := fun a => { a with captures := a.captures.tail }) v fun h => by
        simp only [Attention.Fits, List.length_tail] at h ⊢; omega).trans (outer_reply _ _ _ _))⟩
  | setCapture =>
    exact ⟨_, rfl, steps_judged (calm_map fun q => outer_withOperands v _ _ (.refl v) fun x =>
      (outer_attn (f := fun a => { a with captureEnables := x }) v id).trans (outer_reply _ _ _ _))⟩
  | restart =>
    refine ⟨_, rfl, steps_judged fun u hu => ?_⟩
    obtain ⟨q, -, rfl⟩ := Option.map_eq_some_iff.1 hu
    exact calm_restart v q
  | unknownCommand => exact ⟨_, rfl, steps_judged (calm_map fun q => outer_reply v _ _ _)⟩
  | portOperationCompletesIntoNothing => exact ⟨_, rfl, steps_settled fun u hu => works_orphan v hu⟩

/-- An inversion of `step`: the command leaves the queue, which is an outer change, and has its effect. -/
theorem step_steps {s t : State} (h : step s = .next t) : ∃ v, Outer s v ∧ Steps v t := by
  simp only [step] at h
  split at h
  · next i rest _ =>
    obtain ⟨u, hu, hs⟩ := exec_steps { s with pending := rest } i
    obtain rfl : u = t := by simpa [hu] using h
    exact ⟨{ s with pending := rest }, ⟨rfl, rfl, rfl, rfl, rfl, rfl, rfl, rfl, id, id, id⟩, hs⟩
  · cases h
    exact ⟨s, .refl s, .outer ⟨rfl, rfl, rfl, rfl, rfl, rfl, rfl, rfl, id, id, id⟩⟩

end Sys2Proof.Machine
end

section
/-! Induction over steps: a property that each kind of change keeps is kept by every step. -/

namespace Sys2Proof.Machine

open Sys2Proof

theorem Record.managed_hid (r : Record) (st : Standing) (cl : MobClass) : (r.managed st cl).hid = r.hid := by
  cases st <;> rfl

theorem Record.clearMark_hid (r : Record) (m : SweepMode) : (r.clearMark m).hid = r.hid := by cases m <;> rfl

theorem MgmtJob.change_hid (j : MgmtJob) (r : Record) : (j.change r).hid = r.hid := by
  cases j with
  | write h st cl => exact r.managed_hid st cl
  | read | delete | clear => rfl

/-- The changes that keep a property of what the block remembers between events: those outside registry, cache and
parking, a message handled, the port's grants, and each change that a completed operation or a request makes. -/
structure Kept (P : State → Prop) : Prop where
  outer : ∀ {s t : State}, Outer s t → P s → P t
  turn : ∀ {s u : State}, Turns s u → P s → P u
  release : ∀ {s : State} {m : Held}, s.sig.held = some m → P s → P (s.release (actOf m.msg) m)
  port : ∀ {s : State} (before : State), P s → P (s.settlePort before)
  touch : ∀ {s : State} (h : Hid), P s → P (s.touch h)
  format : ∀ {s : State}, P s → P s.startFormat
  store : ∀ {s : State} (a : RecAddr) (r : Record), P s → P (s.store a r)
  search : ∀ {s u : State}, s.completeSearchRead = some u → P s → P u
  carry : ∀ {s : State} (a : RecAddr) {f : Record → Record}, (∀ r, (f r).hid = r.hid) → P s → P (s.carry a f)
  report : ∀ {s : State} (hids : List Hid), P s → P (s.reportWrite hids)
  forget : ∀ {s : State} (a : RecAddr), P s → P (s.modEntriesAt a fun _ => none)
  drop : ∀ {s : State} (a : RecAddr), P s → P { s with reg := { s.reg with writes := dropWrite s.reg.writes a } }
  restart : ∀ {s : State}, P s → P s.restart
  reset : ∀ {s : State} (p : List Instr) (o : Option PortOp), P s → P (.pinReset p o s.reg.mem)

namespace Kept

variable {P : State → Prop} (k : Kept P) {s t u : State}

include k

theorem tryRelease (h : s.tryRelease = some u) (hs : P s) : P u := by
  simp only [State.tryRelease] at h
  split at h
  · next m hm =>
    split at h
    · cases h; exact k.release hm hs
    · cases h
  · cases h

/-- R15, R12, R183: the end of an event at the memory port. -/
theorem settle (before : State) (hs : P s) : P (s.settle before) := by
  have hr (v : State) (hv : P v) : P (v.tryRelease.getD v) := by
    cases h : v.tryRelease with
    | none => exact hv
    | some w => exact k.tryRelease h hv
  have hp := k.port before (hr s hs)
  simp only [State.settle]
  refine k.outer (outer_judgeAttention _ before) ?_
  split
  · next w hw => exact k.port before (k.tryRelease hw hp)
  · exact hp

theorem writtenByOther (a : RecAddr) (r : Record) (hs : P s) : P (s.writtenByOther a r) :=
  k.outer (outer_writtenByOther s a r) (k.store a r hs)

theorem mgmtWrite (h : s.completeMgmtWrite = some u) (hs : P s) : P u := by
  simp only [State.completeMgmtWrite] at h
  split at h
  · next a r _ =>
    cases h
    have hw := k.writtenByOther a r hs
    refine k.outer (outer_finish _ _ _) (k.report _ ?_)
    split
    · next op _ => exact k.carry a op.job.change_hid hw
    · exact hw
  · cases h

theorem emptyWrite (h : s.completeEmptyWrite = some u) (hs : P s) : P u := by
  simp only [State.completeEmptyWrite] at h
  split at h
  · next a _ =>
    rw [← Option.some.inj h]
    exact k.outer (outer_finish _ _ _) (k.report _ (k.drop a (k.forget a (k.writtenByOther a .empty hs))))
  · cases h

theorem sweepWrite (h : s.completeSweepWrite = some u) (hs : P s) : P u := by
  simp only [State.completeSweepWrite] at h
  split at h
  · next a r _ =>
    have hw : P (s.written a r) := k.outer (outer_written s a r) (k.store a r hs)
    split at h
    · next mode b last image todo _ =>
      cases h
      exact k.outer (outer_sweepWritten _ _ _ _ _ _) (k.report _ (k.carry a (fun x => x.clearMark_hid mode) hw))
    · cases h; exact hw
  · cases h

theorem calm (h : Calm s u) (hs : P s) : P u := by
  cases h with
  | outer h => exact k.outer h hs
  | turn h _ => exact k.turn h hs
  | restart q => exact k.outer (outer_reply _ q _ _) (k.restart hs)

theorem works (h : Works s u) (hs : P s) : P u := by
  cases h with
  | turn h => exact k.turn h hs
  | outer h => exact k.outer h hs
  | touch g h => exact k.outer h (k.touch g hs)
  | format h => exact k.outer h (k.format hs)
  | store a r h => exact k.outer h (k.store a r hs)
  | search h => exact k.search h hs
  | mgmtWrite h => exact k.mgmtWrite h hs
  | emptyWrite h => exact k.emptyWrite h hs
  | sweepWrite h => exact k.sweepWrite h hs

/-- Every step keeps the property. -/
theorem step (hs : P s) (h : Machine.step s = .next t) : P t := by
  obtain ⟨v, ho, hv⟩ := step_steps h
  have hs := k.outer ho hs
  cases hv with
  | outer h => exact k.outer h hs
  | calm hc => exact k.outer (outer_judgeAttention _ _) (k.calm hc hs)
  | works hw => exact k.settle _ (k.works hw hs)
  | reset p o => exact k.reset p o hs

end Kept

/-! ### Properties of registry memory -/

/-- R26: giving out contexts changes the contexts, the order of their searches and the phases of groups alone. -/
theorem assign_eq (n : Nat) : ∀ s : State, ∃ contexts startOrder groups, State.assign n s =
    { s with reg := { s.reg with contexts, startOrder }, sig := { s.sig with groups } } := by
  induction n with
  | zero => intro s; exact ⟨_, _, _, rfl⟩
  | succ n ih =>
    intro s
    simp only [State.assign]
    split
    · split
      · next c h _ _ _ =>
        obtain ⟨x, y, z, h⟩ := ih { s with reg := s.reg.startSearch c h, sig := s.sig.setPhase h (.searching c) }
        exact ⟨x, y, z, h⟩
      · next c h _ _ _ =>
        obtain ⟨x, y, z, h⟩ := ih { s with sig := s.sig.setReady h false }
        exact ⟨x, y, z, h⟩
    · exact ⟨_, _, _, rfl⟩

theorem assignContexts_eq (s : State) : ∃ contexts startOrder groups, s.assignContexts =
    { s with reg := { s.reg with contexts, startOrder }, sig := { s.sig with groups } } := assign_eq _ s

theorem assignContexts_mem (s : State) : s.assignContexts.reg.mem = s.reg.mem := by
  obtain ⟨x, y, z, h⟩ := assignContexts_eq s
  rw [h]

theorem newGroup_mem (s : State) (h : Hid) (l : LinkId) (m : Msg) : (s.newGroup h l m).reg.mem = s.reg.mem := by
  simp only [State.newGroup, assignContexts_mem]

theorem changeEntry_mem (s : State) (h : Hid) (a : RecAddr) (r : Record) :
    (s.changeEntry h a r).reg.mem = s.reg.mem := by simp [State.changeEntry]

theorem handles_mem {s u : State} (h : Handles s u) : u.reg.mem = s.reg.mem := by
  induction h with
  | acted _ h => exact h.mem
  | changed _ h _ _ _ => rw [changeEntry_mem, h.mem]
  | held | parked => rfl
  | grouped => exact newGroup_mem ..
  | touched h _ ih => rw [ih, State.touch_reg]

theorem turns_mem {s u : State} (h : Turns s u) : u.reg.mem = s.reg.mem := by
  cases h with
  | frame l _ _ h => rw [handles_mem h, State.takeFrame_reg]
  | ready _ _ _ h => rw [handles_mem h]
  | reopened => exact assignContexts_mem ..

theorem searchRead_mem (s : State) (c : ContextId) (x : Search) (scan : Scan) :
    (s.searchRead c x scan).reg.mem = s.reg.mem := by
  simp only [State.searchRead, State.searchDone]
  split
  · rfl
  · split
    · rfl
    · split
      · rw [assignContexts_mem]; rfl
      · rw [assignContexts_mem]; simp [Registry.freeUp]

theorem completeSearchRead_mem {s u : State} (h : s.completeSearchRead = some u) : u.reg.mem = s.reg.mem := by
  simp only [State.completeSearchRead] at h
  split at h
  · split at h
    · cases h; exact searchRead_mem ..
    · cases h; rfl
  · cases h

theorem reportWrite_mem (s : State) (hids : List Hid) : (s.reportWrite hids).reg.mem = s.reg.mem := by
  simp only [State.reportWrite, assignContexts_mem]

theorem startFormat_mem (s : State) : s.startFormat.reg.mem = s.reg.mem := by
  simp only [State.startFormat, State.setWatch_reg, assignContexts_mem]

theorem release_mem (s : State) (m : Held) : (s.release (actOf m.msg) m).reg.mem = s.reg.mem := by
  rw [handles_mem (release_handles s m)]

/-- R1: a property of memory that every record write keeps. -/
theorem kept_mem {p : List Host.Cell → Prop} (hw : ∀ mem a r, p mem → p (writeRecord mem a r)) :
    Kept fun s => p s.reg.mem := by
  have same {s t : State} (h : t.reg.mem = s.reg.mem) (hs : p s.reg.mem) : p t.reg.mem := h ▸ hs
  constructor
  case outer => exact fun h => same h.mem
  case turn => exact fun h => same (turns_mem h)
  case release => exact fun {s m} _ => same (release_mem s m)
  case port => exact fun {s} before => same (samePort_settlePort s before).mem
  case touch => exact fun {s} h => same (by rw [State.touch_reg])
  case format => exact fun {s} => same (startFormat_mem s)
  case store => exact fun a r => hw _ a r
  case search => exact fun h => same (completeSearchRead_mem h)
  case carry => exact fun _ _ _ => same rfl
  case report => exact fun {s} hids => same (reportWrite_mem s hids)
  case forget => exact fun _ => same rfl
  case drop => exact fun _ => same rfl
  case restart => exact same rfl
  case reset => exact fun _ _ => same rfl

end Sys2Proof.Machine

open Sys2Proof Sys2Proof.Machine

/-- Settles O5: memory changes by record writes alone, and each keeps the canonical form. -/
theorem memoryStaysCanonical : Obligations.MemoryStaysCanonical := by
  unfold Obligations.MemoryStaysCanonical
  intro s t hs h
  exact (kept_mem (p := fun mem => Memory.wf mem = true) fun _ a r hm => wf_writeRecord a r hm).step hs h

end

section
/-! Sizes: the FIFOs, queues and lists of links, Management Unit and captures; the write-through queue and the pass
counts; and parking (R13, R14, R18, R27, R135, R143, R144, R164, R185). -/

namespace Sys2Proof.Machine

open Sys2Proof

/-! ### Links, requests and captures -/

/-- The sizes that only outer changes and resets touch. -/
def State.OuterFits (s : State) : Prop := s.LinksFit ∧ s.mgmt.Fits ∧ s.attn.Fits

theorem outerFits_congr {s t : State} (hc : t.cells = s.cells) (hx : t.exch = s.exch)
    (hq : t.mgmt.queue = s.mgmt.queue) (hl : t.mgmt.sweepList = s.mgmt.sweepList) (ha : t.attn = s.attn)
    (h : s.OuterFits) : t.OuterFits := by
  simpa only [State.OuterFits, State.LinksFit, Management.Fits, Attention.Fits, hc, hx, hq, hl, ha] using h

theorem outerFits_outer {s t : State} (h : Outer s t) (hs : s.OuterFits) : t.OuterFits :=
  ⟨h.links hs.1, h.mgmt hs.2.1, h.attn hs.2.2⟩

theorem outerFits_assign {s : State} (h : s.OuterFits) : s.assignContexts.OuterFits := by
  obtain ⟨x, y, z, e⟩ := assignContexts_eq s
  rw [e]
  exact h

theorem outerFits_touch {s : State} (g : Hid) (h : s.OuterFits) : (s.touch g).OuterFits :=
  outerFits_congr (by simp) (by simp) (by simp) (by simp) (by simp) h

theorem changeEntry_queue (s : State) (h : Hid) (a : RecAddr) (r : Record) :
    (s.changeEntry h a r).mgmt.queue = s.mgmt.queue ∧ (s.changeEntry h a r).mgmt.sweepList = s.mgmt.sweepList := by
  simp [State.changeEntry, State.clearWatchAt]

theorem outerFits_handles {s u : State} (h : Handles s u) (hs : s.OuterFits) : u.OuterFits := by
  induction h with
  | acted _ h => exact outerFits_outer h hs
  | @changed s u g e r _ h _ _ _ =>
    have hq := changeEntry_queue u g e.addr r
    exact outerFits_congr (by simp) (by simp) hq.1 hq.2 (by simp) (outerFits_outer h hs)
  | held | parked => exact hs
  | grouped => exact outerFits_assign hs
  | touched h _ ih => exact ih (outerFits_touch h hs)

theorem outerFits_turns {s u : State} (h : Turns s u) (hs : s.OuterFits) : u.OuterFits := by
  cases h with
  | frame l _ _ h => exact outerFits_handles h (outerFits_outer (outer_takeFrame s l) hs)
  | ready _ _ _ h => exact outerFits_handles h hs
  | reopened => exact outerFits_assign hs

theorem outerFits_searchDone {s : State} (c : ContextId) (g : Hid) (f : Bool) (h : s.OuterFits) :
    (s.searchDone c g f).OuterFits :=
  outerFits_assign (s := { s with reg := s.reg.freeUp c, sig := s.sig.setReady g f }) h

theorem outerFits_search {s u : State} (h : s.completeSearchRead = some u) (hs : s.OuterFits) : u.OuterFits := by
  simp only [State.completeSearchRead] at h
  split at h
  · split at h
    · rw [← Option.some.inj h]
      have hs : (s.setPort none).OuterFits := hs
      simp only [State.searchRead]
      split
      · exact hs
      · split
        · exact hs
        · split
          · exact outerFits_searchDone _ _ _ hs
          · exact outerFits_searchDone _ _ _ (outerFits_outer (outer_reportDamaged _ _ _) hs)
    · cases h; exact hs
  · cases h

theorem CellLink.restart_fits (u : CellLink) (now : Time) : (u.restart now).Fits :=
  ⟨Nat.zero_le _, Nat.zero_le _, Nat.zero_le _⟩

theorem CellLink.reset_fits : CellLink.reset.Fits := ⟨Nat.zero_le _, Nat.zero_le _, Nat.zero_le _⟩

theorem kept_outerFits : Kept State.OuterFits where
  outer := outerFits_outer
  turn := outerFits_turns
  release {s m} _ hs := outerFits_handles (release_handles s m) hs
  port {s} before hs :=
    have p := samePort_settlePort s before
    outerFits_congr p.cells p.exch p.queue p.sweepList p.attn hs
  touch g hs := outerFits_touch g hs
  format {s} hs := outerFits_outer (outer_setWatch _ none) (outerFits_assign hs)
  store _ _ hs := hs
  search := outerFits_search
  carry _ _ _ hs := hs
  report _ hs := outerFits_assign hs
  forget _ hs := hs
  drop _ hs := hs
  restart {s} _ := by
    refine ⟨⟨fun c => ?_, Nat.zero_le _, Nat.zero_le _⟩, ⟨Nat.zero_le _, Nat.zero_le _⟩, Nat.zero_le _⟩
    simp only [State.restart, Table.at_map]
    exact CellLink.restart_fits _ _
  reset _ _ _ := by
    refine ⟨⟨fun c => ?_, Nat.zero_le _, Nat.zero_le _⟩, ⟨Nat.zero_le _, Nat.zero_le _⟩, Nat.zero_le _⟩
    simp only [State.pinReset, Table.at_all]
    exact CellLink.reset_fits

/-! ### Write-through queue and pass counts -/

/-- R14: a write that fits joins a queue within its size. -/
theorem length_joinWrite {l : List QueuedWrite} {a : RecAddr} (r : Record) (hf : writeFits l a = true)
    (h : l.length ≤ Config.writeQueueSize) : (joinWrite l a r).length ≤ Config.writeQueueSize := by
  simp only [joinWrite]
  split
  · simpa using h
  · next hn =>
    rw [List.length_append]
    exact by simpa [writeFits, hn] using hf

/-- R13: no pass count exceeds 8. -/
structure PassCounts.Fits (p : PassCounts) : Prop where
  w : p.w ≤ Config.overdue
  s : p.s ≤ Config.overdue
  m : p.m ≤ Config.overdue
  b : p.b ≤ Config.overdue

theorem Registry.fits_iff (r : Registry) :
    r.Fits ↔ r.writes.length ≤ Config.writeQueueSize ∧ r.pass.Fits :=
  ⟨fun h => ⟨h.writes, h.passW, h.passS, h.passM, h.passB⟩, fun h => ⟨h.1, h.2.w, h.2.s, h.2.m, h.2.b⟩⟩

theorem PassCounts.zero_fits : PassCounts.zero.Fits := ⟨Nat.zero_le _, Nat.zero_le _, Nat.zero_le _, Nat.zero_le _⟩

theorem PassCounts.Fits.of {p : PassCounts} (h : p.Fits) (r : Requester) : p.of r ≤ Config.overdue := by
  cases r
  · exact h.w
  · exact h.s
  · exact h.m
  · exact h.b

theorem passAfterGrant_le (s : State) (g r : Requester) : s.passAfterGrant g r ≤ Config.overdue := by
  simp only [State.passAfterGrant]
  split
  · exact Nat.zero_le _
  · split
    · exact Nat.min_le_right ..
    · exact Nat.zero_le _

theorem countGrant_fits (s : State) (g : Requester) : (s.countGrant g).reg.pass.Fits :=
  ⟨passAfterGrant_le .., passAfterGrant_le .., passAfterGrant_le .., passAfterGrant_le ..⟩

/-- What a grant starts leaves the pass counts. -/
theorem grant_pass (s : State) (r : Requester) : (s.grant r).reg.pass = s.reg.pass := by
  cases r with
  | w => simp only [State.grant, State.grantW]; split <;> rfl
  | s =>
    simp only [State.grant, State.grantS]
    split
    · split <;> rfl
    · rfl
  | m =>
    simp only [State.grant, State.grantM]
    split
    · rfl
    · split <;> rfl
  | b =>
    simp only [State.grant, State.grantB]
    split
    · rfl
    · split
      · rfl
      · split
        · rfl
        · exact (outer_sweepWritten s _ _ _ _ _).pass
      · rfl

theorem grants_pass (before : List ContextId) (n : Nat) : ∀ {s : State}, s.reg.pass.Fits →
    (State.grants before n s).reg.pass.Fits := by
  induction n with
  | zero => exact id
  | succ n ih =>
    intro s h
    simp only [State.grants]
    split
    · exact h
    · split
      · exact h
      · next r _ =>
        refine ih ?_
        show ((s.countGrant r).grant r).reg.pass.Fits
        rw [grant_pass]
        exact countGrant_fits s r

theorem settlePort_pass {s : State} (before : State) (h : s.reg.pass.Fits) : (s.settlePort before).reg.pass.Fits := by
  have hg := grants_pass before.reg.readyOrder 8 (s := { s with reg := s.reg.refresh before.reg.readyOrder }) h
  simp only [State.settlePort, State.dropPasses]
  constructor
  all_goals
    simp only
    split
    · exact hg.of _
    · exact Nat.zero_le _

theorem settlePort_writes_length (s before : State) : (s.settlePort before).reg.writes.length ≤ s.reg.writes.length := by
  rcases leavesWrites_settlePort s before with h | ⟨w, h, _⟩ | ⟨_, _, _, _, _, _, _, h⟩
  · rw [h]
  · rw [h]; exact Nat.le_succ _
  · rw [h]; exact List.length_filter_le ..

theorem regFits_congr {s t : State} (hw : t.reg.writes.length ≤ s.reg.writes.length) (hp : t.reg.pass = s.reg.pass)
    (h : s.reg.Fits) : t.reg.Fits := by
  rw [Registry.fits_iff] at h ⊢
  exact ⟨Nat.le_trans hw h.1, hp ▸ h.2⟩

theorem regFits_outer {s t : State} (h : Outer s t) (hs : s.reg.Fits) : t.reg.Fits :=
  regFits_congr (Nat.le_of_eq (by rw [h.writes])) h.pass hs

theorem regFits_assign {s : State} (h : s.reg.Fits) : s.assignContexts.reg.Fits := by
  obtain ⟨x, y, z, e⟩ := assignContexts_eq s
  rw [e]
  exact ⟨h.writes, h.passW, h.passS, h.passM, h.passB⟩

theorem changeEntry_writes (s : State) (h : Hid) (a : RecAddr) (r : Record) :
    (s.changeEntry h a r).reg.writes = joinWrite s.reg.writes a r := by simp [State.changeEntry]

theorem changeEntry_pass (s : State) (h : Hid) (a : RecAddr) (r : Record) :
    (s.changeEntry h a r).reg.pass = s.reg.pass := by simp [State.changeEntry]

theorem regFits_handles {s u : State} (h : Handles s u) (hs : s.reg.Fits) : u.reg.Fits := by
  induction h with
  | acted _ h => exact regFits_outer h hs
  | @changed s u g e r _ h _ _ hf =>
    have hu := (Registry.fits_iff _).1 (regFits_outer h hs)
    rw [Registry.fits_iff, changeEntry_writes, changeEntry_pass]
    exact ⟨length_joinWrite r (h.writes ▸ hf) hu.1, hu.2⟩
  | held | parked => exact hs
  | grouped => exact regFits_assign hs
  | touched h _ ih => exact ih (by rw [State.touch_reg]; exact hs)

theorem regFits_turns {s u : State} (h : Turns s u) (hs : s.reg.Fits) : u.reg.Fits := by
  cases h with
  | frame l _ _ h => exact regFits_handles h (by rw [State.takeFrame_reg]; exact hs)
  | ready _ _ _ h => exact regFits_handles h hs
  | reopened => exact regFits_assign hs

theorem regFits_search {s u : State} (h : s.completeSearchRead = some u) (hs : s.reg.Fits) : u.reg.Fits := by
  have same {r : Registry} (hw : r.writes = s.reg.writes) (hp : r.pass = s.reg.pass) : r.Fits :=
    (Registry.fits_iff _).2 (by rw [hw, hp]; exact (Registry.fits_iff _).1 hs)
  simp only [State.completeSearchRead] at h
  split at h
  · split at h
    · rw [← Option.some.inj h]
      simp only [State.searchRead, State.searchDone]
      split
      · exact same rfl rfl
      · split
        · exact same rfl rfl
        · split
          · exact regFits_assign (same rfl rfl)
          · exact regFits_assign (same (by simp [Registry.freeUp, State.setPort])
              (by simp [Registry.freeUp, State.setPort]))
    · cases h; exact same rfl rfl
  · cases h

theorem kept_regFits : Kept fun s => s.reg.Fits where
  outer := regFits_outer
  turn := regFits_turns
  release {s m} _ hs := regFits_handles (release_handles s m) hs
  port {s} before hs := by
    have h := (Registry.fits_iff _).1 hs
    exact (Registry.fits_iff _).2 ⟨Nat.le_trans (settlePort_writes_length s before) h.1, settlePort_pass before h.2⟩
  touch {s} g hs := by
    show (s.touch g).reg.Fits
    rw [State.touch_reg]; exact hs
  format {s} hs := by
    refine regFits_outer (outer_setWatch _ none) (regFits_assign ?_)
    exact regFits_congr (s := s) (Nat.zero_le _) rfl hs
  store {s} _ _ hs := regFits_congr (s := s) (Nat.le_refl _) rfl hs
  search := regFits_search
  carry {s} a f _ hs := regFits_congr (s := s) (by simp [State.carry, changeWrite]) rfl hs
  report {s} _ hs := regFits_assign (regFits_congr (s := s) (Nat.le_refl _) rfl hs)
  forget _ hs := hs
  drop {s} _ hs := regFits_congr (s := s) (List.length_filter_le ..) rfl hs
  restart _ := (Registry.fits_iff _).2 ⟨Nat.zero_le _, PassCounts.zero_fits⟩
  reset _ _ _ := (Registry.fits_iff _).2 ⟨Nat.zero_le _, PassCounts.zero_fits⟩

/-! ### Parking -/

/-- R42, R40: parking has room and no message is held. -/
def SigProc.Open (p : SigProc) : Prop := p.held = none ∧ p.parked.length < Config.parkingSize

theorem SigProc.Open.fits {p : SigProc} (h : p.Open) : p.Fits := ⟨Nat.le_of_lt h.2, fun _ => h.2⟩

theorem sigFits_congr {p q : SigProc} (hh : q.held = p.held) (hp : q.parked = p.parked) (h : p.Fits) : q.Fits := by
  simpa only [SigProc.Fits, hh, hp] using h

theorem sigOpen_congr {p q : SigProc} (hh : q.held = p.held) (hp : q.parked = p.parked) (h : p.Open) : q.Open := by
  simpa only [SigProc.Open, hh, hp] using h

theorem sigFits_outer {s t : State} (h : Outer s t) (hs : s.sig.Fits) : t.sig.Fits := sigFits_congr h.held h.parked hs

theorem sigFits_assign {s : State} (h : s.sig.Fits) : s.assignContexts.sig.Fits := by
  obtain ⟨x, y, z, e⟩ := assignContexts_eq s
  rw [e]
  exact h

/-- R27: a message parked where there is room. -/
theorem park_fits {p : SigProc} (h : p.Open) (m : Parked) : (p.park m).Fits := by
  refine ⟨?_, fun hh => ?_⟩
  · simp only [SigProc.park, List.length_append]
    exact h.2
  · have : p.held.isSome = true := hh
    simp [h.1] at this

theorem sigFits_handles {s u : State} (h : Handles s u) (hs : s.sig.Open) : u.sig.Fits := by
  induction h with
  | acted _ h => exact (sigOpen_congr h.held h.parked hs).fits
  | changed _ h _ _ _ =>
    rw [State.changeEntry_sig]
    exact (sigOpen_congr h.held h.parked hs).fits
  | held m => exact ⟨Nat.le_of_lt hs.2, fun _ => hs.2⟩
  | parked m => exact park_fits hs m
  | @grouped s g l m _ _ =>
    exact sigFits_assign (sigFits_congr (p := s.sig.park ⟨g, l, m⟩) rfl rfl (park_fits hs _))
  | touched h _ ih => exact ih (by rw [State.touch_sig]; exact hs)

/-- R28: the oldest message of a group taken leaves room. -/
theorem takeOldest_open {p : SigProc} {g : Group} {m : Parked} (hf : p.Fits) (hh : p.held = none)
    (hm : p.parked.find? (fun m => m.hid == g.hid) = some m) : (p.takeOldest g.hid).Open := by
  have hin := List.mem_of_find?_eq_some hm
  have hp : (m.hid == g.hid) = true := List.find?_some (p := fun m : Parked => m.hid == g.hid) hm
  have hl : (p.parked.eraseP fun m => m.hid == g.hid).length = p.parked.length - 1 :=
    List.length_eraseP_of_mem hin hp
  refine ⟨hh, ?_⟩
  have h0 := List.length_pos_of_mem hin
  have h8 := hf.1
  simp only [SigProc.takeOldest, hl]
  omega

theorem sigFits_turns {s u : State} (h : Turns s u) (hs : s.sig.Fits) : u.sig.Fits := by
  cases h with
  | frame l hh hr h =>
    have ho := outer_takeFrame s l
    exact sigFits_handles h (sigOpen_congr ho.held ho.parked ⟨hh, hr⟩)
  | ready hh _ hm h => exact sigFits_handles h (takeOldest_open hs hh hm)
  | reopened => exact sigFits_assign (sigFits_congr rfl rfl hs)

theorem sigFits_search {s u : State} (h : s.completeSearchRead = some u) (hs : s.sig.Fits) : u.sig.Fits := by
  simp only [State.completeSearchRead] at h
  split at h
  · split at h
    · rw [← Option.some.inj h]
      simp only [State.searchRead, State.searchDone]
      split
      · exact hs
      · split
        · exact hs
        · split
          · exact sigFits_assign (sigFits_congr rfl rfl hs)
          · exact sigFits_assign (sigFits_congr (by simp [SigProc.setReady]) (by simp [SigProc.setReady]) hs)
    · cases h; exact hs
  · cases h

theorem kept_sigFits : Kept fun s => s.sig.Fits where
  outer := sigFits_outer
  turn := sigFits_turns
  release {s m} hm hs := sigFits_handles (release_handles s m) ⟨rfl, hs.2 (by rw [hm]; rfl)⟩
  port {s} before hs := by
    show (s.settlePort before).sig.Fits
    rw [(samePort_settlePort s before).sig]; exact hs
  touch {s} g hs := by
    show (s.touch g).sig.Fits
    rw [State.touch_sig]; exact hs
  format hs := sigFits_outer (outer_setWatch _ none) (sigFits_assign (sigFits_congr rfl rfl hs))
  store _ _ hs := hs
  search := sigFits_search
  carry _ _ _ hs := hs
  report _ hs := sigFits_assign (sigFits_congr rfl rfl hs)
  forget _ hs := hs
  drop _ hs := hs
  restart _ := ⟨Nat.zero_le _, fun h => by cases h⟩
  reset _ _ _ := ⟨Nat.zero_le _, fun h => by cases h⟩

end Sys2Proof.Machine

open Sys2Proof Sys2Proof.Machine

/-- Settles O7: each group of sizes is kept by every step on its own. -/
theorem queuesStayWithinTheirSizes : Obligations.QueuesStayWithinTheirSizes := by
  unfold Obligations.QueuesStayWithinTheirSizes
  intro s t ⟨hl, hr, hp, hm, ha⟩ h
  obtain ⟨hl, hm, ha⟩ := kept_outerFits.step ⟨hl, hm, ha⟩ h
  exact ⟨hl, kept_regFits.step hr h, kept_sigFits.step hp h, hm, ha⟩

end

section
/-! One cache entry and one group per HID, one group per search, and one queued write per record (R14, R23, R26, R27,
R37). -/

namespace Sys2Proof.Machine

open Sys2Proof

/-! ### The cache -/

/-- R23, R37: each entry stands in the set of its HID, and no HID has two. -/
structure CacheOk (cache : Table CacheSet 64) : Prop where
  place : ∀ i w e, (cache.at i).get w = some e → cacheSetOf e.record.hid = i
  alone : ∀ i e f, (cache.at i).way0 = some e → (cache.at i).way1 = some f → e.record.hid ≠ f.record.hid

/-- Every entry of a set stands for a HID that the same way of the other set stands for. -/
def CacheSet.From (c d : CacheSet) : Prop :=
  ∀ w f, d.get w = some f → ∃ e, c.get w = some e ∧ e.record.hid = f.record.hid

theorem CacheSet.From.refl (c : CacheSet) : c.From c := fun _ f h => ⟨f, h, rfl⟩

/-- Every entry of a cache stands for a HID that the same way of the other cache stands for. -/
def CacheFrom (c d : Table CacheSet 64) : Prop := ∀ i, (c.at i).From (d.at i)

theorem CacheFrom.refl (c : Table CacheSet 64) : CacheFrom c c := fun _ => .refl _

theorem cacheFrom_put {c : Table CacheSet 64} {i : SetId} {d : CacheSet} (h : (c.at i).From d) :
    CacheFrom c (c.put i d) := by
  intro j
  rw [Table.at_put]
  split
  · next e => rw [e]; exact h
  · exact .refl _

theorem cacheFrom_map {c : Table CacheSet 64} {f : CacheSet → CacheSet} (h : ∀ x : CacheSet, x.From (f x)) :
    CacheFrom c (c.map f) := by
  intro i
  rw [Table.at_map]
  exact h _

theorem CacheOk.from {c d : Table CacheSet 64} (h : CacheFrom c d) (hc : CacheOk c) : CacheOk d where
  place i w f hf := by
    obtain ⟨e, he, hh⟩ := h i w f hf
    rw [← hh]
    exact hc.place i w e he
  alone i f g hf hg := by
    obtain ⟨e, he, hh⟩ := h i .way0 f hf
    obtain ⟨e', he', hh'⟩ := h i .way1 g hg
    rw [← hh, ← hh']
    exact hc.alone i e e' he he'

theorem CacheSet.entry_eq_none {c : CacheSet} {h : Hid} :
    c.entry h = none ↔ ∀ w e, c.get w = some e → e.record.hid ≠ h := by
  have hw (w : Way) : c.holds h w = true ↔ ∃ e, c.get w = some e ∧ e.record.hid = h := by
    simp only [CacheSet.holds]
    cases c.get w <;> simp
  constructor
  · intro hn w e he hh
    have hc : c.holds h w = true := (hw w).2 ⟨e, he, hh⟩
    simp only [CacheSet.entry, CacheSet.hit] at hn
    split at hn
    · next w' hw' =>
      have : c.holds h w' = true := by
        split at hw'
        · next h0 => cases hw'; exact h0
        · split at hw'
          · next h1 => cases hw'; exact h1
          · cases hw'
      obtain ⟨f, hf, _⟩ := (hw w').1 this
      rw [hf] at hn
      cases hn
    · next hn' =>
      split at hn'
      · cases hn'
      · next h0 =>
        cases w
        · exact h0 hc
        · rw [if_pos hc] at hn'; cases hn'
  · intro hn
    have hf (w : Way) : c.holds h w = false := by
      cases hc : c.holds h w with
      | false => rfl
      | true => obtain ⟨e, he, hh⟩ := (hw w).1 hc; exact absurd hh (hn w e he)
    simp [CacheSet.entry, CacheSet.hit, hf]

theorem entry_from {c d : CacheSet} (h : c.From d) {g : Hid} (hn : c.entry g = none) : d.entry g = none := by
  rw [CacheSet.entry_eq_none] at hn ⊢
  intro w f hf
  obtain ⟨e, he, hh⟩ := h w f hf
  exact hh ▸ hn w e he

theorem entryOf_from {s t : State} (h : CacheFrom s.cache t.cache) {g : Hid} (hn : s.entryOf g = none) :
    t.entryOf g = none := by
  rw [entryOf_eq] at hn ⊢
  exact entry_from (h _) hn

theorem CacheSet.from_used (c : CacheSet) (w : Way) : c.From (c.used w) := .refl c

theorem CacheSet.get_set (c : CacheSet) (w v : Way) (e : Option CacheEntry) :
    (c.set w e).get v = if v = w then e else c.get v := by
  cases w <;> cases v <;> rfl

theorem cacheFrom_touch (s : State) (h : Hid) : CacheFrom s.cache (s.touch h).cache := by
  simp only [State.touch]
  split
  · exact cacheFrom_put (CacheSet.from_used _ _)
  · exact .refl _

theorem CacheSet.hit_holds {c : CacheSet} {h : Hid} {w : Way} (hw : c.hit h = some w) :
    ∃ e, c.get w = some e ∧ e.record.hid = h := by
  have hh : c.holds h w = true := by
    simp only [CacheSet.hit] at hw
    split at hw
    · next h0 => cases hw; exact h0
    · split at hw
      · next h1 => cases hw; exact h1
      · cases hw
  simp only [CacheSet.holds] at hh
  split at hh
  · next e he => exact ⟨e, he, by simpa using hh⟩
  · cases hh

/-- R32: a change through the entry keeps its HID. -/
theorem cacheFrom_setEntry {s : State} {h : Hid} {r : Record} (hr : r.hid = h) :
    CacheFrom s.cache (s.setEntry h r).cache := by
  simp only [State.setEntry]
  split
  · next w hw =>
    obtain ⟨e, he, hh⟩ := CacheSet.hit_holds hw
    refine cacheFrom_put fun v f hf => ?_
    rw [CacheSet.get_set] at hf
    split at hf
    · next hv =>
      rw [he] at hf
      cases hf
      exact ⟨e, hv ▸ he, hh.trans hr.symm⟩
    · exact ⟨f, hf, rfl⟩
  · exact .refl _

/-- R23: entries changed by record address keep their HID, or become invalid. -/
theorem cacheFrom_modEntriesAt (s : State) (a : RecAddr) {f : CacheEntry → Option CacheEntry}
    (hf : ∀ e g, f e = some g → g.record.hid = e.record.hid) : CacheFrom s.cache (s.modEntriesAt a f).cache := by
  have hc (x : Option CacheEntry) (g : CacheEntry) (hg : changeIfNames a f x = some g) :
      ∃ e, x = some e ∧ e.record.hid = g.record.hid := by
    simp only [changeIfNames] at hg
    split at hg
    · next e =>
      split at hg
      · exact ⟨e, rfl, (hf e g hg).symm⟩
      · cases hg; exact ⟨_, rfl, rfl⟩
    · cases hg
  refine cacheFrom_map fun x w g hg => ?_
  cases w
  · exact hc _ g hg
  · exact hc _ g hg

theorem cacheFrom_invalid (c : Table CacheSet 64) : CacheFrom c (c.map CacheSet.invalid) :=
  cacheFrom_map fun _ w _ h => by cases w <;> cases h

theorem cacheFrom_reset (c : Table CacheSet 64) : CacheFrom c (Table.all 64 .reset) := by
  intro i w e h
  rw [Table.at_all] at h
  cases w <;> cases h

/-- R24: where a fill puts its entry, and that it leaves the other way. -/
theorem CacheSet.get_fill (c : CacheSet) (e : CacheEntry) (w : Way) :
    (c.fill e).get w = if w = c.fillWay then some e else c.get w := c.get_set _ _ _

/-- R28, R37: a fill for a HID that had no entry keeps the cache. -/
theorem CacheOk.install {s : State} {e : CacheEntry} (hn : s.entryOf e.record.hid = none) (hc : CacheOk s.cache) :
    CacheOk (s.installEntry e).cache := by
  rw [entryOf_eq, CacheSet.entry_eq_none] at hn
  constructor
  · intro i w f hf
    simp only [State.installEntry, Table.at_put] at hf
    split at hf
    · next hi =>
      rw [CacheSet.get_fill] at hf
      split at hf
      · cases hf; exact hi.symm
      · rw [hi]; exact hc.place _ w f hf
    · exact hc.place i w f hf
  · intro i f g hf hg
    simp only [State.installEntry, Table.at_put] at hf hg
    split at hf
    · next hi =>
      rw [if_pos hi] at hg
      have hf : (CacheSet.fill _ e).get .way0 = some f := hf
      have hg : (CacheSet.fill _ e).get .way1 = some g := hg
      rw [CacheSet.get_fill] at hf hg
      split at hf
      · next hw =>
        rw [← hw, if_neg (by decide)] at hg
        cases hf
        exact (hn _ g hg).symm
      · split at hg
        · cases hg; exact hn _ f hf
        · exact hc.alone _ f g hf hg
    · next hi =>
      rw [if_neg hi] at hg
      exact hc.alone i f g hf hg

/-- R28: after a fill the other HIDs that had no entry have none. -/
theorem entryOf_install {s : State} {e : CacheEntry} {g : Hid} (hg : g ≠ e.record.hid) (hn : s.entryOf g = none) :
    (s.installEntry e).entryOf g = none := by
  rw [entryOf_eq, CacheSet.entry_eq_none] at hn ⊢
  intro w f hf
  simp only [State.installEntry, Table.at_put] at hf
  split at hf
  · next hi =>
    rw [CacheSet.get_fill] at hf
    split at hf
    · cases hf; exact hg.symm
    · exact hn w f (hi ▸ hf)
  · exact hn w f hf

/-! ### Groups and searches -/

/-- R26, R27: one group per HID, the SEARCHING group of each search, and only groups that are READY with FOUND for a HID
that does not miss. -/
structure GroupsOk (miss : Hid → Prop) (ctx : Table (Option Search) 4) (groups : List Group) : Prop where
  nodup : (groups.map Group.hid).Nodup
  searches : ∀ c x, ctx.at c = some x → ⟨x.hid, .searching c⟩ ∈ groups
  misses : ∀ g ∈ groups, g.phase ≠ .ready true → miss g.hid

theorem lookupOk_iff (s : State) : s.LookupOk ↔
    CacheOk s.cache ∧ GroupsOk (fun h => s.entryOf h = none) s.reg.contexts s.sig.groups :=
  ⟨fun h => ⟨⟨h.place, h.alone⟩, h.groups, h.searches, h.misses⟩,
    fun h => ⟨h.1.place, h.1.alone, h.2.nodup, h.2.searches, h.2.misses⟩⟩

namespace GroupsOk

variable {miss miss' : Hid → Prop} {ctx ctx' : Table (Option Search) 4} {groups : List Group}

theorem unique (k : GroupsOk miss ctx groups) {f g : Group} (hf : f ∈ groups) (hg : g ∈ groups) (h : f.hid = g.hid) :
    f = g := List.inj_on_of_nodup_map k.nodup hf hg h

theorem mono (k : GroupsOk miss ctx groups) (h : ∀ g, miss g → miss' g) : GroupsOk miss' ctx groups :=
  ⟨k.nodup, k.searches, fun g hg hp => h _ (k.misses g hg hp)⟩

/-- A group that does not search is the group of no context. -/
theorem search_ne (k : GroupsOk miss ctx groups) {g : Group} (hg : g ∈ groups) (hp : ∀ c, g.phase ≠ .searching c)
    {c : ContextId} {x : Search} (hx : ctx.at c = some x) : x.hid ≠ g.hid := by
  intro he
  have := k.unique (k.searches c x hx) hg he
  exact hp c (by rw [← this])

/-- Phases changed in their places. -/
theorem map (k : GroupsOk miss ctx groups) {f : Group → Group} (hid : ∀ g, (f g).hid = g.hid)
    (hs : ∀ c x, ctx'.at c = some x → ∃ g ∈ groups, f g = ⟨x.hid, .searching c⟩)
    (hm : ∀ g ∈ groups, (f g).phase ≠ .ready true → miss g.hid) : GroupsOk miss ctx' (groups.map f) where
  nodup := by
    have : Group.hid ∘ f = Group.hid := funext hid
    rw [List.map_map, this]
    exact k.nodup
  searches c x hx := by
    obtain ⟨g, hg, he⟩ := hs c x hx
    exact List.mem_map.2 ⟨g, hg, he⟩
  misses g hg hp := by
    obtain ⟨g', hg', rfl⟩ := List.mem_map.1 hg
    rw [hid]
    exact hm g' hg' hp

/-- R26: a group that does not search takes the phase `ph`, and the searches may gain one of its HID. -/
theorem setPhase (k : GroupsOk miss ctx groups) {g : Group} (hg : g ∈ groups) (hp : ∀ c, g.phase ≠ .searching c)
    (hm : miss g.hid) {ph : GroupPhase}
    (hc : ∀ c x, ctx'.at c = some x → ctx.at c = some x ∨ (x.hid = g.hid ∧ ph = .searching c)) :
    GroupsOk miss ctx' (groups.map fun x => if x.hid = g.hid then ⟨g.hid, ph⟩ else x) := by
  refine k.map (fun x => ?_) (fun c x hx => ?_) (fun x hx hq => ?_)
  · split
    · next h => exact h.symm
    · rfl
  · rcases hc c x hx with h | ⟨h, e⟩
    · refine ⟨_, k.searches c x h, ?_⟩
      rw [if_neg (k.search_ne hg hp h)]
    · exact ⟨g, hg, by rw [if_pos rfl, h, e]⟩
  · split at hq
    · next h => exact h ▸ hm
    · exact k.misses x hx hq

/-- R27, R28: a group becomes READY; no search of its HID goes on. -/
theorem setReady (k : GroupsOk miss ctx groups) {h : Hid} {found : Bool} (hf : found = false → miss' h)
    (ho : ∀ g, g ≠ h → miss g → miss' g) (hc : ∀ c x, ctx'.at c = some x → ctx.at c = some x ∧ x.hid ≠ h) :
    GroupsOk miss' ctx' (groups.filter (fun g => g.hid ≠ h) ++ [⟨h, .ready found⟩]) where
  nodup := by
    rw [List.map_append, List.nodup_append]
    refine ⟨k.nodup.sublist (List.filter_sublist.map _), by simp, fun a ha b hb => ?_⟩
    obtain ⟨g, hg, rfl⟩ := List.mem_map.1 ha
    obtain rfl : b = h := by simpa using hb
    simpa using (List.mem_filter.1 hg).2
  searches c x hx := by
    obtain ⟨hx, hn⟩ := hc c x hx
    have := k.searches c x hx
    simp [this, hn]
  misses g hg hp := by
    rcases List.mem_append.1 hg with hg | hg
    · obtain ⟨hg, hn⟩ := List.mem_filter.1 hg
      exact ho _ (by simpa using hn) (k.misses g hg hp)
    · obtain rfl := List.mem_singleton.1 hg
      refine hf ?_
      cases found
      · rfl
      · exact absurd rfl hp

/-- R25: a new group of a HID that misses. -/
theorem append (k : GroupsOk miss ctx groups) {h : Hid} (hn : ∀ g ∈ groups, g.hid ≠ h) (hm : miss h) :
    GroupsOk miss ctx (groups ++ [⟨h, .awaiting⟩]) where
  nodup := by
    rw [List.map_append, List.nodup_append]
    refine ⟨k.nodup, by simp, ?_⟩
    simpa using hn
  searches c x hx := List.mem_append_left _ (k.searches c x hx)
  misses g hg hp := by
    rcases List.mem_append.1 hg with hg | hg
    · exact k.misses g hg hp
    · obtain rfl := List.mem_singleton.1 hg
      exact hm

/-- R28: a group that does not search ceases to exist. -/
theorem remove (k : GroupsOk miss ctx groups) {g : Group} (hg : g ∈ groups) (hp : ∀ c, g.phase ≠ .searching c) :
    GroupsOk miss ctx (groups.filter fun x => x.hid ≠ g.hid) where
  nodup := k.nodup.sublist (List.filter_sublist.map _)
  searches c x hx := by simpa [k.searches c x hx] using k.search_ne hg hp hx
  misses x hx := k.misses x (List.mem_of_mem_filter hx)

end GroupsOk

theorem GroupPhase.asks_ne {p : GroupPhase} (h : p.asks = true) : (∀ c, p ≠ .searching c) ∧ p ≠ .ready true := by
  cases p <;> simp_all [GroupPhase.asks]

/-- R26: the group that asks first is a group that asks. -/
theorem firstAsking_some {p : SigProc} {h : Hid} (hf : p.firstAsking = some h) :
    ∃ g ∈ p.groups, g.hid = h ∧ g.phase.asks = true := by
  simp only [SigProc.firstAsking, Option.map_eq_some_iff] at hf
  obtain ⟨m, hm, rfl⟩ := hf
  have := List.find?_some hm
  obtain ⟨g, hg, h⟩ := List.any_eq_true.1 this
  exact ⟨g, hg, by simpa using h⟩

theorem freeContext_some {r : Registry} {c : ContextId} (h : r.freeContext = some c) : r.contexts.at c = none := by
  simpa using List.find?_some h

/-! ### Lookups -/

theorem lookupOk_congr {s t : State} (h : s.LookupOk) (hc : CacheFrom s.cache t.cache)
    (hx : t.reg.contexts = s.reg.contexts) (hg : t.sig.groups = s.sig.groups) : t.LookupOk := by
  rw [lookupOk_iff] at h ⊢
  rw [hx, hg]
  exact ⟨h.1.from hc, h.2.mono fun g hm => entryOf_from hc hm⟩

theorem lookupOk_outer {s t : State} (h : Outer s t) (hs : s.LookupOk) : t.LookupOk :=
  lookupOk_congr hs (h.cache ▸ .refl _) h.contexts h.groups

/-- A change of groups and contexts alone. -/
theorem lookupOk_groups {s t : State} (h : s.LookupOk) (hc : t.cache = s.cache)
    (hg : GroupsOk (fun h => s.entryOf h = none) t.reg.contexts t.sig.groups) : t.LookupOk := by
  rw [lookupOk_iff] at h ⊢
  have he : t.entryOf = s.entryOf := by funext g; simp [State.entryOf, hc]
  rw [hc, he]
  exact ⟨h.1, hg⟩

theorem LookupOk.groupsOk {s : State} (h : s.LookupOk) :
    GroupsOk (fun h => s.entryOf h = none) s.reg.contexts s.sig.groups := ((lookupOk_iff s).1 h).2

theorem lookupOk_assign (n : Nat) : ∀ {s : State}, s.LookupOk → (State.assign n s).LookupOk := by
  induction n with
  | zero => exact id
  | succ n ih =>
    intro s h
    simp only [State.assign]
    split
    · next c hid hc hf =>
      obtain ⟨g, hg, rfl, ha⟩ := firstAsking_some hf
      obtain ⟨hp, hr⟩ := GroupPhase.asks_ne ha
      have k := LookupOk.groupsOk h
      have hm := k.misses g hg hr
      refine ih ?_
      split
      · refine lookupOk_groups h rfl (k.setPhase hg hp hm fun d x hx => ?_)
        simp only [Registry.startSearch, Table.at_put] at hx
        split at hx
        · next hd => cases hx; exact .inr ⟨rfl, by rw [hd]⟩
        · exact .inl hx
      · exact lookupOk_groups h rfl (k.setReady (fun _ => hm) (fun _ _ => id) fun d x hx =>
          ⟨hx, k.search_ne hg hp hx⟩)
    · exact h

theorem lookupOk_newGroup {s : State} {h : Hid} (l : LinkId) (m : Msg) (hg : s.sig.groupOf h = none)
    (he : s.entryOf h = none) (hs : s.LookupOk) : (s.newGroup h l m).LookupOk := by
  have hn : ∀ g ∈ s.sig.groups, g.hid ≠ h := by simpa [SigProc.groupOf] using hg
  exact lookupOk_assign _ (lookupOk_groups hs rfl ((LookupOk.groupsOk hs).append hn he))

theorem lookupOk_handles {s u : State} (h : Handles s u) (hs : s.LookupOk) : u.LookupOk := by
  induction h with
  | acted _ h => exact lookupOk_outer h hs
  | @changed s u g e r _ h _ hr _ =>
    refine lookupOk_congr (lookupOk_outer h hs) ?_ ?_ ?_
    · exact cacheFrom_setEntry hr
    · simp [State.changeEntry]
    · simp
  | held | parked => exact lookupOk_congr hs (.refl _) rfl rfl
  | grouped h l m hg he => exact lookupOk_newGroup l m hg he hs
  | touched h _ ih => exact ih (lookupOk_congr hs (cacheFrom_touch _ h) (by simp) (by simp))

theorem firstReady_some {p : SigProc} {g : Group} (h : p.firstReady = some g) :
    g ∈ p.groups ∧ ∃ f, g.phase = .ready f := by
  refine ⟨List.mem_of_find?_eq_some h, ?_⟩
  have := List.find?_some h
  split at this
  · next f hf => exact ⟨f, hf⟩
  · cases this

theorem lookupOk_turns {s u : State} (h : Turns s u) (hs : s.LookupOk) : u.LookupOk := by
  cases h with
  | frame l _ _ h => exact lookupOk_handles h (lookupOk_outer (outer_takeFrame s l) hs)
  | @ready g m _ _ hr _ h =>
    obtain ⟨hg, f, hp⟩ := firstReady_some hr
    refine lookupOk_handles h (lookupOk_groups hs rfl ?_)
    simp only [SigProc.takeOldest]
    split
    · exact LookupOk.groupsOk hs
    · exact (LookupOk.groupsOk hs).remove hg fun c e => by rw [hp] at e; cases e
  | @reopened g _ hr he =>
    obtain ⟨hg, f, hp⟩ := firstReady_some hr
    refine lookupOk_assign _ (lookupOk_groups hs rfl ?_)
    exact (LookupOk.groupsOk hs).setPhase hg (fun c e => by rw [hp] at e; cases e) he fun c x hx => .inl hx

/-! ### Searches -/

/-- R4: a record found by a scan has the HID sought. -/
theorem scanSlots_hid (mem : List Host.Cell) (h : Hid) (b : BucketId) (ks : List RegSlot) :
    ∀ {d : Option RecAddr} {a : RecAddr} {r : Record}, (scanSlots mem h b ks d).found = some (a, r) → r.hid = h := by
  induction ks with
  | nil => intro d a r hf; cases hf
  | cons k ks ih =>
    intro d a r hf
    simp only [scanSlots] at hf
    split at hf
    · exact ih hf
    · exact ih hf
    · split at hf
      · next hh => cases hf; exact hh
      · exact ih hf

theorem lookupOk_searchDone {s t : State} {c : ContextId} {x : Search} {found : Bool}
    (hx : s.reg.contexts.at c = some x) (hs : s.LookupOk) (ht : CacheOk t.cache)
    (hc : t.reg.contexts = s.reg.contexts) (hg : t.sig.groups = s.sig.groups)
    (ho : ∀ g, g ≠ x.hid → s.entryOf g = none → t.entryOf g = none)
    (hf : found = false → t.entryOf x.hid = none) : (t.searchDone c x.hid found).LookupOk := by
  have k := LookupOk.groupsOk hs
  refine lookupOk_assign _ ((lookupOk_iff _).2 ⟨ht, ?_⟩)
  show GroupsOk (fun h => t.entryOf h = none) (t.reg.contexts.put c none)
    (t.sig.groups.filter (fun g => g.hid ≠ x.hid) ++ [⟨x.hid, .ready found⟩])
  rw [hc, hg]
  refine k.setReady hf ho fun d y hy => ?_
  rw [Table.at_put] at hy
  split at hy
  · cases hy
  · next hd =>
    refine ⟨hy, fun he => hd ?_⟩
    have := k.unique (k.searches d y hy) (k.searches c x hx) he
    exact GroupPhase.searching.inj (Group.mk.inj this).2

/-- R28: a record found is installed, and its group becomes READY. -/
theorem lookupOk_found {s : State} {c : ContextId} {x : Search} {e : CacheEntry} (hx : s.reg.contexts.at c = some x)
    (he : e.record.hid = x.hid) (hs : s.LookupOk) : ((s.installEntry e).searchDone c x.hid true).LookupOk := by
  have hn : s.entryOf x.hid = none := hs.misses ⟨x.hid, .searching c⟩ (hs.searches c x hx) (by simp)
  refine lookupOk_searchDone hx hs (CacheOk.install (by rw [he]; exact hn) ((lookupOk_iff s).1 hs).1) rfl rfl
    (fun g hg => ?_) (fun hb => by cases hb)
  exact entryOf_install (by rw [he]; exact hg)

/-- R28: a search that finds nothing makes its group READY. -/
theorem lookupOk_notFound {s t : State} {c : ContextId} {x : Search} (hx : s.reg.contexts.at c = some x)
    (ho : Outer s t) (hs : s.LookupOk) : (t.searchDone c x.hid false).LookupOk := by
  have hn : s.entryOf x.hid = none := hs.misses ⟨x.hid, .searching c⟩ (hs.searches c x hx) (by simp)
  exact lookupOk_searchDone hx hs (ho.cache ▸ ((lookupOk_iff s).1 hs).1) ho.contexts ho.groups
    (fun g _ hm => (ho.entryOf g).trans hm) (fun _ => (ho.entryOf _).trans hn)

/-- R6, R30: a search that goes on for its HID. -/
theorem lookupOk_goesOn {s : State} {c : ContextId} {x y : Search} (hx : s.reg.contexts.at c = some x)
    (hy : y.hid = x.hid) (hs : s.LookupOk) :
    State.LookupOk { s with reg := { s.reg with contexts := s.reg.contexts.put c (some y) } } := by
  have k := LookupOk.groupsOk hs
  refine lookupOk_groups hs rfl ⟨k.nodup, fun d z hz => ?_, k.misses⟩
  simp only [Table.at_put] at hz
  split at hz
  · next hd => cases hz; rw [hy, hd]; exact k.searches c x hx
  · exact k.searches d z hz

theorem lookupOk_searchRead {s : State} {c : ContextId} {x : Search} {scan : Scan}
    (hx : s.reg.contexts.at c = some x) (hf : ∀ a r, scan.found = some (a, r) → r.hid = x.hid) (hs : s.LookupOk) :
    (s.searchRead c x scan).LookupOk := by
  simp only [State.searchRead]
  split
  · exact lookupOk_goesOn hx rfl hs
  · split
    · exact lookupOk_goesOn hx rfl hs
    · split
      · next a r h => exact lookupOk_found hx (hf a r h) hs
      · exact lookupOk_notFound hx (outer_reportDamaged s _ _) hs

theorem lookupOk_search {s u : State} (h : s.completeSearchRead = some u) (hs : s.LookupOk) : u.LookupOk := by
  have hp : (s.setPort none).LookupOk := lookupOk_outer (outer_setPort s none) hs
  simp only [State.completeSearchRead] at h
  split at h
  · split at h
    · next x hx =>
      rw [← Option.some.inj h]
      exact lookupOk_searchRead (s := s.setPort none) hx (fun _ _ => scanSlots_hid _ _ _ _) hp
    · cases h; exact hp
  · cases h

/-! ### Reports, format and reset -/

theorem Group.reopenFor_hid (hids : List Hid) (g : Group) : (g.reopenFor hids).hid = g.hid := by
  simp only [Group.reopenFor]
  split <;> rfl

theorem Search.markStale_hid (hids : List Hid) (x : Search) : (x.markStale hids).hid = x.hid := by
  simp only [Search.markStale]
  split <;> rfl

theorem lookupOk_reportWrite {s : State} (hids : List Hid) (h : s.LookupOk) : (s.reportWrite hids).LookupOk := by
  have k := LookupOk.groupsOk h
  refine lookupOk_assign _ (lookupOk_groups h rfl (k.map (Group.reopenFor_hid hids) (fun c x hx => ?_)
    (fun g hg hp => ?_)))
  · simp only [Table.at_map, Option.map_eq_some_iff] at hx
    obtain ⟨y, hy, rfl⟩ := hx
    exact ⟨_, k.searches c y hy, by simp [Group.reopenFor, Search.markStale_hid]⟩
  · refine k.misses g hg fun he => hp ?_
    simp [Group.reopenFor, he]

theorem Group.searchEnds_hid (g : Group) : g.searchEnds.hid = g.hid := by
  simp only [Group.searchEnds]
  split <;> rfl

theorem lookupOk_startFormat {s : State} (h : s.LookupOk) : s.startFormat.LookupOk := by
  have h' : State.LookupOk { s with cache := s.cache.map CacheSet.invalid } :=
    lookupOk_congr h (cacheFrom_invalid _) rfl rfl
  have k := LookupOk.groupsOk h'
  refine lookupOk_outer (outer_setWatch _ none) (lookupOk_assign _ (lookupOk_groups h' rfl (k.map Group.searchEnds_hid
    (fun c x hx => ?_) (fun g hg hp => ?_))))
  · rw [Table.at_all] at hx
    cases hx
  · refine k.misses g hg fun he => hp ?_
    simp [Group.searchEnds, he]

/-- An empty cache with no group and no search. -/
theorem lookupOk_empty {s t : State} (hc : t.cache = Table.all 64 .reset) (hx : t.reg.contexts = Table.all 4 none)
    (hg : t.sig.groups = []) (h : s.LookupOk) : t.LookupOk := by
  rw [lookupOk_iff] at h ⊢
  rw [hc, hx, hg]
  refine ⟨h.1.from (cacheFrom_reset _), .nil, fun c x hx => ?_, fun g hg => by cases hg⟩
  rw [Table.at_all] at hx
  cases hx

theorem kept_lookupOk : Kept State.LookupOk where
  outer := lookupOk_outer
  turn := lookupOk_turns
  release {s m} _ hs := lookupOk_handles (release_handles s m) (lookupOk_congr hs (.refl _) rfl rfl)
  port {s} before hs :=
    have p := samePort_settlePort s before
    lookupOk_congr hs (p.cache ▸ .refl _) p.contexts (by rw [p.sig])
  touch {s} g hs := lookupOk_congr hs (cacheFrom_touch s g) (by simp) (by simp)
  format := lookupOk_startFormat
  store _ _ hs := lookupOk_congr hs (.refl _) rfl rfl
  search := lookupOk_search
  carry {s} a f hf hs :=
    lookupOk_congr hs (cacheFrom_modEntriesAt s a fun e g h => by cases h; exact hf _) rfl rfl
  report := lookupOk_reportWrite
  forget {s} a hs := lookupOk_congr hs (cacheFrom_modEntriesAt s a fun e g h => by cases h) rfl rfl
  drop _ hs := lookupOk_congr hs (.refl _) rfl rfl
  restart hs := lookupOk_empty rfl rfl rfl hs
  reset _ _ hs := lookupOk_empty rfl rfl rfl hs

/-! ### Queued writes -/

theorem addr_joinWrite (l : List QueuedWrite) (a : RecAddr) (r : Record) : (joinWrite l a r).map QueuedWrite.addr =
    if (queuedAt l a).isSome then l.map QueuedWrite.addr else l.map QueuedWrite.addr ++ [a] := by
  simp only [joinWrite]
  split
  · rw [List.map_map]
    refine List.map_congr_left fun w _ => ?_
    simp only [Function.comp]
    split
    · next h => exact h.symm
    · rfl
  · simp

/-- R14: a joined write has no other for its record. -/
theorem nodup_joinWrite {l : List QueuedWrite} (a : RecAddr) (r : Record) (h : (l.map QueuedWrite.addr).Nodup) :
    ((joinWrite l a r).map QueuedWrite.addr).Nodup := by
  rw [addr_joinWrite]
  split
  · exact h
  · next hn =>
    rw [List.nodup_append]
    refine ⟨h, by simp, ?_⟩
    simpa [queuedAt] using hn

theorem addr_changeWrite (l : List QueuedWrite) (a : RecAddr) (f : Record → Record) :
    (changeWrite l a f).map QueuedWrite.addr = l.map QueuedWrite.addr := by
  simp only [changeWrite, List.map_map]
  refine List.map_congr_left fun w _ => ?_
  simp only [Function.comp]
  split <;> rfl

theorem nodup_filter_addr {l : List QueuedWrite} (p : QueuedWrite → Bool) (h : (l.map QueuedWrite.addr).Nodup) :
    ((l.filter p).map QueuedWrite.addr).Nodup := h.sublist (List.filter_sublist.map _)

theorem writesOk_congr {s t : State} (hw : t.reg.writes = s.reg.writes) (h : s.WritesOk) : t.WritesOk := by
  simpa only [State.WritesOk, hw] using h

theorem assignContexts_writes (s : State) : s.assignContexts.reg.writes = s.reg.writes := by
  obtain ⟨x, y, z, e⟩ := assignContexts_eq s
  rw [e]

theorem writesOk_handles {s u : State} (h : Handles s u) (hs : s.WritesOk) : u.WritesOk := by
  induction h with
  | acted _ h => exact writesOk_congr h.writes hs
  | changed _ h _ _ _ =>
    simp only [State.WritesOk, changeEntry_writes]
    exact nodup_joinWrite _ _ (h.writes ▸ hs)
  | held | parked => exact hs
  | grouped => exact writesOk_congr (assignContexts_writes _) hs
  | touched h _ ih => exact ih (writesOk_congr (by simp) hs)

theorem writesOk_turns {s u : State} (h : Turns s u) (hs : s.WritesOk) : u.WritesOk := by
  cases h with
  | frame l _ _ h => exact writesOk_handles h (writesOk_congr (by simp) hs)
  | ready _ _ _ h => exact writesOk_handles h (writesOk_congr rfl hs)
  | reopened => exact writesOk_congr (assignContexts_writes _) hs

theorem searchRead_writes (s : State) (c : ContextId) (x : Search) (scan : Scan) :
    (s.searchRead c x scan).reg.writes = s.reg.writes := by
  simp only [State.searchRead, State.searchDone]
  split
  · rfl
  · split
    · rfl
    · split
      · rw [assignContexts_writes]; rfl
      · rw [assignContexts_writes]; simp [Registry.freeUp]

theorem completeSearchRead_writes {s u : State} (h : s.completeSearchRead = some u) :
    u.reg.writes = s.reg.writes := by
  simp only [State.completeSearchRead] at h
  split at h
  · split at h
    · cases h; exact searchRead_writes ..
    · cases h; rfl
  · cases h

theorem startFormat_writes (s : State) : s.startFormat.reg.writes = [] := by
  simp only [State.startFormat, State.setWatch_reg, assignContexts_writes]

theorem reportWrite_writes (s : State) (hids : List Hid) : (s.reportWrite hids).reg.writes = s.reg.writes := by
  simp only [State.reportWrite, assignContexts_writes]

theorem writesOk_settlePort {s : State} (before : State) (hs : s.WritesOk) : (s.settlePort before).WritesOk := by
  rcases leavesWrites_settlePort s before with h | ⟨w, h, _⟩ | ⟨_, _, _, _, _, _, _, h⟩
  · exact writesOk_congr h hs
  · simp only [State.WritesOk, h, List.map_cons] at hs
    exact (List.nodup_cons.1 hs).2
  · simp only [State.WritesOk, h]
    exact nodup_filter_addr _ hs

theorem kept_writesOk : Kept State.WritesOk where
  outer h hs := writesOk_congr h.writes hs
  turn := writesOk_turns
  release {s m} _ hs := writesOk_handles (release_handles s m) (writesOk_congr rfl hs)
  port := writesOk_settlePort
  touch {s} g hs := writesOk_congr (by simp) hs
  format {s} _ := by simp [State.WritesOk, startFormat_writes]
  store _ _ hs := writesOk_congr rfl hs
  search h hs := writesOk_congr (completeSearchRead_writes h) hs
  carry {s} a f _ hs := by
    show ((changeWrite s.reg.writes a f).map QueuedWrite.addr).Nodup
    rw [addr_changeWrite]; exact hs
  report {s} hids hs := writesOk_congr (reportWrite_writes s hids) hs
  forget _ hs := writesOk_congr rfl hs
  drop {s} a hs := nodup_filter_addr _ hs
  restart _ := .nil
  reset _ _ _ := .nil

end Sys2Proof.Machine

open Sys2Proof Sys2Proof.Machine

/-- Settles O12. -/
theorem cacheAndWritesStayUnique : Obligations.CacheAndWritesStayUnique := by
  unfold Obligations.CacheAndWritesStayUnique
  exact ⟨fun s t hs h => kept_lookupOk.step hs h, fun s t hs h => kept_writesOk.step hs h⟩

end

section
/-! Records in memory (R2, R162, R163), the bucket hash (R3), and the two resets (R153, R180). -/

namespace Sys2Proof.Machine

open Sys2Proof

/-! ### Records -/

/-- R158: the five bytes of a HID spell it. -/
theorem hidOf_bytes (h : Hid) :
    hidOf (h.extractLsb' 32 8) (h.extractLsb' 24 8) (h.extractLsb' 16 8) (h.extractLsb' 8 8) (h.extractLsb' 0 8) = h := by
  apply BitVec.eq_of_getLsbD_eq
  intro i hi
  simp only [hidOf, BitVec.getLsbD_append, BitVec.getLsbD_extractLsb']
  split
  · next h8 => simp [h8]
  · split
    · next h8 h16 => simp [show 8 + (i - 8) = i by omega, h16]
    · split
      · next h8 h16 h24 => simp [show 16 + (i - 8 - 8) = i by omega, h24]
      · split
        · next h8 h16 h24 h32 => simp [show 24 + (i - 8 - 8 - 8) = i by omega, h32]
        · simp [show 32 + (i - 8 - 8 - 8 - 8) = i by omega, show i - 8 - 8 - 8 - 8 < 8 by omega]

/-- R162, R163: attach state and location are read as they were written. -/
theorem readLocation_code {a : AttachState} {l : Option CellId} (h : l.isSome = true ↔ a = .attached) :
    readLocation a.code (locationByte l) = l := by
  cases l with
  | none => cases a <;> simp_all [readLocation, AttachState.code]
  | some c =>
    obtain rfl : a = .attached := h.1 rfl
    have hc := c.isLt
    have hn : (BitVec.ofNat 8 (c.val + 1)).toNat = c.val + 1 := by simp; omega
    have hr : 1 ≤ c.val + 1 ∧ c.val + 1 ≤ 24 := by omega
    simp [readLocation, AttachState.code, locationByte, hn, hr]

/-- R162: the fields of a record are read as they were written. -/
theorem readFields_bytes {r : Record} (h : r.location.isSome = true ↔ r.attach = .attached) :
    readFields r.bytes = r := by
  obtain ⟨hid, standing, mclass, attach, location, seen, moved⟩ := r
  have ha : (if location.isSome then AttachState.attached else .detached) = attach := by
    cases location <;> cases attach <;> simp_all
  have hl := readLocation_code h
  have hst : (if standing.code = 0 then Standing.permitted else .barred) = standing := by cases standing <;> rfl
  have hcl : (if mclass.code = 0 then MobClass.standard else .vehicle) = mclass := by cases mclass <;> rfl
  have hf (b : Bool) : (flagByte b != 0) = b := by cases b <;> rfl
  simp only [Record.bytes, Record.fields, hidBytes, readFields, List.cons_append, List.nil_append]
  simp only [hidOf_bytes, hl, ha, hst, hcl, hf]

/-- R1, R163: after a record write its slot holds the record's bytes. -/
theorem slotBytes_writeRecord_same {mem : List Host.Cell} (a : RecAddr) (r : Record) (h : Memory.wf mem = true) :
    slotBytes (writeRecord mem a r) a = r.bytes := by
  refine List.ext_getElem (by simp [slotBytes]) fun i h1 h2 => ?_
  have hi : i < 16 := by simpa [slotBytes] using h1
  simp only [slotBytes, List.getElem_map, List.getElem_range, read_writeRecord a r _ h]
  rw [dif_pos (by omega)]
  congr 1
  omega

/-- R1: registry slots do not overlap. -/
theorem slotBytes_writeRecord_other {mem : List Host.Cell} {a b : RecAddr} (r : Record) (h : Memory.wf mem = true)
    (hb : b ≠ a) : slotBytes (writeRecord mem a r) b = slotBytes mem b := by
  refine List.map_congr_left fun i hi => ?_
  have hi : i < 16 := List.mem_range.1 hi
  rw [read_writeRecord a r _ h, dif_neg]
  intro hr
  have hs := a.slot.isLt
  have hs' := b.slot.isLt
  obtain ⟨⟨c, hc⟩, ⟨k, hk⟩⟩ := a
  obtain ⟨⟨d, hd⟩, ⟨j, hj⟩⟩ := b
  simp only [RecAddr.base] at hr hs hs'
  have hcd : c = d := by omega
  have hkj : k = j := by omega
  subst hcd hkj
  exact hb rfl

theorem checkByte_bytes (r : Record) : r.bytes.drop 15 = [byteSum (r.bytes.take 15)] := by
  have hl : r.fields.length = 15 := by simp [Record.fields, hidBytes]
  rw [Record.bytes, List.drop_append_of_le_length (by omega), List.take_append_of_le_length (by omega),
    List.drop_of_length_le (by omega), List.take_of_length_le (by omega), List.nil_append]

/-- R2, R162, R163: what the slot of a record write holds. -/
theorem slotView_writeRecord_same {mem : List Host.Cell} (a : RecAddr) {r : Record} (h : Memory.wf mem = true)
    (hl : r.location.isSome = true ↔ r.attach = .attached) :
    slotView (writeRecord mem a r) a = if r.hid = 0 then .empty else .occupied r := by
  simp only [slotView, slotBytes_writeRecord_same a r h, checkByte_bytes, ne_eq, not_true_eq_false, if_false,
    readFields_bytes hl]

theorem slotView_writeRecord_other {mem : List Host.Cell} {a b : RecAddr} (r : Record) (h : Memory.wf mem = true)
    (hb : b ≠ a) : slotView (writeRecord mem a r) b = slotView mem b := by
  simp only [slotView, slotBytes_writeRecord_other r h hb]

/-! ### Resets -/

theorem unit_pinReset (p : List Instr) (o : Option PortOp) (m : List Host.Cell) (l : LinkId) :
    (State.pinReset p o m).unit l = .reset (match l with | .cell _ => .off | .exchange => .down) := by
  cases l with
  | cell c => simp [State.unit, State.pinReset, CellLink.reset]
  | exchange => rfl

@[simp] theorem callOf_pinReset (p : List Instr) (o : Option PortOp) (m : List Host.Cell) (n : Circuit) :
    (State.pinReset p o m).callOf n = .free .default := by simp [State.callOf, State.pinReset, CallTable.reset]

@[simp] theorem bearer_pinReset (p : List Instr) (o : Option PortOp) (m : List Host.Cell) (c : CellId) (k : SlotId) :
    (State.pinReset p o m).bearer c k = .free := by simp [State.bearer, State.pinReset, CallTable.reset]

@[simp] theorem cells_pinReset (p : List Instr) (o : Option PortOp) (m : List Host.Cell) (c : CellId) :
    (State.pinReset p o m).cells.at c = .reset := by simp [State.pinReset]

@[simp] theorem cache_pinReset (p : List Instr) (o : Option PortOp) (m : List Host.Cell) (i : SetId) :
    (State.pinReset p o m).cache.at i = .reset := by simp [State.pinReset]

@[simp] theorem contexts_pinReset (p : List Instr) (o : Option PortOp) (m : List Host.Cell) (c : ContextId) :
    (State.pinReset p o m).reg.contexts.at c = none := by simp [State.pinReset, Registry.reset]

theorem CellLink.reset_stateOk : CellLink.reset.StateOk :=
  ⟨fun _ => ⟨rfl, rfl⟩, ⟨nofun, nofun⟩, fun h => absurd rfl h, fun h => absurd rfl h⟩

/-- R181: after a pin reset no cause is enabled. -/
theorem attentionSet_pinReset (p : List Instr) (o : Option PortOp) (m : List Host.Cell) :
    (State.pinReset p o m).attentionSet.any = false := by
  simp [State.attentionSet, Causes.both, Causes.any, State.pinReset, Attention.reset]

end Sys2Proof.Machine

open Sys2Proof Sys2Proof.Machine

/-- Settles O15. -/
theorem everyRecordIsReadBack : Obligations.EveryRecordIsReadBack := by
  unfold Obligations.EveryRecordIsReadBack
  intro mem a r h
  refine ⟨fun h0 hl => ?_, ?_, fun b hb => slotView_writeRecord_other r h hb⟩
  · rw [slotView_writeRecord_same a h hl, if_neg h0]
  · rw [slotView_writeRecord_same a h (by simp [Record.empty])]
    exact if_pos rfl

/-- Settles O16. -/
theorem hidHasTwoBuckets : Obligations.HidHasTwoBuckets := by
  unfold Obligations.HidHasTwoBuckets
  intro h
  refine ⟨rfl, rfl, fun e => ?_, rfl, ?_⟩
  · have hp := (primaryBucket h).isLt
    have := congrArg Fin.val e
    simp only [alternateBucket, Config.alternateStep] at this
    omega
  · have := h.isLt
    omega

/-- Settles O4. -/
theorem pinResetStartsEveryBlockAfresh : Obligations.PinResetStartsEveryBlockAfresh := by
  unfold Obligations.PinResetStartsEveryBlockAfresh
  intro s
  refine ⟨_, rfl, rfl, fun c => ?_, rfl, rfl, rfl, fun l => ?_, rfl, rfl, rfl, rfl, rfl, rfl, rfl,
    contexts_pinReset _ _ _, cache_pinReset _ _ _, callOf_pinReset _ _ _, rfl, bearer_pinReset _ _ _, fun i => ?_,
    fun a b => ?_, fun c => ?_, fun z => ?_, fun i => ?_, rfl, rfl, rfl, rfl, rfl, rfl, rfl⟩
  · rw [cells_pinReset]
    exact ⟨rfl, rfl, rfl, rfl, rfl, rfl, rfl, rfl, rfl⟩
  · rw [unit_pinReset]
    exact ⟨rfl, rfl⟩
  all_goals simp [State.pinReset, Tables.reset, Profile.default]

/-- Settles O3. -/
theorem resetIsSafe : Obligations.ResetIsSafe := by
  unfold Obligations.ResetIsSafe State.reset
  constructor
  case memory => rfl
  case exchange => exact ⟨.inl rfl, fun _ => rfl, ⟨nofun, nofun⟩⟩
  case pin => exact (attentionSet_pinReset _ _ _).symm
  case links => exact ⟨fun c => cells_pinReset _ _ _ c ▸ CellLink.reset_fits, ⟨Nat.zero_le _, Nat.zero_le _⟩⟩
  case registry => exact (Registry.fits_iff _).2 ⟨Nat.zero_le _, PassCounts.zero_fits⟩
  case parking => exact ⟨Nat.zero_le _, nofun⟩
  case management => exact ⟨Nat.zero_le _, Nat.zero_le _⟩
  case captures => exact Nat.zero_le _
  case freeQueue => exact ⟨nodup_ascending, fun n => by simp [State.pinReset, CallTable.reset, State.callOf, CallRecord.free]⟩
  case calls => exact fun n => by rw [callOf_pinReset]; exact ⟨rfl, rfl⟩
  case bearers => exact fun c k n => by simp [legOn, CallRecord.free]
  case releasing => exact fun c k n h => by simp at h
  case hids => exact fun n m h => by simp [CallRecord.free, CallState.inCall] at h
  case windows => exact fun n w h => by simp [CallRecord.free] at h
  case estimates =>
    exact ⟨fun n g h => by simp [CallRecord.free] at h, fun n g h => by simp [CallRecord.free] at h, nofun, nofun⟩
  case counters => exact fun l => by rw [unit_pinReset]; exact ⟨Nat.zero_le _, Nat.zero_le _, Nat.zero_le _, Nat.zero_le _⟩
  case cells => exact fun c => by rw [cells_pinReset]; exact CellLink.reset_stateOk
  case writes => exact .nil
  case lookups =>
    refine ⟨fun i w e h => ?_, fun i e f h => ?_, .nil, fun c x h => ?_, nofun⟩
    · rw [cache_pinReset] at h; cases w <;> cases h
    · rw [cache_pinReset] at h; cases h
    · rw [contexts_pinReset] at h; cases h
  case held => exact heldWaits_of_none rfl

end

section
/-! A management request taken at the head (R165, R166): a held message waits on, and what the event leaves. -/

namespace Sys2Proof.Machine

open Sys2Proof

/-- R15: whether a held message can be released depends on the write-through queue and the entries found alone. -/
theorem releasable_of_entries {s t : State} (hw : t.reg.writes = s.reg.writes) (he : ∀ h, t.entryOf h = s.entryOf h)
    (m : Held) : t.releasable m = s.releasable m := by
  have he : t.entryOf = s.entryOf := funext he
  simp [State.releasable, hw, he]

/-- R15: a held message waits on through an event that touches neither port, nor queue, nor entries. -/
theorem keepsHeld_of {s t : State} (hs : t.sig.held = s.sig.held) (hp : t.reg.port = s.reg.port)
    (hw : t.reg.writes = s.reg.writes) (he : ∀ h, t.entryOf h = s.entryOf h) (hk : s.KeepsHeld) : t.KeepsHeld := by
  rcases hk with hk | ⟨hb, hm⟩
  · exact .inl (hs.trans hk)
  · refine .inr ⟨by rw [hp]; exact hb, fun m h => ?_⟩
    rw [releasable_of_entries hw he]
    exact hm m (hs ▸ h)

section

variable {s : State} {q : MgmtRequest} {rest : List MgmtRequest} (u : State) (o : MgmtOutcome) (data : List Byte)

@[simp] theorem answered_sig : (u.answered q rest o data).sig = u.sig := by simp [State.answered]
@[simp] theorem answered_reg : (u.answered q rest o data).reg = u.reg := by simp [State.answered]
@[simp] theorem answered_cache : (u.answered q rest o data).cache = u.cache := by simp [State.answered]
@[simp] theorem answered_call : (u.answered q rest o data).call = u.call := by simp [State.answered]
@[simp] theorem answered_cells : (u.answered q rest o data).cells = u.cells := by simp [State.answered]
@[simp] theorem answered_mgmt : (u.answered q rest o data).mgmt = { u.mgmt with queue := rest, op := none } := by
  simp [State.answered]
@[simp] theorem answered_entryOf (h : Hid) : (u.answered q rest o data).entryOf h = u.entryOf h := by
  simp [State.entryOf]

/-- R165: the reply to the request at the head. -/
theorem reply_eq_answered (hq : u.mgmt.queue = q :: rest) : u.reply q o data = u.answered q rest o data := by
  simp [State.reply, State.answered, hq]

theorem keepsHeld_answered (hk : u.KeepsHeld) : (u.answered q rest o data).KeepsHeld :=
  keepsHeld_of (by simp) (by simp) (by simp) (by simp) hk

theorem keepsHeld_setWatch (w : Option Watch) (hk : u.KeepsHeld) : (u.setWatch w).KeepsHeld :=
  keepsHeld_of rfl rfl rfl (fun _ => rfl) hk

theorem keepsHeld_setOp (op : MgmtOp) (hk : u.KeepsHeld) : (u.setOp op).KeepsHeld :=
  keepsHeld_of rfl rfl rfl (fun _ => rfl) hk

theorem keepsHeld_touch (h : Hid) (hk : u.KeepsHeld) : (u.touch h).KeepsHeld :=
  keepsHeld_of (by simp) (by simp) (by simp) (entryOf_touch u h) hk

/-- R165: the request at the head, found by its command number. -/
theorem head_eq {cmd : Byte} (ha : s.AtHead q rest) (hc : q.command = cmd) : s.head cmd = some q := by
  simp [State.head, State.headIf, ha.1, ha.2, hc]

/-- R165: an event that takes the request at the head and may touch the memory port. -/
theorem settles_head {cmd : Byte} {run : MgmtRequest → State} {u : State} (ha : s.AtHead q rest)
    (hc : q.command = cmd) (hu : run q = u) (hk : u.KeepsHeld) :
    ∃ t, (Host.Outcome.next (s.settled ((s.head cmd).map run)) : Host.Outcome State Fault Refusal) = .next t ∧
      Settles s u t :=
  settles_of (by rw [head_eq ha hc, Option.map_some, hu]) hk

/-- R165, R166: an event that refuses the request at the head of a state that differs from `s` outside the queue of
requests, or answers it at once. -/
theorem settles_reply {cmd : Byte} {run : MgmtRequest → State} {u : State} {o : MgmtOutcome} {data : List Byte}
    (ha : s.AtHead q rest) (hc : q.command = cmd) (hu : run q = u.reply q o data) (hq : u.mgmt.queue = s.mgmt.queue)
    (hk : u.KeepsHeld) :
    ∃ t, (Host.Outcome.next (s.settled ((s.head cmd).map run)) : Host.Outcome State Fault Refusal) = .next t ∧
      Settles s (u.answered q rest o data) t :=
  settles_head ha hc (by rw [hu, reply_eq_answered u o data (hq.trans ha.2)]) (keepsHeld_answered u o data hk)

end

/-! ### Operands (R166) -/

/-- A HID operand of a wrong length or of the value 0 is refused. -/
theorem readHidOperand_none {ops : List Byte} (h : ops.length ≠ 5 ∨ ∀ b ∈ ops.take 5, b = 0) :
    readHidOperand ops = none := by
  match ops with
  | [] | [_] | [_, _] | [_, _, _] | [_, _, _, _] | _ :: _ :: _ :: _ :: _ :: _ :: _ => rfl
  | [b0, b1, b2, b3, b4] =>
    obtain ⟨rfl, rfl, rfl, rfl, rfl⟩ : b0 = 0 ∧ b1 = 0 ∧ b2 = 0 ∧ b3 = 0 ∧ b4 = 0 := by simpa using h
    rfl

theorem takeFlag_none {b : Byte} (h : 1 < b.toNat) : takeFlag b = none := by
  have h0 : b ≠ 0#8 := by rintro rfl; simp at h
  have h1 : b ≠ 1#8 := by rintro rfl; simp at h
  simp [takeFlag, h0, h1]

/-- The operands of a write of a wrong length, of HID 0, or with a standing or class above 1 are refused. -/
theorem readWriteOperands_none {ops : List Byte}
    (h : ops.length ≠ 7 ∨ (∀ b ∈ ops.take 5, b = 0) ∨ 1 < (ops.getD 5 0).toNat ∨ 1 < (ops.getD 6 0).toNat) :
    readWriteOperands ops = none := by
  match ops with
  | [] | [_] | [_, _] | [_, _, _] | [_, _, _, _] | [_, _, _, _, _] | [_, _, _, _, _, _]
  | _ :: _ :: _ :: _ :: _ :: _ :: _ :: _ :: _ => rfl
  | [b0, b1, b2, b3, b4, st, cl] =>
    rcases h with h | h | h | h
    · exact absurd rfl h
    · obtain ⟨rfl, rfl, rfl, rfl, rfl⟩ : b0 = 0 ∧ b1 = 0 ∧ b2 = 0 ∧ b3 = 0 ∧ b4 = 0 := by simpa using h
      rfl
    · simp [readWriteOperands, takeHid, takeFlag_none (b := st) (by simpa using h)]
    · simp [readWriteOperands, takeHid, takeFlag_none (b := cl) (by simpa using h)]

theorem finOf_none {n : Nat} {b : Byte} (h : n ≤ b.toNat) : finOf n b = none := by
  simp [finOf, Nat.not_lt.2 h]

/-- The operands of CLEAR-SLOT of a wrong length, or with a bucket or slot out of range, are refused. -/
theorem readSlotOperands_none {ops : List Byte}
    (h : ops.length ≠ 3 ∨ 2047 < (ops.getD 0 0).toNat * 256 + (ops.getD 1 0).toNat ∨ 3 < (ops.getD 2 0).toNat) :
    readSlotOperands ops = none := by
  match ops with
  | [] | [_] | [_, _] | _ :: _ :: _ :: _ :: _ => rfl
  | [b1, b0, k] =>
    rcases h with h | h | h
    · exact absurd rfl h
    · have : ¬ num2 b1 b0 < 2048 := by simp [num2] at h ⊢; omega
      simp [readSlotOperands, this]
    · simp [readSlotOperands, finOf_none (n := 4) (b := k) (by simp at h; omega)]

/-- The operands of SWEEP of a wrong length, of an unknown mode, or with buckets out of range, are refused. -/
theorem readSweepOperands_none {ops : List Byte}
    (h : ops.length ≠ 5 ∨ (ops.getD 0 0).toNat = 0 ∨ 2 < (ops.getD 0 0).toNat ∨
      2047 < (ops.getD 1 0).toNat * 256 + (ops.getD 2 0).toNat ∨ (ops.getD 3 0).toNat * 256 + (ops.getD 4 0).toNat = 0 ∨
      2048 < (ops.getD 1 0).toNat * 256 + (ops.getD 2 0).toNat + ((ops.getD 3 0).toNat * 256 + (ops.getD 4 0).toNat)) :
    readSweepOperands ops = none := by
  match ops with
  | [] | [_] | [_, _] | [_, _, _] | [_, _, _, _] | _ :: _ :: _ :: _ :: _ :: _ :: _ => rfl
  | [mode, f1, f0, n1, n0] =>
    have modes : mode.toNat = 0 ∨ 2 < mode.toNat → mode ≠ 1#8 ∧ mode ≠ 2#8 := by
      rintro h
      constructor <;> rintro rfl <;> simp at h
    have range : 2047 < num2 f1 f0 ∨ num2 n1 n0 = 0 ∨ 2048 < num2 f1 f0 + num2 n1 n0 →
        ¬(num2 f1 f0 < 2048 ∧ 1 ≤ num2 n1 n0 ∧ num2 n1 n0 ≤ 2048 ∧ num2 f1 f0 + num2 n1 n0 ≤ 2048) := by omega
    rcases h with h | h | h | h
    · exact absurd rfl h
    · obtain ⟨h1, h2⟩ := modes (.inl (by simpa using h))
      simp [readSweepOperands, h1, h2]
    · obtain ⟨h1, h2⟩ := modes (.inr (by simpa using h))
      simp [readSweepOperands, h1, h2]
    · have h := range (by simpa [num2] using h)
      simp only [readSweepOperands, dif_neg h]
      simp

/-! ### What the record requests do at the head (R10, R165 to R171) -/

section

variable {s : State} {q : MgmtRequest}

@[simp] theorem withOperands_some {α : Type} (s : State) (q : MgmtRequest) (x : α) (run : α → State) :
    s.withOperands q (some x) run = run x := rfl

@[simp] theorem withOperands_none {α : Type} (s : State) (q : MgmtRequest) (run : α → State) :
    s.withOperands q none run = s.reply q .badValue [] := rfl

/-- R10: a request to a FORMATTED registry is executed. -/
theorem whenFormatted_run {u : State} (hf : u.reg.format = .formatted) (q : MgmtRequest) (run : State) :
    u.whenFormatted q run = run := by
  simp [State.whenFormatted, hf, FormatState.refusal]

/-- R10: a request to another registry is refused. -/
theorem whenFormatted_refused {u : State} (hf : u.reg.format ≠ .formatted) (q : MgmtRequest) (run : State) :
    u.whenFormatted q run = u.reply q (if u.reg.format = .formatting then .formatting else .notFormatted) [] := by
  cases h : u.reg.format with
  | formatted => exact absurd h hf
  | unformatted | formatting => simp [State.whenFormatted, h, FormatState.refusal]


/-- R10: the outcome by which a registry that is not FORMATTED refuses. -/
def State.formatOutcome (s : State) : MgmtOutcome := if s.reg.format = .formatting then .formatting else .notFormatted

/-- R170: the watch passes when it names the HID. -/
theorem Watch.passes_iff {w : Option Watch} {h : Hid} : Watch.passes w h = true ↔ ∃ a, w = some ⟨a, h⟩ := by
  rcases w with _ | ⟨a, g⟩ <;> simp [Watch.passes]

theorem touch_setWatch_setWatch (s : State) (h : Hid) (w : Option Watch) :
    ((s.setWatch none).touch h).setWatch w = (s.touch h).setWatch w := by
  simp only [State.touch, State.setWatch]
  split <;> rfl

/-! On a FORMATTED registry. -/

section

variable (hf : s.reg.format = .formatted)

include hf

theorem runReadRecord_hit {h : Hid} {e : CacheEntry} (ho : readHidOperand q.operands = some h)
    (he : s.entryOf h = some e) : s.runReadRecord q =
      ((s.touch h).setWatch (some ⟨e.addr, h⟩)).reply q .done (recordData e.record e.addr) := by
  have he : (s.setWatch none).entryOf h = some e := he
  simp only [State.runReadRecord, ho, withOperands_some]
  rw [whenFormatted_run (u := s.setWatch none) hf, State.readHid, he]
  simp only [touch_setWatch_setWatch]

theorem runReadRecord_miss {h : Hid} (ho : readHidOperand q.operands = some h) (he : s.entryOf h = none) :
    s.runReadRecord q = (s.setWatch none).setOp ⟨.read h, .primary, none⟩ := by
  have he : (s.setWatch none).entryOf h = none := he
  simp only [State.runReadRecord, ho, withOperands_some]
  rw [whenFormatted_run (u := s.setWatch none) hf, State.readHid, he]

theorem runWriteRecord_begins {h : Hid} {st : Standing} {cl : MobClass}
    (ho : readWriteOperands q.operands = some (h, st, cl)) :
    s.runWriteRecord q = s.setOp ⟨.write h st cl, .primary, none⟩ := by
  simp only [State.runWriteRecord, ho, withOperands_some]
  exact whenFormatted_run hf q _

theorem runWriteIfUnchanged_eq {h : Hid} {st : Standing} {cl : MobClass}
    (ho : readWriteOperands q.operands = some (h, st, cl)) : s.runWriteIfUnchanged q =
      if Watch.passes s.mgmt.watch h then (s.setWatch none).setOp ⟨.write h st cl, .primary, none⟩
      else (s.setWatch none).reply q .watchLost [] := by
  simp only [State.runWriteIfUnchanged, ho, withOperands_some]
  exact whenFormatted_run (u := s.setWatch none) hf q _

theorem runDeleteRecord_begins {h : Hid} (ho : readHidOperand q.operands = some h) :
    s.runDeleteRecord q = s.setOp ⟨.delete h, .primary, none⟩ := by
  simp only [State.runDeleteRecord, ho, withOperands_some]
  exact whenFormatted_run hf q _

theorem runClearSlot_begins {a : RecAddr} (ho : readSlotOperands q.operands = some a) :
    s.runClearSlot q = s.setOp ⟨.clear, .write a .empty false, none⟩ := by
  simp only [State.runClearSlot, ho, withOperands_some]
  exact whenFormatted_run hf q _

end

/-! On another registry. -/

section

variable (hf : s.reg.format ≠ .formatted)

include hf

theorem runReadRecord_refused {h : Hid} (ho : readHidOperand q.operands = some h) :
    s.runReadRecord q = (s.setWatch none).reply q s.formatOutcome [] := by
  simp only [State.runReadRecord, ho, withOperands_some]
  exact whenFormatted_refused (u := s.setWatch none) hf q _

theorem runWriteRecord_refused {w : Hid × Standing × MobClass} (ho : readWriteOperands q.operands = some w) :
    s.runWriteRecord q = s.reply q s.formatOutcome [] := by
  simp only [State.runWriteRecord, ho, withOperands_some]
  exact whenFormatted_refused hf q _

theorem runWriteIfUnchanged_refused {w : Hid × Standing × MobClass} (ho : readWriteOperands q.operands = some w) :
    s.runWriteIfUnchanged q = (s.setWatch none).reply q s.formatOutcome [] := by
  simp only [State.runWriteIfUnchanged, ho, withOperands_some]
  exact whenFormatted_refused (u := s.setWatch none) hf q _

theorem runDeleteRecord_refused {h : Hid} (ho : readHidOperand q.operands = some h) :
    s.runDeleteRecord q = s.reply q s.formatOutcome [] := by
  simp only [State.runDeleteRecord, ho, withOperands_some]
  exact whenFormatted_refused hf q _

theorem runClearSlot_refused {a : RecAddr} (ho : readSlotOperands q.operands = some a) :
    s.runClearSlot q = s.reply q s.formatOutcome [] := by
  simp only [State.runClearSlot, ho, withOperands_some]
  exact whenFormatted_refused hf q _

theorem runSweep_refused {x : SweepMode × BucketId × BucketId} (ho : readSweepOperands q.operands = some x) :
    s.runSweep q = s.reply q s.formatOutcome [] := by
  simp only [State.runSweep, ho, withOperands_some]
  exact whenFormatted_refused hf q _

end

end

/-! ### Background work at the head (R11, R17) -/

/-- R26: while the registry is not FORMATTED no context is taken, and no group is of a new HID. -/
theorem assign_notFormatted (n : Nat) : ∀ {s : State}, s.reg.format ≠ .formatted →
    ∃ groups : List Group, (∀ g ∈ groups, ∃ x ∈ s.sig.groups, x.hid = g.hid) ∧
      State.assign n s = { s with sig := { s.sig with groups } } := by
  induction n with
  | zero => intro s _; exact ⟨_, fun g hg => ⟨g, hg, rfl⟩, rfl⟩
  | succ n ih =>
    intro s hf
    simp only [State.assign]
    split
    · next c h _ hh =>
      rw [if_neg hf]
      obtain ⟨gs, hids, hg⟩ := ih (s := { s with sig := s.sig.setReady h false }) hf
      refine ⟨gs, fun g hm => ?_, hg⟩
      obtain ⟨x, hx, hxg⟩ := hids g hm
      rcases List.mem_append.1 hx with hx | hx
      · exact ⟨x, List.mem_of_mem_filter hx, hxg⟩
      · obtain ⟨y, hy, hyh, _⟩ := firstAsking_some hh
        rw [List.mem_singleton.1 hx] at hxg
        exact ⟨y, hy, hyh.trans hxg⟩
    · exact ⟨_, fun g hg => ⟨g, hg, rfl⟩, rfl⟩

/-- R11, R31, R38, R168: what FORMAT-REGISTRY leaves. -/
theorem startFormat_eq (s : State) : ∃ groups : List Group, (∀ g ∈ groups, ∃ x ∈ s.sig.groups, x.hid = g.hid) ∧
    s.startFormat = { s with
      reg := { s.reg with
        format := .formatting, formatPos := 0, contexts := Table.all 4 none, startOrder := [], writes := []
        port := s.reg.port.map PortOp.orphan }
      cache := s.cache.map CacheSet.invalid
      sig := { s.sig with groups }
      mgmt := { s.mgmt with watch := none } } := by
  obtain ⟨gs, hids, hg⟩ := assign_notFormatted Config.parkingSize (s := { s with
      reg := { s.reg with
        format := .formatting, formatPos := 0, contexts := Table.all 4 none, startOrder := [], writes := []
        port := s.reg.port.map PortOp.orphan }
      cache := s.cache.map CacheSet.invalid
      sig := { s.sig with groups := s.sig.groups.map Group.searchEnds } }) (by simp)
  refine ⟨gs, fun g hm => ?_, by rw [State.startFormat, State.assignContexts, hg]; rfl⟩
  obtain ⟨x, hx, hxg⟩ := hids g hm
  obtain ⟨y, hy, rfl⟩ := List.mem_map.1 hx
  exact ⟨y, hy, (Group.searchEnds_hid y).symm.trans hxg⟩

/-- R14: a write-through queue that is empty stays empty at the end of an event. -/
theorem Settles.writes_nil {s u t : State} (h : Settles s u t) (hw : u.reg.writes = []) : t.reg.writes = [] := by
  cases hp : u.reg.port with
  | some op => rw [(h.busy (by simp [hp])).2.1, hw]
  | none =>
    rcases h.idle hp with hi | ⟨w, hi, _⟩ | ⟨_, a, _, _, _, _, _, hi⟩
    · rw [hi, hw]
    · rw [hw] at hi; cases hi
    · rw [hi, hw]; rfl

/-- R144, R183: the frame placed by an event on an exchange link that is UP with room, and the ATTENTION frame owed. -/
theorem Settles.placed_after {s u w t : State} {f : Frame} (h : Settles s w t) (hw : w.exch = (u.placeExch f).exch)
    (hu : u.exchUp = true) (hr : u.exch.txQueue.length + 2 ≤ 64) :
    t.exch.txQueue = u.exch.txQueue ++ f :: owed s.attentionSet t.attentionSet := by
  have hup : u.exch.link.state = .up := by simpa [State.exchUp] using hu
  have hx : w.exch = { u.exch with txQueue := u.exch.txQueue ++ [f] } := by
    rw [hw, placeExch_exch, if_pos (by simp [hup, LinkState.queues]),
      if_pos (by simp only [Config.exchQueueSize]; omega)]
  have hp := h.placed (by simp [State.exchUp, hx, hup]) (by simp [hx, Config.exchQueueSize]; omega)
  simp [hp, hx]

section

variable {s : State} {q : MgmtRequest}

theorem runFormat_badValue (ho : q.operands ≠ []) : s.runFormat q = s.reply q .badValue [] := by
  simp [State.runFormat, readNothing, ho]

theorem runFormat_formatting (ho : q.operands = []) (hf : s.reg.format = .formatting) :
    s.runFormat q = s.reply q .formatting [] := by
  simp [State.runFormat, readNothing, ho, hf]

theorem runFormat_sweeping (ho : q.operands = []) (hf : s.reg.format ≠ .formatting)
    (hs : s.reg.sweep.isRunning = true) : s.runFormat q = s.reply q .sweepBusy [] := by
  simp [State.runFormat, readNothing, ho, hf, State.unlessSweeping, hs]

theorem runFormat_accepted (ho : q.operands = []) (hf : s.reg.format ≠ .formatting)
    (hs : s.reg.sweep.isRunning = false) : s.runFormat q = s.startFormat.reply q .done [] := by
  simp [State.runFormat, readNothing, ho, hf, State.unlessSweeping, hs]

theorem runSweep_accepted {m : SweepMode} {a b : BucketId} (ho : readSweepOperands q.operands = some (m, a, b))
    (hf : s.reg.format = .formatted) (hs : s.reg.sweep.isRunning = false) :
    s.runSweep q = (s.startSweep m a b).reply q .done [] := by
  simp only [State.runSweep, ho, withOperands_some]
  rw [whenFormatted_run hf, State.unlessSweeping, hs]
  rfl

theorem runSweep_sweeping {x : SweepMode × BucketId × BucketId} (ho : readSweepOperands q.operands = some x)
    (hf : s.reg.format = .formatted) (hs : s.reg.sweep.isRunning = true) :
    s.runSweep q = s.reply q .sweepBusy [] := by
  simp only [State.runSweep, ho, withOperands_some]
  rw [whenFormatted_run hf, State.unlessSweeping, hs]
  rfl

end

end Sys2Proof.Machine
end

section
namespace Sys2Proof.Machine
open Sys2Proof

/-- Settles O53: each request's meaning by its operands, the format state and the watch. -/
theorem recordRequestsBeginOrAreRefused : Obligations.RecordRequestsBeginOrAreRefused := by
  unfold Obligations.RecordRequestsBeginOrAreRefused
  refine ⟨fun s q rest ha hk hf => ⟨fun h hc ho => ⟨fun e he => ?_, fun he => ?_⟩, fun h st cl hc ho => ?_,
    fun h st cl hc ho => ⟨fun hw => ?_, fun hw => ?_⟩, fun h hc ho => ?_, fun a hc ho => ?_⟩,
    fun s q rest ha hk => ⟨fun hc ho => ?_, fun hc ho => ?_, fun hc ho => ?_, fun hc ho => ?_, fun hc ho => ?_⟩,
    fun s q rest ha hk hf => ⟨fun h hc ho => ?_, fun w hc ho => ?_, fun w hc ho => ?_, fun h hc ho => ?_,
      fun a hc ho => ?_, fun x hc ho => ?_⟩⟩
  · exact settles_reply ha hc (runReadRecord_hit hf ho he) (by simp [State.setWatch])
      (keepsHeld_setWatch _ _ (keepsHeld_touch _ h hk))
  · exact settles_head (u := (s.setWatch none).setOp _) ha hc (runReadRecord_miss hf ho he)
      (keepsHeld_setOp _ _ (keepsHeld_setWatch _ none hk))
  · exact settles_head ha hc (runWriteRecord_begins hf ho) (keepsHeld_setOp _ _ hk)
  · exact settles_head (u := (s.setWatch none).setOp _) ha hc
      ((runWriteIfUnchanged_eq hf ho).trans (if_pos (Watch.passes_iff.2 hw)))
      (keepsHeld_setOp _ _ (keepsHeld_setWatch _ none hk))
  · exact settles_reply ha hc ((runWriteIfUnchanged_eq hf ho).trans (if_neg (mt Watch.passes_iff.1 (not_exists.2 hw)))) rfl
      (keepsHeld_setWatch _ none hk)
  · exact settles_head ha hc (runDeleteRecord_begins hf ho) (keepsHeld_setOp _ _ hk)
  · exact settles_head ha hc (runClearSlot_begins hf ho) (keepsHeld_setOp _ _ hk)
  · exact settles_reply ha hc (by rw [State.runReadRecord, readHidOperand_none ho]; rfl) rfl
      (keepsHeld_setWatch _ none hk)
  · exact settles_reply ha hc (by rw [State.runWriteRecord, readWriteOperands_none ho]; rfl) rfl hk
  · exact settles_reply ha hc (by rw [State.runWriteIfUnchanged, readWriteOperands_none ho]; rfl) rfl
      (keepsHeld_setWatch _ none hk)
  · exact settles_reply ha hc (by rw [State.runDeleteRecord, readHidOperand_none ho]; rfl) rfl hk
  · exact settles_reply ha hc (by rw [State.runClearSlot, readSlotOperands_none ho]; rfl) rfl hk
  · exact settles_reply ha hc (runReadRecord_refused hf ho) rfl (keepsHeld_setWatch _ none hk)
  · exact settles_reply ha hc (runWriteRecord_refused hf ho) rfl hk
  · exact settles_reply ha hc (runWriteIfUnchanged_refused hf ho) rfl (keepsHeld_setWatch _ none hk)
  · exact settles_reply ha hc (runDeleteRecord_refused hf ho) rfl hk
  · exact settles_reply ha hc (runClearSlot_refused hf ho) rfl hk
  · exact settles_reply ha hc (runSweep_refused hf ho) rfl hk

/-- Settles O54: FORMAT-REGISTRY and SWEEP by their operands, the format state and the sweep. -/
theorem backgroundWorkIsAccepted : Obligations.BackgroundWorkIsAccepted := by
  unfold Obligations.BackgroundWorkIsAccepted
  intro s q rest ha hk
  refine ⟨fun hc ho hh hf hs => ?_, fun m a b hc ho hf hs => ?_, fun hc ho hf hs => ?_, fun hc ho hf => ?_,
    fun hc ho => ?_, fun hc ho => ?_, fun x hc ho hf hs => ?_⟩
  · obtain ⟨groups, _, hu⟩ := startFormat_eq s
    obtain ⟨t, ht, h⟩ := settles_reply ha hc (runFormat_accepted ho hf hs) (by rw [hu]) (.inl (by rw [hu]; exact hh))
    refine ⟨t, ht, by simp [h.format, hu], by simp [h.formatPos, hu], h.writes_nil (by simp [hu]),
      fun c => by simp [h.contexts, hu], fun i => by simp [h.cache, hu, CacheSet.invalid], by simp [h.sig, hu],
      by simp [h.watch, hu], by simp [h.queue], by simp [h.mem, hu], by simp [h.call, hu], by simp [h.cells, hu],
      fun hx hr => ?_⟩
    rw [State.answered, hc] at h
    have := h.placed_after rfl (by simpa [hu, State.exchUp] using hx) (by simpa [hu] using hr)
    simpa [hu] using this
  · obtain ⟨t, ht, h⟩ := settles_reply ha hc (runSweep_accepted ho hf hs) rfl
      (keepsHeld_of rfl rfl rfl (fun _ => rfl) hk)
    obtain ⟨hw, hm⟩ := h.sweep (by simp [State.startSweep])
    exact ⟨t, ht, by simp [hw, State.startSweep], by simp [hm, State.startSweep], h⟩
  · exact settles_reply ha hc (runFormat_sweeping ho (by simp [hf]) hs) rfl hk
  · exact settles_reply ha hc (runFormat_formatting ho hf) rfl hk
  · exact settles_reply ha hc (runFormat_badValue ho) rfl hk
  · exact settles_reply ha hc (by rw [State.runSweep, readSweepOperands_none ho]; rfl) rfl hk
  · exact settles_reply ha hc (runSweep_sweeping ho hf hs) rfl hk

end Sys2Proof.Machine
end

section
/-! RESTART (R179): what it leaves in every block. -/

namespace Sys2Proof.Machine

open Sys2Proof

section

variable (s : State)

theorem unit_restart (l : LinkId) : s.restart.unit l = (s.unit l).restart s.timeBase := by
  cases l with
  | cell c => simp [State.unit, State.restart, CellLink.restart]
  | exchange => rfl

@[simp] theorem cells_restart (c : CellId) : s.restart.cells.at c = (s.cells.at c).restart s.timeBase := by
  simp [State.restart]

@[simp] theorem callOf_restart (n : Circuit) : s.restart.callOf n = .free (s.callOf n).profile := by
  simp [State.restart, CallTable.restart, State.callOf]

@[simp] theorem bearer_restart (c : CellId) (k : SlotId) : s.restart.bearer c k = .free := by
  simp [State.restart, CallTable.restart, CallTable.reset, State.bearer]

/-- R179: after RESTART no cause of attention is pending. -/
theorem attentionSet_restart : s.restart.attentionSet.any = false := by
  have cells : ∀ u ∈ s.restart.cells.toList, u.link.flags.any = false ∧ u.marks.marked = false := by
    intro u hu
    obtain ⟨v, -, rfl⟩ := Vector.mem_map.1 (Vector.mem_toList_iff.1 hu)
    exact ⟨rfl, rfl⟩
  have hl : s.restart.cells.toList.any (fun u => u.link.flags.any) = false :=
    List.any_eq_false.2 fun u hu => by simp [(cells u hu).1]
  have hm : s.restart.cells.toList.any (fun u => u.marks.marked) = false :=
    List.any_eq_false.2 fun u hu => by simp [(cells u hu).2]
  simp only [State.attentionSet, State.causesPending, hl, hm]
  rfl

end

/-- R181, R183: placing a frame on an exchange link that is UP with room, and judging the attention set, change no
cause. -/
theorem Ends.attentionSet {s u t : State} (h : Ends s u t) (hu : u.exchUp = true)
    (hr : u.exch.txQueue.length < Config.exchQueueSize) : t.attentionSet = u.attentionSet := by
  have hc := causesPending_congr (s := u) (t := t) (by rw [h.attn]) (by rw [h.placed hu hr]) h.cells (by rw [h.mgmt])
  have he : t.attn.enables = u.attn.enables := by rw [h.attn]
  simp only [State.attentionSet, hc, he]

end Sys2Proof.Machine
end

section
namespace Sys2Proof.Machine
open Sys2Proof

/-- Settles O60: RESTART leaves no cause pending, so its DONE is the only frame placed. -/
theorem restartClearsTraffic : Obligations.RestartClearsTraffic := by
  unfold Obligations.RestartClearsTraffic
  intro s q rest ha
  refine ⟨fun hc ho hx => ?_, fun hn => ?_⟩
  · obtain ⟨t, ht, h⟩ := ends_of (s := s) (o := (s.head Cmd.restart).map s.runRestart)
      (u := s.restart.answered q [] .done []) (by
        rw [head_eq (cmd := Cmd.restart) ha hc]; simp [State.runRestart, ho, readNothing, State.reply, State.answered]; rfl)
    have hup : s.exch.link.state = .up := by simpa [State.exchUp] using hx
    have hrx : s.restart.exch.link.state = .up := hup
    have hux : (s.restart.answered q [] .done []).exch =
        { s.restart.exch with txQueue := [replyFrame q.tag q.command .done []] } := by
      rw [State.answered, placeExch_exch, if_pos (by simp [hrx, LinkState.queues]), if_pos (by show 0 < 64; decide)]
      rfl
    have hroom : (s.restart.answered q [] .done []).exchUp = true ∧
        (s.restart.answered q [] .done []).exch.txQueue.length < Config.exchQueueSize := by
      simp [State.exchUp, hux, hrx, Config.exchQueueSize]
    have hset : t.attentionSet.any = false := by
      have hp := attentionSet_placeExch { s.restart with mgmt := { s.restart.mgmt with queue := [], op := none } }
        (f := replyFrame q.tag q.command .done [])
        (.inl ⟨by simp [State.exchUp, hrx], by show 0 < 64; decide⟩)
      rw [h.attentionSet hroom.1 hroom.2, State.answered, hp]
      exact attentionSet_restart s
    have hexch : t.exch = { s.restart.exch with txQueue := [replyFrame q.tag q.command .done []] } := by
      rw [h.placed hroom.1 hroom.2, hux, owed, hset]
      simp
    have hunit : ∀ l, t.unit l = s.restart.unit l := by
      rintro (c | _)
      · simp [State.unit, h.cells]
      · simp [State.unit, hexch]
    have hattn : t.attn = { s.attn.restart with pin := t.attentionSet.any } := by
      simp [h.attn, State.answered, State.restart]
    have hcall : t.call = s.restart.call := by simp [h.call]
    have hcells : t.cells = s.restart.cells := by simp [h.cells]
    have hreg : t.reg = s.reg.restart := by simp [h.reg, State.restart]
    refine ⟨t, ht, by simp [h.tables, State.answered, State.restart], by simp [h.timeBase, State.answered, State.restart],
      by simp [hreg, Registry.restart], by simp [hattn, Attention.restart],
      by simp [hattn, Attention.restart], fun l => ?_, fun c => ?_, ?_,
      by simp [h.sig, State.restart, SigProc.reset], ?_, by simp [hreg, Registry.restart],
      by simp [hreg, Registry.restart], by simp [hreg, Registry.restart, PassCounts.zero],
      fun c => by simp [hreg, Registry.restart], fun i => ?_, fun n => ?_, ?_, fun c k => ?_, ?_, ?_, ?_⟩
    · refine ⟨by rw [hunit, unit_restart]; rfl, by rw [hunit, unit_restart]; rfl, by rw [hunit, unit_restart]; rfl,
        by rw [hunit, unit_restart]; rfl, by rw [hunit, unit_restart]; rfl, ?_⟩
      cases l <;> simp [State.limit, hattn, Attention.restart]
    · rw [hcells, cells_restart]
      exact ⟨rfl, rfl, rfl, rfl, rfl⟩
    · rw [hexch, hc]
    · rw [hreg]
      cases hf : s.reg.format <;> simp [Registry.restart, FormatState.restart, hf]
    · simp [h.cache, State.restart, CacheSet.reset]
    · exact (congrArg (fun x : CallTable => x.calls.at n) hcall).trans (callOf_restart s n)
    · simp [hcall, State.restart, CallTable.restart, CallTable.reset]
    · exact (congrArg (fun x : CallTable => (x.bearers.at c).at k) hcall).trans (bearer_restart s c k)
    · simp [h.mgmt, State.restart, Management.reset]
    · simp [hattn, Attention.restart]
    · rw [h.attn]; exact hset
  · refine ends_of (o := (s.headIf fun b => !Cmd.assigned.contains b).map fun q => s.reply q .unknownCommand []) ?_
    have : s.headIf (fun b => !Cmd.assigned.contains b) = some q := by
      simp only [State.headIf, ha.1, ha.2, hn]; rfl
    rw [this, Option.map_some, reply_eq_answered s _ _ ha.2]

end Sys2Proof.Machine
end

section
/-! A sweep that stands still: the grants at the end of an event move a sweep only past a write that is skipped (R19). -/

namespace Sys2Proof.Machine

open Sys2Proof

/-- R19: the sweep's next write, if it has one to make, is not to be skipped. -/
def SweepState.Stands : SweepState → Prop
  | .running _ _ _ (.writing image (x :: _)) => (image.at x.slot).hid = x.hid
  | .running _ _ _ (.writing _ []) | .running _ _ _ .reading | .idle | .ended _ => True

/-- R19: a grant to B moves no sweep that stands. -/
theorem grantB_stands {s : State} (h : s.reg.sweep.Stands) :
    s.grantB.reg.sweep = s.reg.sweep ∧ s.grantB.mgmt.unread = s.mgmt.unread := by
  simp only [State.grantB, State.setPort]
  split
  · exact ⟨rfl, rfl⟩
  · split
    · exact ⟨rfl, rfl⟩
    · next hs =>
      simp only [hs, SweepState.Stands] at h
      rw [if_pos h]
      exact ⟨rfl, rfl⟩
    · exact ⟨rfl, rfl⟩

theorem grant_stands {s : State} (h : s.reg.sweep.Stands) (r : Requester) :
    (s.grant r).reg.sweep = s.reg.sweep ∧ (s.grant r).mgmt.unread = s.mgmt.unread := by
  cases r with
  | w => simp only [State.grant, State.grantW]; split <;> exact ⟨rfl, rfl⟩
  | s =>
    simp only [State.grant, State.grantS, State.setPort]
    repeat' split
    all_goals exact ⟨rfl, rfl⟩
  | m =>
    simp only [State.grant, State.grantM, State.setPort]
    repeat' split
    all_goals exact ⟨rfl, rfl⟩
  | b => exact grantB_stands h

theorem grants_stands (before : List ContextId) : ∀ (n : Nat) {s : State}, s.reg.sweep.Stands →
    (State.grants before n s).reg.sweep = s.reg.sweep ∧ (State.grants before n s).mgmt.unread = s.mgmt.unread := by
  intro n
  induction n with
  | zero => intro s _; exact ⟨rfl, rfl⟩
  | succ n ih =>
    intro s h
    simp only [State.grants]
    split
    · exact ⟨rfl, rfl⟩
    · split
      · exact ⟨rfl, rfl⟩
      · next r _ =>
        obtain ⟨hs, hu⟩ := grant_stands (s := s.countGrant r) h r
        have stands : ((s.countGrant r).grant r).reg.sweep.Stands := by rw [hs]; exact h
        obtain ⟨ks, ku⟩ := ih (s := { (s.countGrant r).grant r with
          reg := ((s.countGrant r).grant r).reg.refresh before }) stands
        exact ⟨ks.trans hs, ku.trans hu⟩

theorem settlePort_stands {s : State} (h : s.reg.sweep.Stands) (before : State) :
    (s.settlePort before).reg.sweep = s.reg.sweep ∧ (s.settlePort before).mgmt.unread = s.mgmt.unread :=
  grants_stands before.reg.readyOrder 8 (s := { s with reg := s.reg.refresh before.reg.readyOrder }) h

/-- The end of an event that releases no held message and leaves a sweep that stands. -/
theorem settle_stands {s u : State} (hk : u.KeepsHeld) (h : u.reg.sweep.Stands) :
    (u.settle s).reg.sweep = u.reg.sweep ∧ (u.settle s).mgmt.unread = u.mgmt.unread := by
  rw [settle_eq hk, State.judgeAttention_reg, State.judgeAttention_mgmt]
  exact settlePort_stands h s

/-- The blocks that a read for management or a sweep leaves as they are. -/
def SameBlocks (s t : State) : Prop :=
  t.cache = s.cache ∧ t.reg.mem = s.reg.mem ∧ t.sig = s.sig ∧ t.call = s.call ∧ t.cells = s.cells

theorem Settles.sameBlocks {s u t : State} (h : Settles s u t) (hu : SameBlocks s u) : SameBlocks s t := by
  obtain ⟨hc, hm, hs, hl, hx⟩ := hu
  exact ⟨h.cache.trans hc, h.mem.trans hm, h.sig.trans hs, h.call.trans hl, h.cells.trans hx⟩

/-! ### The slots a sweep decides to write (R18) -/

/-- The image a sweep keeps of an occupied slot is its record. -/
theorem bucketImage_occupied {mem : List Host.Cell} {b : BucketId} {k : RegSlot} {r : Record}
    (h : slotView mem ⟨b, k⟩ = .occupied r) : (bucketImage mem b).at k = r := by
  simp only [slotView] at h
  split at h
  · cases h
  · split at h
    · cases h
    · cases h
      simp [bucketImage, Table.at]

/-- R18: each write a sweep decides on is of an occupied slot, for the HID it holds. -/
theorem decideBucket_write {mem : List Host.Cell} {mode : SweepMode} {b : BucketId} {x : SweepWrite}
    (h : x ∈ (decideBucket mem mode b).filterMap Decision.write) : ((bucketImage mem b).at x.slot).hid = x.hid := by
  simp only [decideBucket, List.mem_filterMap] at h
  obtain ⟨d, ⟨k, -, hk⟩, hd⟩ := h
  split at hk
  · next r hr =>
    obtain rfl : decideOn mode k r = d := Option.some.inj hk
    have hx : x = ⟨k, r.hid⟩ := by
      simp only [decideOn] at hd
      split at hd <;> split at hd <;> (try split at hd) <;> simp_all
    rw [hx, bucketImage_occupied hr]
  · cases hk
  · cases hk

/-- R18, R19: a sweep stands after the read of a bucket. -/
theorem stands_decided (mem : List Host.Cell) (mode : SweepMode) (b last : BucketId) :
    (SweepState.running mode b last
      (.writing (bucketImage mem b) ((decideBucket mem mode b).filterMap Decision.write))).Stands := by
  cases h : (decideBucket mem mode b).filterMap Decision.write with
  | nil => trivial
  | cons x rest => exact decideBucket_write (h ▸ List.mem_cons_self)

/-- R20: how a sweep goes on after a bucket. -/
theorem sweepOn_sweep (s : State) (mode : SweepMode) (b last : BucketId) :
    (b = last → (s.sweepOn mode b last).reg.sweep = .ended none ∧ (s.sweepOn mode b last).mgmt.unread = true) ∧
    (b ≠ last → s.mgmt.sweepList.length = 32 → (s.sweepOn mode b last).reg.sweep = .ended (some (b + 1)) ∧
      (s.sweepOn mode b last).mgmt.unread = true) ∧
    (b ≠ last → s.mgmt.sweepList.length ≠ 32 →
      (s.sweepOn mode b last).reg.sweep = .running mode (b + 1) last .reading) := by
  refine ⟨fun hb => ?_, fun hb hl => ?_, fun hb hl => ?_⟩
  · simp [State.sweepOn, hb, State.sweepEnd]
  · simp [State.sweepOn, hb, Config.sweepListSize, hl, State.sweepEnd]
  · simp [State.sweepOn, hb, Config.sweepListSize, hl]

theorem sweepOn_stands (s : State) (mode : SweepMode) (b last : BucketId) :
    (s.sweepOn mode b last).reg.sweep.Stands := by
  obtain ⟨h1, h2, h3⟩ := sweepOn_sweep s mode b last
  by_cases hb : b = last
  · rw [(h1 hb).1]; trivial
  · by_cases hl : s.mgmt.sweepList.length = 32
    · rw [(h2 hb hl).1]; trivial
    · rw [h3 hb hl]; trivial

/-- R18: entries that do not fit the result list end the sweep at the bucket. -/
theorem sweepRead_over {s : State} {mode : SweepMode} {b last : BucketId} {image : Table Record 4} {ds : List Decision}
    (h : 32 < (s.mgmt.sweepList ++ ds.filterMap Decision.entry).length) :
    s.sweepRead mode b last image ds = s.sweepEnd (some b) := by
  have : ¬ s.mgmt.sweepList.length + (ds.filterMap Decision.entry).length ≤ Config.sweepListSize := by
    simp only [List.length_append, Config.sweepListSize] at h ⊢
    omega
  simp only [State.sweepRead, if_neg this]

/-- R18: entries that fit join the result list, and the bucket's writes are made. -/
theorem sweepRead_fits {s : State} {mode : SweepMode} {b last : BucketId} {image : Table Record 4} {ds : List Decision}
    (h : (s.mgmt.sweepList ++ ds.filterMap Decision.entry).length ≤ 32) : s.sweepRead mode b last image ds =
      ({ s with mgmt := { s.mgmt with sweepList := s.mgmt.sweepList ++ ds.filterMap Decision.entry } }
        : State).sweepWritten mode b last image (ds.filterMap Decision.write) := by
  have : s.mgmt.sweepList.length + (ds.filterMap Decision.entry).length ≤ Config.sweepListSize := by
    simpa [Config.sweepListSize] using h
  simp only [State.sweepRead, if_pos this]

/-- R19: with a write to make the sweep makes it. -/
theorem sweepWritten_writes (s : State) (mode : SweepMode) (b last : BucketId) (image : Table Record 4)
    {todo : List SweepWrite} (h : todo ≠ []) : s.sweepWritten mode b last image todo =
      { s with reg := { s.reg with sweep := .running mode b last (.writing image todo) } } := by
  cases todo with
  | nil => exact absurd rfl h
  | cons x rest => rfl

/-- R18: what the read of a sweep's bucket leaves: the other blocks, a sweep that stands, and the result list. -/
theorem sweepRead_leaves (s : State) (mode : SweepMode) (b last : BucketId) :
    let u := (s.setPort none).sweepRead mode b last (bucketImage s.reg.mem b) (decideBucket s.reg.mem mode b)
    let list := s.mgmt.sweepList ++ (decideBucket s.reg.mem mode b).filterMap Decision.entry
    SameBlocks s u ∧ u.reg.sweep.Stands ∧
      u.mgmt.sweepList = if 32 < list.length then s.mgmt.sweepList else list := by
  intro u list
  by_cases hl : 32 < list.length
  · have hu : u = (s.setPort none).sweepEnd (some b) := sweepRead_over hl
    rw [hu, if_pos hl]
    exact ⟨⟨rfl, rfl, rfl, rfl, rfl⟩, trivial, rfl⟩
  · let v : State := { s.setPort none with mgmt := { s.mgmt with sweepList := list } }
    let writes := (decideBucket s.reg.mem mode b).filterMap Decision.write
    have hu : u = v.sweepWritten mode b last (bucketImage s.reg.mem b) writes := sweepRead_fits (Nat.le_of_not_lt hl)
    have p := samePort_sweepWritten v mode b last (bucketImage s.reg.mem b) writes
    rw [hu, if_neg hl]
    refine ⟨⟨p.cache, p.mem, p.sig, p.call, p.cells⟩, ?_, p.sweepList⟩
    by_cases hw : writes = []
    · rw [hw]; exact sweepOn_stands v mode b last
    · rw [sweepWritten_writes v mode b last _ hw]; exact stands_decided ..

/-- R18: the read of a sweep's bucket completes. -/
theorem completeSweepRead_eq {s : State} {c b last : BucketId} {mode : SweepMode}
    (hp : s.reg.port = some (.sweepRead c)) (hs : s.reg.sweep = .running mode b last .reading) :
    s.completeSweepRead =
      some ((s.setPort none).sweepRead mode b last (bucketImage s.reg.mem b) (decideBucket s.reg.mem mode b)) := by
  simp [State.completeSweepRead, hp, hs]

/-! ### The reads of a management search (R7) -/

section

variable (s : State) (h : Hid) (d : Option RecAddr)

/-- R5: a search that passed no damaged slot reports nothing. -/
@[simp] theorem reportDamaged_none : s.reportDamaged h none = s := rfl

/-- R5, R185: the first damaged slot passed is captured where the kind is enabled and the queue has room. -/
theorem reportDamaged_captures {a : RecAddr} (he : s.attn.captureEnables.registryDamaged = true)
    (hr : s.attn.captures.length < 4) : (s.reportDamaged h (some a)).attn.captures = s.attn.captures ++
      [⟨.registryDamaged, s.timeBase, false, { hid := some h, slot := some a.slot.val, bucket := some a.bucket }⟩] := by
  have he : s.attn.captureEnables.of .registryDamaged = true := he
  simp [State.reportDamaged, State.capture, he, joinCapture, Config.captureQueueSize, hr]

end

/-- R165: the reply that ends a memory request. -/
theorem finish_eq_answered {u : State} {q : MgmtRequest} {rest : List MgmtRequest} (hq : u.mgmt.queue = q :: rest)
    (o : MgmtOutcome) (data : List Byte) : u.finish o data = u.answered q rest o data := by
  rw [State.finish, hq]
  exact reply_eq_answered u o data hq

theorem SameBlocks.answered {s u : State} (h : SameBlocks s u) (q : MgmtRequest) (rest : List MgmtRequest)
    (o : MgmtOutcome) (data : List Byte) : SameBlocks s (u.answered q rest o data) := by
  simpa [SameBlocks] using h

theorem sameBlocks_reportDamaged (s : State) (h : Hid) (d : Option RecAddr) :
    SameBlocks s ((s.setPort none).reportDamaged h d) := by simp [SameBlocks, State.setPort]

/-- R7: a management read completes while no message is held. -/
theorem mgmtRead_settles {s u : State} {b : BucketId} {op : MgmtOp} (hp : s.reg.port = some (.mgmtRead b))
    (ho : s.mgmt.op = some op) (hh : s.sig.held = none)
    (hu : (s.setPort none).mgmtRead op (scanBucket s.reg.mem op.job.hid b op.damaged) = u) (hs : SameBlocks s u) :
    ∃ t, exec .mgmtReadComplete s = .next t ∧ SameBlocks s t ∧ Settles s u t := by
  obtain ⟨hc, hm, hsig, hl, hx⟩ := hs
  obtain ⟨t, ht, h⟩ := settles_of (s := s) (o := s.completeMgmtRead) (u := u)
    (by simp [State.completeMgmtRead, hp, ho, hu]) (.inl (by rw [hsig, hh]))
  exact ⟨t, ht, h.sameBlocks ⟨hc, hm, hsig, hl, hx⟩, h⟩

/-- R165, R183: the reply of an event to the request at the head, and the ATTENTION frame owed. -/
theorem Settles.answers {s u t : State} {q : MgmtRequest} {rest : List MgmtRequest} {o : MgmtOutcome}
    {data : List Byte} (h : Settles s (u.answered q rest o data) t) (hx : u.exch = s.exch) :
    t.mgmt.queue = rest ∧ t.mgmt.op = none ∧ (s.exchUp = true → s.exch.txQueue.length + 2 ≤ 64 →
      t.exch.txQueue = s.exch.txQueue ++
        replyFrame q.tag q.command o data :: owed s.attentionSet t.attentionSet) := by
  refine ⟨by simp [h.queue], by simp [h.op], fun hu hr => ?_⟩
  have := Settles.placed_after (u := { u with mgmt := { u.mgmt with queue := rest, op := none } }) h rfl
    (by simpa [State.exchUp, hx] using hu) (by simpa [hx] using hr)
  simpa [hx] using this

/-- R5: what a search's end reports of a damaged slot passed. -/
theorem Settles.reports {s u t : State} {h : Hid} {d : Option RecAddr} (hs : Settles s u t)
    (hu : u.attn = ((s.setPort none).reportDamaged h d).attn) :
    (d = none → t.attn.captures = s.attn.captures) ∧
      ∀ a, d = some a → s.attn.captureEnables.registryDamaged = true → s.attn.captures.length < 4 →
        t.attn.captures = s.attn.captures ++ [⟨.registryDamaged, s.timeBase, false,
          { hid := some h, slot := some a.slot.val, bucket := some a.bucket }⟩] := by
  have hc : t.attn.captures = ((s.setPort none).reportDamaged h d).attn.captures := by rw [hs.attn, hu]
  refine ⟨?_, ?_⟩
  · rintro rfl
    exact hc
  · rintro a rfl he hr
    exact hc.trans (reportDamaged_captures (s.setPort none) h he hr)

section

variable {s : State} {op : MgmtOp} {scan : Scan} {q : MgmtRequest} {rest : List MgmtRequest}

/-- R167: a read that finds the record of a READ-RECORD answers it. -/
theorem mgmtRead_record {a : RecAddr} {r : Record} {h : Hid} (hf : scan.found = some (a, r)) (hj : op.job = .read h)
    (hq : s.mgmt.queue = q :: rest) :
    s.mgmtRead op scan = (s.setWatch (some ⟨a, h⟩)).answered q rest .done (recordData r a) := by
  rw [State.mgmtRead, hf]
  simp only [State.mgmtFound, hj]
  exact finish_eq_answered (u := s.setWatch (some ⟨a, h⟩)) hq _ _

/-- R4, R7: a primary read without a match asks for the alternate bucket. -/
theorem mgmtRead_primary (hf : scan.found = none) (hst : op.stage = .primary) : s.mgmtRead op scan =
    s.setOp { op with
      stage := .alternate (firstEmpty s.reg.mem (primaryBucket op.job.hid)), damaged := scan.damaged } := by
  rw [State.mgmtRead, hf, hst]

/-- R7, R8: a read that finds the record of a write or a delete gives the slot of the write. -/
theorem mgmtRead_slot {a : RecAddr} {r : Record} (hf : scan.found = some (a, r)) (hj : ∀ h, op.job ≠ .read h) :
    s.mgmtRead op scan = s.setOp { op with stage := .write a r false } := by
  rw [State.mgmtRead, hf]
  cases hjob : op.job with
  | read h => exact absurd hjob (hj h)
  | write | delete | clear => simp [State.mgmtFound, hjob]

/-- R7, R8, R167: the alternate read of a READ-RECORD or DELETE-RECORD finds nothing. -/
theorem mgmtRead_notFound {e : Option RegSlot} (hf : scan.found = none) (hst : op.stage = .alternate e)
    (hj : ∀ h st cl, op.job ≠ .write h st cl) (hq : s.mgmt.queue = q :: rest) :
    s.mgmtRead op scan = (s.reportDamaged op.job.hid scan.damaged).answered q rest .notFound [] := by
  have hr : (s.reportDamaged op.job.hid scan.damaged).mgmt.queue = q :: rest := by simpa using hq
  rw [State.mgmtRead, hf, hst]
  cases hjob : op.job with
  | write h st cl => exact absurd hjob (hj h st cl)
  | read | delete | clear =>
    simp only [State.mgmtNotFound, hjob]
    exact finish_eq_answered (hjob ▸ hr) _ _

/-- R7: the alternate read of a WRITE-RECORD finds nothing, and a slot is empty for the insert. -/
theorem mgmtRead_inserts {e : Option RegSlot} {h : Hid} {st : Standing} {cl : MobClass} {a : RecAddr}
    (hf : scan.found = none) (hst : op.stage = .alternate e) (hj : op.job = .write h st cl)
    (ha : insertSlot s.reg.mem h e = some a) : s.mgmtRead op scan =
      (s.reportDamaged h scan.damaged).setOp { op with stage := .write a (.inserted h st cl) true } := by
  rw [State.mgmtRead, hf, hst]
  simp [State.mgmtNotFound, hj, MgmtJob.hid, ha]

/-- R7: the alternate read of a WRITE-RECORD finds nothing, and no slot is empty. -/
theorem mgmtRead_full {e : Option RegSlot} {h : Hid} {st : Standing} {cl : MobClass}
    (hf : scan.found = none) (hst : op.stage = .alternate e) (hj : op.job = .write h st cl)
    (ha : insertSlot s.reg.mem h e = none) (hq : s.mgmt.queue = q :: rest) :
    s.mgmtRead op scan = (s.reportDamaged h scan.damaged).answered q rest .tableFull [] := by
  have hr : (s.reportDamaged h scan.damaged).mgmt.queue = q :: rest := by simpa using hq
  rw [State.mgmtRead, hf, hst]
  simp only [State.mgmtNotFound, hj, MgmtJob.hid, ha]
  exact finish_eq_answered hr _ _

end

end Sys2Proof.Machine
end

section
namespace Sys2Proof.Machine
open Sys2Proof

/-- Settles O52: each outcome of a bucket's examination by its stage, and the sweep's by whether entries fit. -/
theorem bucketReadsDeliver : Obligations.BucketReadsDeliver := by
  unfold Obligations.BucketReadsDeliver
  refine ⟨fun s b job stage d scan q rest hp ho hq hs hh => ?_, fun s mode b last hp hs hh => ?_⟩
  · intro same answers reports
    have read {u : State} (hu : (s.setPort none).mgmtRead ⟨job, stage, d⟩ scan = u) (hb : SameBlocks s u) :
        ∃ t, exec .mgmtReadComplete s = .next t ∧ SameBlocks s t ∧ Settles s u t :=
      mgmtRead_settles hp ho hh (by rw [hs]; exact hu) hb
    refine ⟨fun a r h hf hj => ?_, fun a r h hf hj => ?_, fun hf hst => ?_,
      fun e h hf hst => ⟨fun hj => ?_, fun st cl hj => ?_⟩⟩
    · obtain ⟨t, ht, hb, h'⟩ := read (mgmtRead_record hf hj hq)
        (SameBlocks.answered (u := (s.setPort none).setWatch (some ⟨a, h⟩)) ⟨rfl, rfl, rfl, rfl, rfl⟩ ..)
      exact ⟨t, ht, hb, h'.answers rfl, by simp [h'.watch, State.setWatch]⟩
    · obtain ⟨t, ht, hb, h'⟩ := read (mgmtRead_slot hf (by rintro g rfl; simp at hj)) ⟨rfl, rfl, rfl, rfl, rfl⟩
      exact ⟨t, ht, hb, h'.queue, h'.op⟩
    · obtain ⟨t, ht, hb, h'⟩ := read (mgmtRead_primary hf hst) ⟨rfl, rfl, rfl, rfl, rfl⟩
      exact ⟨t, ht, hb, h'.queue, h'.op⟩
    · obtain ⟨t, ht, hb, h'⟩ := read (mgmtRead_notFound hf hst (by rintro g st cl rfl; simp at hj) hq)
        ((sameBlocks_reportDamaged s job.hid scan.damaged).answered ..)
      exact ⟨t, ht, hb, h'.answers (by simp [State.setPort]), h'.reports (by simp [State.answered])⟩
    · intro slot
      have hslot : insertSlot (s.setPort none).reg.mem h e = slot := by cases e <;> rfl
      subst hj
      refine ⟨fun a ha => ?_, fun hn => ?_⟩
      · obtain ⟨t, ht, hb, h'⟩ := read (mgmtRead_inserts hf hst rfl (hslot.trans ha))
          (sameBlocks_reportDamaged s h scan.damaged)
        exact ⟨t, ht, hb, h'.reports rfl, by simpa [State.setOp, State.setPort] using h'.queue, h'.op⟩
      · obtain ⟨t, ht, hb, h'⟩ := read (mgmtRead_full hf hst rfl (hslot.trans hn) hq)
          ((sameBlocks_reportDamaged s h scan.damaged).answered ..)
        exact ⟨t, ht, hb, h'.answers (by simp [State.setPort]), h'.reports (by simp [State.answered, MgmtJob.hid])⟩
  · intro entries writes list
    let v : State := { s.setPort none with mgmt := { s.mgmt with sweepList := list } }
    let u := (s.setPort none).sweepRead mode b last (bucketImage s.reg.mem b) (decideBucket s.reg.mem mode b)
    have fits (hl : list.length ≤ 32) : u = v.sweepWritten mode b last (bucketImage s.reg.mem b) writes :=
      sweepRead_fits hl
    have goesOn (hl : list.length ≤ 32) (hw : writes = []) : u = v.sweepOn mode b last := by
      rw [fits hl, hw]; rfl
    obtain ⟨hb, hst, hlist⟩ := sweepRead_leaves s mode b last
    have hk : u.KeepsHeld := .inl (by rw [hb.2.2.1, hh])
    obtain ⟨hsw, hun⟩ := settle_stands (s := s) hk hst
    have h := settles_settle s hk
    obtain ⟨hcache, hmem, hsig, hcall, hcells⟩ := h.sameBlocks hb
    have ht : exec .sweepReadComplete s = .next (u.settle s) := by
      show Host.Outcome.next (s.settled s.completeSweepRead) = _
      rw [completeSweepRead_eq hp hs]
      rfl
    refine ⟨u.settle s, ht, hmem, hcache, hsig, hcall, hcells, fun hl => ?_, fun hl => ⟨?_, fun hw => ?_,
      fun hw hlast => ?_, fun hw hne hfull => ?_, fun hw hne hroom => ?_⟩⟩
    · have hu : u = (s.setPort none).sweepEnd (some b) := sweepRead_over hl
      rw [hsw, hun, h.sweepList, hu]
      exact ⟨rfl, rfl, rfl⟩
    · rw [h.sweepList, hlist]
      exact if_neg (Nat.not_lt.2 hl)
    · rw [hsw, fits hl, sweepWritten_writes v mode b last _ hw]
    · rw [hsw, hun, goesOn hl hw]
      exact (sweepOn_sweep v mode b last).1 hlast
    · rw [hsw, hun, goesOn hl hw]
      exact (sweepOn_sweep v mode b last).2.1 hne hfull
    · rw [hsw, goesOn hl hw]
      exact (sweepOn_sweep v mode b last).2.2 hne (Nat.ne_of_lt hroom)

end Sys2Proof.Machine
end

section
/-! What the end of an event leaves as it was, though it may release a held message (R15): memory, the format, watches that
are gone, and a record address that neither entry nor queued write names. -/

namespace Sys2Proof.Machine

open Sys2Proof

/-! ### Record addresses in the cache and the write-through queue -/

/-- R23: no valid entry names the record address. -/
theorem entryAt_eq_none {s : State} {a : RecAddr} :
    s.entryAt a = none ↔ ∀ i w e, (s.cache.at i).get w = some e → e.addr ≠ a := by
  have hset (c : CacheSet) : c.naming a = none ↔ ∀ w e, c.get w = some e → e.addr ≠ a := by
    have hopt (x y : Option CacheEntry) : ((x.filter fun e => e.addr = a) <|> (y.filter fun e => e.addr = a)) = none ↔
        (∀ e, x = some e → e.addr ≠ a) ∧ ∀ e, y = some e → e.addr ≠ a := by
      cases x <;> cases y <;> simp [Option.filter]
    rw [CacheSet.naming, hopt]
    exact ⟨fun h w => by cases w; exacts [h.1, h.2], fun h => ⟨h .way0, h .way1⟩⟩
  rw [State.entryAt, List.findSome?_eq_none_iff]
  constructor
  · intro h i w e he
    have : s.cache.at i ∈ s.cache.toList := by simp [Table.at]
    exact (hset _).1 (h _ this) w e he
  · intro h c hc
    obtain ⟨i, hi, rfl⟩ := List.getElem_of_mem hc
    exact (hset _).2 (h ⟨i, by simpa using hi⟩)

/-- Every entry of a cache names a record address that the same way of the other cache names. -/
def AddrFrom (c d : Table CacheSet 64) : Prop :=
  ∀ i w f, (d.at i).get w = some f → ∃ e, (c.at i).get w = some e ∧ e.addr = f.addr

theorem AddrFrom.refl (c : Table CacheSet 64) : AddrFrom c c := fun _ _ f h => ⟨f, h, rfl⟩

theorem entryAt_from {s t : State} (h : AddrFrom s.cache t.cache) {a : RecAddr} (hn : s.entryAt a = none) :
    t.entryAt a = none := by
  rw [entryAt_eq_none] at hn ⊢
  intro i w f hf
  obtain ⟨e, he, ha⟩ := h i w f hf
  exact ha ▸ hn i w e he

theorem addrFrom_touch (s : State) (h : Hid) : AddrFrom s.cache (s.touch h).cache := by
  simp only [State.touch]
  split
  · intro i w f hf
    rw [Table.at_put] at hf
    split at hf
    · next hi => rw [hi]; exact ⟨f, hf, rfl⟩
    · exact ⟨f, hf, rfl⟩
  · exact .refl _

/-- R32: a change through the entry keeps the address it names. -/
theorem addrFrom_setEntry (s : State) (h : Hid) (r : Record) : AddrFrom s.cache (s.setEntry h r).cache := by
  simp only [State.setEntry]
  split
  · next w hw =>
    obtain ⟨e, he, _⟩ := CacheSet.hit_holds hw
    intro i v f hf
    rw [Table.at_put] at hf
    split at hf
    · next hi =>
      rw [CacheSet.get_set] at hf
      rw [hi]
      split at hf
      · next hv =>
        rw [he] at hf
        cases hf
        exact ⟨e, hv ▸ he, rfl⟩
      · exact ⟨f, hf, rfl⟩
    · exact ⟨f, hf, rfl⟩
  · exact .refl _

/-- R23: the entry found for a HID stands in the cache. -/
theorem entryOf_get {s : State} {h : Hid} {e : CacheEntry} (he : s.entryOf h = some e) :
    ∃ w, (s.cache.at (cacheSetOf h)).get w = some e := by
  simp only [State.entryOf] at he
  split at he
  · next w _ => exact ⟨w, he⟩
  · cases he

theorem queuedAt_eq_none {writes : List QueuedWrite} {a : RecAddr} :
    queuedAt writes a = none ↔ ∀ w ∈ writes, w.addr ≠ a := by
  simp [queuedAt]

theorem mem_joinWrite {writes : List QueuedWrite} {a : RecAddr} {r : Record} {w : QueuedWrite}
    (h : w ∈ joinWrite writes a r) : w = ⟨a, r⟩ ∨ w ∈ writes := by
  simp only [joinWrite] at h
  split at h
  · obtain ⟨v, hv, rfl⟩ := List.mem_map.1 h
    split
    · exact .inl rfl
    · exact .inr hv
  · simpa [or_comm] using h

/-- The grants leave no write in the queue that was not there. -/
theorem LeavesWrites.subset {s t : State} (h : LeavesWrites s t) {w : QueuedWrite} (hw : w ∈ t.reg.writes) :
    w ∈ s.reg.writes := by
  rcases h with h | ⟨v, h, _⟩ | ⟨_, a, _, _, _, _, _, h⟩
  · rwa [← h]
  · rw [h]; exact List.mem_cons_of_mem _ hw
  · rw [h] at hw; exact List.mem_of_mem_filter hw

/-! ### The end of an event -/

/-- What the end of an event leaves as it was, whether or not it releases a held message. -/
structure Rests (s t : State) : Prop where
  mem : t.reg.mem = s.reg.mem
  format : t.reg.format = s.reg.format
  formatPos : t.reg.formatPos = s.reg.formatPos
  watch : ∀ w, t.mgmt.watch = some w → s.mgmt.watch = some w
  forgets : ∀ a, s.entryAt a = none ∧ queuedAt s.reg.writes a = none → t.entryAt a = none ∧ queuedAt t.reg.writes a = none

namespace Rests

variable {s t u : State}

theorem refl (s : State) : Rests s s := ⟨rfl, rfl, rfl, fun _ => id, fun _ => id⟩

theorem trans (h : Rests s t) (k : Rests t u) : Rests s u :=
  ⟨k.mem.trans h.mem, k.format.trans h.format, k.formatPos.trans h.formatPos, fun w hw => h.watch w (k.watch w hw),
    fun a ha => k.forgets a (h.forgets a ha)⟩

/-- An event's part that leaves registry, cache and watch. -/
theorem of_same (hr : t.reg = s.reg) (hc : t.cache = s.cache) (hw : t.mgmt.watch = s.mgmt.watch) : Rests s t :=
  ⟨by rw [hr], by rw [hr], by rw [hr], by rw [hw]; exact fun _ => id,
    fun a ha => ⟨by rw [State.entryAt, hc]; exact ha.1, by rw [hr]; exact ha.2⟩⟩

theorem touch (s : State) (h : Hid) : Rests s (s.touch h) :=
  ⟨by simp, by simp, by simp, by simp, fun a ha => ⟨entryAt_from (addrFrom_touch s h) ha.1, by simpa using ha.2⟩⟩

/-- R32, R14: a change through a valid entry queues a write for the address that the entry names. -/
theorem changeEntry {h : Hid} {e : CacheEntry} (he : s.entryOf h = some e) (r : Record) :
    Rests s (s.changeEntry h e.addr r) := by
  refine ⟨by simp [State.changeEntry, State.clearWatchAt], by simp [State.changeEntry, State.clearWatchAt],
    by simp [State.changeEntry, State.clearWatchAt], fun w hw => ?_, fun a ha => ⟨?_, ?_⟩⟩
  · simp only [State.changeEntry, State.clearWatchAt, Option.filter_eq_some_iff] at hw
    simpa using hw.1
  · exact entryAt_from (addrFrom_setEntry s h r) ha.1
  · rw [queuedAt_eq_none] at ha ⊢
    intro w hw
    rcases mem_joinWrite (by simpa [State.changeEntry, State.clearWatchAt] using hw) with rfl | hw
    · obtain ⟨v, hv⟩ := entryOf_get he
      exact entryAt_eq_none.1 ha.1 _ v e hv
    · exact ha.2 w hw

theorem assignContexts (s : State) : Rests s s.assignContexts := by
  obtain ⟨_, _, _, h⟩ := assignContexts_eq s
  rw [h]
  exact ⟨rfl, rfl, rfl, fun _ => id, fun _ => id⟩

theorem handles (h : Handles s u) : Rests s u := by
  induction h with
  | acted hb _ => exact of_same hb.reg hb.cache (by rw [hb.mgmt])
  | changed hb _ he _ _ =>
    refine (of_same hb.reg hb.cache (by rw [hb.mgmt])).trans (changeEntry ?_ _)
    rw [State.entryOf, hb.cache]
    exact he
  | held m => exact of_same rfl rfl rfl
  | parked m => exact of_same rfl rfl rfl
  | @grouped s h l m _ _ =>
    let p := s.sig.park ⟨h, l, m⟩
    let v : State := { s with sig := { p with groups := p.groups ++ [⟨h, .awaiting⟩] } }
    have hv : Rests s v := of_same rfl rfl rfl
    exact hv.trans (assignContexts v)
  | touched h _ ih => exact (touch _ h).trans ih

theorem release (m : Held) : Rests s (s.release (actOf m.msg) m) :=
  have hv : Rests s { s with sig := { s.sig with held := none } } := of_same rfl rfl rfl
  hv.trans (handles (release_handles s m))

theorem tryRelease (h : s.tryRelease = some u) : Rests s u := by
  simp only [State.tryRelease] at h
  split at h
  · next m _ =>
    split at h
    · cases h; exact release m
    · cases h
  · cases h

theorem settlePort (s before : State) : Rests s (s.settlePort before) := by
  have p := samePort_settlePort s before
  refine ⟨p.mem, p.format, p.formatPos, by rw [p.watch]; exact fun _ => id,
    fun a ha => ⟨by rw [State.entryAt, p.cache]; exact ha.1, ?_⟩⟩
  rw [queuedAt_eq_none] at ha ⊢
  exact fun w hw => ha.2 w ((leavesWrites_settlePort s before).subset hw)

/-- R15, R12, R183: the end of an event at the memory port. -/
theorem settle (s before : State) : Rests s (s.settle before) := by
  have hr (v : State) : Rests v (v.tryRelease.getD v) := by
    cases h : v.tryRelease with
    | none => exact refl v
    | some w => exact tryRelease h
  have judged (v : State) : Rests v (v.judgeAttention before) := of_same (by simp) (by simp) (by simp)
  have hp := (hr s).trans (settlePort _ before)
  simp only [State.settle]
  refine Rests.trans ?_ (judged _)
  split
  · next w hw => exact hp.trans ((tryRelease hw).trans (settlePort w before))
  · exact hp

end Rests

end Sys2Proof.Machine
end

section
/-! The giving out of contexts (R6, R26), and what the completion of a record write reports (R29, R30) and leaves. -/

namespace Sys2Proof.Machine

open Sys2Proof

/-! ### Contexts given out -/

/-- R26: nothing is given out while no context is FREE or no group asks. -/
theorem assign_idle (n : Nat) {s : State} (h : s.reg.freeContext = none ∨ s.sig.firstAsking = none) :
    State.assign n s = s := by
  cases n with
  | zero => rfl
  | succ n =>
    simp only [State.assign]
    split
    · next c g hc hg => rcases h with h | h <;> simp_all
    · rfl

theorem assignContexts_idle {s : State} (h : s.reg.freeContext = none ∨ s.sig.firstAsking = none) :
    s.assignContexts = s := assign_idle _ h

/-- R6: a context that holds a search keeps it. -/
theorem assign_busy (n : Nat) {c : ContextId} {x : Search} : ∀ {s : State}, s.reg.contexts.at c = some x →
    (State.assign n s).reg.contexts.at c = some x := by
  induction n with
  | zero => exact id
  | succ n ih =>
    intro s hx
    simp only [State.assign]
    split
    · next d h hd _ =>
      refine ih ?_
      split
      · have hne : c ≠ d := by rintro rfl; rw [freeContext_some hd] at hx; cases hx
        simpa [Registry.startSearch, hne] using hx
      · exact hx
    · exact hx

/-- R26: the group that asks first takes the FREE context, and no other context or group changes when none is left of
the one or of the other. -/
theorem assignContexts_takes {s : State} {c : ContextId} {h : Hid} (hc : s.reg.freeContext = some c)
    (hh : s.sig.firstAsking = some h) (hf : s.reg.format = .formatted)
    (hstop : (s.reg.startSearch c h).freeContext = none ∨ (s.sig.setPhase h (.searching c)).firstAsking = none) :
    s.assignContexts = { s with reg := s.reg.startSearch c h, sig := s.sig.setPhase h (.searching c) } := by
  show State.assign (7 + 1) s = _
  rw [State.assign, hc, hh]
  simp only [hf, if_true]
  exact assign_idle 7 hstop

/-- R26: no group asks. -/
theorem firstAsking_none {p : SigProc} (h : ∀ g ∈ p.groups, g.phase.asks = false) : p.firstAsking = none := by
  cases hf : p.firstAsking with
  | none => rfl
  | some x =>
    obtain ⟨g, hg, _, ha⟩ := firstAsking_some hf
    rw [h g hg] at ha
    cases ha

/-- R26: the groups of one HID alone ask, and a message of it is parked. -/
theorem firstAsking_only {p : SigProc} {m : Parked} {g : Group} (hm : m ∈ p.parked) (hg : g ∈ p.groups)
    (ha : g.phase.asks = true) (he : m.hid = g.hid) (ho : ∀ x ∈ p.groups, x.phase.asks = true → x.hid = g.hid) :
    p.firstAsking = some g.hid := by
  cases hf : p.firstAsking with
  | none =>
    simp only [SigProc.firstAsking, Option.map_eq_none_iff, List.find?_eq_none] at hf
    refine absurd (List.any_eq_true.2 ⟨g, hg, ?_⟩) (hf m hm)
    simp [he, ha]
  | some x =>
    obtain ⟨y, hy, rfl, hya⟩ := firstAsking_some hf
    rw [ho y hy hya]

/-- R26: once the groups of one HID search, no group asks when those of that HID alone asked. -/
theorem firstAsking_setPhase {p : SigProc} {h : Hid} {c : ContextId}
    (ho : ∀ x ∈ p.groups, x.hid ≠ h → x.phase.asks = false) : (p.setPhase h (.searching c)).firstAsking = none := by
  refine firstAsking_none fun x hx => ?_
  obtain ⟨y, hy, rfl⟩ := List.mem_map.1 hx
  split
  · rfl
  · next hn => exact ho y hy hn

/-! ### What a completed write reports (R29, R30) -/

/-- R29, R30: what the report of a completed write changes. -/
theorem reportWrite_eq (s : State) (hids : List Hid) : ∃ contexts startOrder groups, s.reportWrite hids =
    { s with reg := { s.reg with contexts, startOrder }, sig := { s.sig with groups } } := by
  obtain ⟨c, o, g, h⟩ := assignContexts_eq { s with
    reg := { s.reg with contexts := s.reg.contexts.map (Option.map (Search.markStale hids)) }
    sig := { s.sig with groups := s.sig.groups.map (Group.reopenFor hids) } }
  exact ⟨c, o, g, h⟩

theorem freeContext_markStale (r : Registry) (hids : List Hid) :
    ({ r with contexts := r.contexts.map (Option.map (Search.markStale hids)) } : Registry).freeContext =
      r.freeContext := by
  simp [Registry.freeContext]

theorem reopenFor_eq (hids : List Hid) (g : Group) :
    g.reopenFor hids = if g.phase = .ready false ∧ g.hid ∈ hids then ⟨g.hid, .reopened⟩ else g := by
  simp only [Group.reopenFor, List.contains_iff_mem]

theorem markStale_eq (hids : List Hid) (x : Search) :
    x.markStale hids = if x.hid ∈ hids then { x with stale := true } else x := by
  simp only [Search.markStale, List.contains_iff_mem]

/-- R29, R30: `t` is `s` once a completed write of a slot with these HIDs has been reported: searches for them are stale,
groups of them that are READY with NOT FOUND are reopened, and a group so reopened that alone asks takes a FREE
context. -/
def Reported (s t : State) (hids : List Hid) : Prop :=
  (∀ c x, s.reg.contexts.at c = some x →
    t.reg.contexts.at c = some (if x.hid ∈ hids then { x with stale := true } else x)) ∧
  t.sig.parked = s.sig.parked ∧ t.sig.intake = s.sig.intake ∧
  (s.reg.freeContext = none → t.sig.groups =
    s.sig.groups.map fun g => if g.phase = .ready false ∧ g.hid ∈ hids then ⟨g.hid, .reopened⟩ else g) ∧
  (∀ g c m, g ∈ s.sig.groups → g.phase = .ready false → g.hid ∈ hids →
    (∀ x ∈ s.sig.groups, x.phase.asks = false ∧ (x.phase = .ready false → x.hid ∈ hids → x = g)) →
    m ∈ s.sig.parked → m.hid = g.hid → s.reg.freeContext = some c → s.reg.format = .formatted →
    t.sig.groups = s.sig.groups.map (fun x => if x.hid = g.hid then ⟨g.hid, .searching c⟩ else x) ∧
    t.reg.contexts.at c = some ⟨g.hid, false, none, false⟩)

theorem reported_reportWrite (s : State) (hids : List Hid) : Reported s (s.reportWrite hids) hids := by
  let v : State := { s with
    reg := { s.reg with contexts := s.reg.contexts.map (Option.map (Search.markStale hids)) }
    sig := { s.sig with groups := s.sig.groups.map (Group.reopenFor hids) } }
  have hv : s.reportWrite hids = v.assignContexts := rfl
  have hfree : v.reg.freeContext = s.reg.freeContext := freeContext_markStale s.reg hids
  have hgroups : v.sig.groups = s.sig.groups.map (Group.reopenFor hids) := rfl
  obtain ⟨_, _, _, he⟩ := reportWrite_eq s hids
  refine ⟨fun c x hx => ?_, by rw [he], by rw [he], fun hn => ?_, fun g c m hg hp hh ho hm hmg hc hf => ?_⟩
  · rw [hv, ← markStale_eq]
    exact assign_busy _ (by simp [v, hx])
  · rw [hv, assignContexts_idle (.inl (hfree.trans hn)), hgroups]
    exact List.map_congr_left fun g _ => reopenFor_eq hids g
  · have hreopened : (⟨g.hid, .reopened⟩ : Group) ∈ v.sig.groups :=
      List.mem_map.2 ⟨g, hg, by rw [reopenFor_eq, if_pos ⟨hp, hh⟩]⟩
    have others (x : Group) (hx : x ∈ s.sig.groups) (hne : x.hid ≠ g.hid) : x.reopenFor hids = x := by
      rw [reopenFor_eq, if_neg]
      exact fun hc => hne (by rw [(ho x hx).2 hc.1 hc.2])
    have asks : ∀ y ∈ v.sig.groups, y.hid ≠ g.hid → y.phase.asks = false := by
      intro y hy hne
      obtain ⟨x, hx, rfl⟩ := List.mem_map.1 hy
      rw [Group.reopenFor_hid] at hne
      rw [others x hx hne]
      exact (ho x hx).1
    have first : v.sig.firstAsking = some g.hid := by
      refine firstAsking_only (g := ⟨g.hid, .reopened⟩) hm hreopened rfl hmg fun x hx ha => ?_
      by_contra hne
      rw [asks x hx hne] at ha
      cases ha
    rw [hv, assignContexts_takes (hfree.trans hc) first hf (.inr (firstAsking_setPhase asks))]
    refine ⟨?_, by simp [Registry.startSearch]⟩
    show (v.sig.groups.map _) = _
    rw [hgroups, List.map_map]
    refine List.map_congr_left fun x hx => ?_
    simp only [Function.comp, Group.reopenFor_hid]
    split
    · rfl
    · next hne => exact others x hx hne

/-- The report depends on searches, parking and the format state alone. -/
theorem Reported.congr {s s' t t' : State} {hids : List Hid} (h : Reported s' t' hids)
    (hc : s'.reg.contexts = s.reg.contexts) (hs : s'.sig = s.sig) (hf : s'.reg.format = s.reg.format)
    (tc : t.reg.contexts = t'.reg.contexts) (ts : t.sig = t'.sig) : Reported s t hids := by
  have hfree : s'.reg.freeContext = s.reg.freeContext := by simp only [Registry.freeContext, hc]
  simpa only [Reported, hc, hs, hf, hfree, tc, ts] using h

/-! ### What the completion of a write leaves before the end of the event -/

section

variable (s : State) (a : RecAddr) (r : Record)

theorem written_reg : (s.written a r).reg = { s.reg with mem := writeRecord s.reg.mem a r, port := none } := by
  simp [State.written, State.store]

theorem written_mgmt : (s.written a r).mgmt = { s.mgmt with
    watch := s.mgmt.watch.filter (fun w => w.addr ≠ a), op := s.mgmt.op.map (MgmtOp.refresh · a r) } := by
  simp [State.written, State.clearWatchAt, State.store]

theorem writtenByOther_reg : (s.writtenByOther a r).reg = { s.reg with
    mem := writeRecord s.reg.mem a r, port := none, sweep := s.reg.sweep.refresh a r } := by
  simp only [State.writtenByOther, written_reg]

theorem writtenByOther_mgmt : (s.writtenByOther a r).mgmt = { s.mgmt with
    watch := s.mgmt.watch.filter (fun w => w.addr ≠ a), op := s.mgmt.op.map (MgmtOp.refresh · a r) } :=
  written_mgmt s a r

theorem carry_reg (f : Record → Record) :
    (s.carry a f).reg = { s.reg with writes := changeWrite s.reg.writes a f } := rfl

end

section

variable (s : State) (o : MgmtOutcome) (data : List Byte)

@[simp] theorem finish_sig : (s.finish o data).sig = s.sig := by rw [State.finish]; split <;> simp
@[simp] theorem finish_reg : (s.finish o data).reg = s.reg := by rw [State.finish]; split <;> simp
@[simp] theorem finish_cache : (s.finish o data).cache = s.cache := by rw [State.finish]; split <;> simp
@[simp] theorem finish_call : (s.finish o data).call = s.call := by rw [State.finish]; split <;> simp
@[simp] theorem finish_cells : (s.finish o data).cells = s.cells := by rw [State.finish]; split <;> simp
@[simp] theorem finish_watch : (s.finish o data).mgmt.watch = s.mgmt.watch := by
  rw [State.finish]; split <;> simp [State.reply]
@[simp] theorem finish_entryAt (a : RecAddr) : (s.finish o data).entryAt a = s.entryAt a := by simp [State.entryAt]

end

/-- R168: no watch on the slot of a completed write is left. -/
theorem watch_filter {w : Option Watch} {a : RecAddr} : ∀ x, w.filter (fun w => w.addr ≠ a) = some x → x.addr ≠ a := by
  intro x hx
  simpa using (Option.filter_eq_some_iff.1 hx).2

/-- An event that may touch the memory port: what it leaves whether or not it releases a held message, and what it leaves
while none is held. -/
theorem completes {s u : State} {o : Option State} (h : o = some u) :
    ∃ t, (Host.Outcome.next (s.settled o) : Host.Outcome State Fault Refusal) = .next t ∧ Rests u t ∧
      (u.sig.held = none → Settles s u t) := by
  subst h
  exact ⟨_, rfl, .settle u s, fun hh => settles_settle s (.inl hh)⟩

/-- R8: after the invalidation of a slot's entries no entry names the slot. -/
theorem entryAt_invalidated (s : State) (a : RecAddr) : (s.modEntriesAt a fun _ => none).entryAt a = none := by
  rw [entryAt_eq_none]
  intro i w e he
  have hc (x : Option CacheEntry) (h : changeIfNames a (fun _ => none) x = some e) : e.addr ≠ a := by
    simp only [changeIfNames] at h
    split at h
    · split at h
      · cases h
      · next hn => cases h; exact hn
    · cases h
  simp only [State.modEntriesAt, Table.at_map] at he
  cases w
  · exact hc _ he
  · exact hc _ he

/-- `v` is `s` with a record written to a slot: what the reports and the end of the event need of it. -/
structure Wrote (s v : State) (a : RecAddr) (r : Record) : Prop where
  mem : v.reg.mem = writeRecord s.reg.mem a r
  contexts : v.reg.contexts = s.reg.contexts
  format : v.reg.format = s.reg.format
  sig : v.sig = s.sig
  cells : v.cells = s.cells
  call : v.call = s.call
  watch : ∀ w, v.mgmt.watch = some w → w.addr ≠ a

theorem wrote_written (s : State) (a : RecAddr) (r : Record) : Wrote s (s.written a r) a r :=
  ⟨by rw [written_reg], by rw [written_reg], by rw [written_reg], by simp, by simp, by simp,
    by rw [written_mgmt]; exact watch_filter⟩

theorem wrote_writtenByOther (s : State) (a : RecAddr) (r : Record) : Wrote s (s.writtenByOther a r) a r :=
  ⟨by rw [writtenByOther_reg], by rw [writtenByOther_reg], by rw [writtenByOther_reg], by simp, by simp, by simp,
    by rw [writtenByOther_mgmt]; exact watch_filter⟩

theorem Wrote.carry {s v : State} {a : RecAddr} {r : Record} (h : Wrote s v a r) (f : Record → Record) :
    Wrote s (v.carry a f) a r :=
  ⟨h.mem, h.contexts, h.format, h.sig, h.cells, h.call, h.watch⟩

/-- R9: a management write in memory, its change carried to the entry and the queued write of its slot. -/
def State.mgmtWritten (s : State) (a : RecAddr) (r : Record) : State :=
  match s.mgmt.op with
  | some op => (s.writtenByOther a r).carry a op.job.change
  | none => s.writtenByOther a r

theorem wrote_mgmtWritten (s : State) (a : RecAddr) (r : Record) : Wrote s (s.mgmtWritten a r) a r := by
  rw [State.mgmtWritten]
  split
  · exact (wrote_writtenByOther s a r).carry _
  · exact wrote_writtenByOther s a r

theorem completeMgmtWrite_eq {s : State} {a : RecAddr} {r : Record} (hp : s.reg.port = some (.mgmtWrite a r)) :
    s.completeMgmtWrite = some (((s.mgmtWritten a r).reportWrite ((heldHid s.reg.mem a).toList ++ [r.hid])).finish
      .done []) := by
  cases ho : s.mgmt.op <;> simp [State.completeMgmtWrite, hp, State.mgmtWritten, ho]

/-- R8: an empty write in memory, the entry and the queued write of its slot gone. -/
def State.emptyWritten (s : State) (a : RecAddr) : State :=
  let t := (s.writtenByOther a .empty).modEntriesAt a fun _ => none
  { t with reg := { t.reg with writes := dropWrite t.reg.writes a } }

theorem wrote_emptyWritten (s : State) (a : RecAddr) : Wrote s (s.emptyWritten a) a .empty :=
  have h := wrote_writtenByOther s a .empty
  ⟨h.mem, h.contexts, h.format, h.sig, h.cells, h.call, h.watch⟩

theorem completeEmptyWrite_eq {s : State} {a : RecAddr} (hp : s.reg.port = some (.emptyWrite a)) :
    s.completeEmptyWrite = some (((s.emptyWritten a).reportWrite (heldHid s.reg.mem a).toList).finish .done []) := by
  rw [State.completeEmptyWrite, hp]
  rfl

/-- R19, R36: a sweep's write in memory, the mark cleared in the entry and the queued write of its slot. -/
theorem completeSweepWrite_eq {s : State} {a : RecAddr} {r : Record} {mode : SweepMode} {b last : BucketId}
    {image : Table Record 4} {todo : List SweepWrite} (hp : s.reg.port = some (.sweepWrite a r))
    (hs : s.reg.sweep = .running mode b last (.writing image todo)) : s.completeSweepWrite =
      some ((((s.written a r).carry a (Record.clearMark · mode)).reportWrite
        ((heldHid s.reg.mem a).toList ++ [r.hid])).sweepWritten mode b last image todo.tail) := by
  simp only [State.completeSweepWrite, hp, hs]

theorem completeSweepWrite_ended {s : State} {a : RecAddr} {r : Record} (hp : s.reg.port = some (.sweepWrite a r))
    (hs : s.SweepKeeps) : s.completeSweepWrite = some (s.written a r) := by
  simp only [State.completeSweepWrite, hp]
  split
  · next mode b last image todo h => exact absurd h (hs mode b last image todo)
  · rfl

/-- R1, R29, R30, R168: a completed write that is reported: the event ends with what has been reported in place. -/
theorem reported_event {s v u : State} {a : RecAddr} {r : Record} {hids : List Hid} {o : Option State}
    (hv : Wrote s v a r) (ho : o = some u) (hm : u.reg.mem = (v.reportWrite hids).reg.mem)
    (hc : u.reg.contexts = (v.reportWrite hids).reg.contexts) (hs : u.sig = (v.reportWrite hids).sig)
    (hcells : u.cells = (v.reportWrite hids).cells) (hcall : u.call = (v.reportWrite hids).call)
    (hw : u.mgmt.watch = (v.reportWrite hids).mgmt.watch) :
    ∃ t, (Host.Outcome.next (s.settled o) : Host.Outcome State Fault Refusal) = .next t ∧
      t.reg.mem = writeRecord s.reg.mem a r ∧ (s.sig.held = none → t.cells = s.cells ∧ t.call = s.call) ∧
      (∀ w, t.mgmt.watch = some w → w.addr ≠ a) ∧ (s.sig.held = none → Reported s t hids) ∧ Rests u t := by
  obtain ⟨_, _, groups, he⟩ := reportWrite_eq v hids
  obtain ⟨t, ht, hr, h⟩ := completes (s := s) ho
  replace hcells : u.cells = v.cells := by rw [hcells, he]
  replace hcall : u.call = v.call := by rw [hcall, he]
  replace hw : u.mgmt.watch = v.mgmt.watch := by rw [hw, he]
  have held (hh : s.sig.held = none) : u.sig.held = none := by rw [hs, he]; exact (hv.sig ▸ hh :)
  refine ⟨t, ht, by rw [hr.mem, hm, he, hv.mem], fun hh => ?_, fun w h => hv.watch w (hw ▸ hr.watch w h),
    fun hh => ?_, hr⟩
  · exact ⟨(h (held hh)).cells.trans (hcells.trans hv.cells), (h (held hh)).call.trans (hcall.trans hv.call)⟩
  · exact (reported_reportWrite v hids).congr hv.contexts hv.sig hv.format
      ((h (held hh)).contexts.trans hc) ((h (held hh)).sig.trans hs)

end Sys2Proof.Machine
end

section
namespace Sys2Proof.Machine
open Sys2Proof

/-- Settles O50: each write leaves its record in memory; three of them report the HIDs of their slot. -/
theorem recordWritesReachMemory : Obligations.RecordWritesReachMemory := by
  unfold Obligations.RecordWritesReachMemory
  intro s a r frame still before reports
  have hbefore : (heldHid s.reg.mem a).toList = before := by
    simp only [before, heldHid]
    cases slotView s.reg.mem a <;> rfl
  refine ⟨fun hp => ?_, fun hp => ?_, fun hp => ?_, fun hp => ?_, fun hp => ?_, fun hp => ?_, fun b hp => ?_⟩
  · obtain ⟨t, ht, hr, h⟩ := completes (s := s) (o := s.completeWriteThrough) (u := s.writtenByOther a r)
      (by simp [State.completeWriteThrough, hp])
    have hw := wrote_writtenByOther s a r
    have hs (hh : s.sig.held = none) := h (by simpa using hh)
    exact ⟨t, ht, hr.mem.trans hw.mem, fun hh => ⟨(hs hh).cells.trans hw.cells, (hs hh).call.trans hw.call⟩,
      fun hh => ⟨(hs hh).sig.trans hw.sig, by simp [(hs hh).cache], (hs hh).contexts.trans hw.contexts⟩,
      fun w hx => hw.watch w (hr.watch w hx)⟩
  · obtain ⟨t, ht, hm, hf, hw, hrep, _⟩ := reported_event (o := s.completeMgmtWrite)
      (hids := (heldHid s.reg.mem a).toList ++ [r.hid]) (wrote_mgmtWritten s a r)
      (completeMgmtWrite_eq hp) (by simp) (by simp) (by simp) (by simp) (by simp) (by simp)
    exact ⟨t, ht, hm, hf, hw, hbefore ▸ hrep⟩
  · obtain ⟨t, ht, hm, hf, hw, hrep, hr⟩ := reported_event (o := s.completeEmptyWrite)
      (hids := (heldHid s.reg.mem a).toList) (wrote_emptyWritten s a)
      (completeEmptyWrite_eq hp) (by simp) (by simp) (by simp) (by simp) (by simp) (by simp)
    obtain ⟨_, _, _, he⟩ := reportWrite_eq (s.emptyWritten a) (heldHid s.reg.mem a).toList
    obtain ⟨hentry, hqueue⟩ := hr.forgets a
      ⟨by rw [finish_entryAt, he]; exact entryAt_invalidated _ a,
        by rw [finish_reg, he, queuedAt_eq_none]; simp [State.emptyWritten, dropWrite]⟩
    exact ⟨t, ht, hm, hentry, hqueue, hf, hw, hbefore ▸ hrep⟩
  · obtain ⟨t, ht, hr, h⟩ := completes (s := s) (o := s.completeFormatWrite) (u := (s.store a .empty).formatOn)
      (by simp [State.completeFormatWrite, hp])
    have hs (hh : s.sig.held = none) := h hh
    exact ⟨t, ht, hr.mem, hr.formatPos, hr.format, fun hh => ⟨(hs hh).cells, (hs hh).call⟩,
      fun hh => ⟨(hs hh).sig, (hs hh).cache, (hs hh).contexts⟩⟩
  · by_cases hrun : ∃ mode b last image todo, s.reg.sweep = .running mode b last (.writing image todo)
    · obtain ⟨mode, b, last, image, todo, hsw⟩ := hrun
      have p := samePort_sweepWritten (((s.written a r).carry a (Record.clearMark · mode)).reportWrite
        ((heldHid s.reg.mem a).toList ++ [r.hid])) mode b last image todo.tail
      obtain ⟨t, ht, hm, hf, hw, hrep, _⟩ := reported_event (o := s.completeSweepWrite)
        ((wrote_written s a r).carry (Record.clearMark · mode)) (completeSweepWrite_eq hp hsw) p.mem p.contexts p.sig
        p.cells p.call p.watch
      exact ⟨t, ht, hm, hf, hw, fun _ _ _ _ _ _ => hbefore ▸ hrep⟩
    · have hw := wrote_written s a r
      obtain ⟨t, ht, hr, h⟩ := completes (s := s) (o := s.completeSweepWrite) (u := s.written a r)
        (completeSweepWrite_ended hp fun mode b last image todo h => hrun ⟨mode, b, last, image, todo, h⟩)
      have hs (hh : s.sig.held = none) := h (by simpa using hh)
      exact ⟨t, ht, hr.mem.trans hw.mem, fun hh => ⟨(hs hh).cells.trans hw.cells, (hs hh).call.trans hw.call⟩,
        fun w hx => hw.watch w (hr.watch w hx),
        fun mode b last image todo hsw => absurd ⟨mode, b, last, image, todo, hsw⟩ hrun⟩
  · obtain ⟨t, ht, hr, h⟩ := completes (s := s) (o := s.completeOrphan) (u := s.store a r)
      (by simp [State.completeOrphan, hp])
    have hs (hh : s.sig.held = none) := h hh
    exact ⟨t, ht, hr.mem, fun hh => ⟨(hs hh).cells, (hs hh).call⟩,
      fun hh => ⟨(hs hh).sig, (hs hh).cache, (hs hh).contexts⟩, fun hh => (hs hh).watch⟩
  · obtain ⟨t, ht, hr, h⟩ := completes (s := s) (o := s.completeOrphan) (u := s.setPort none)
      (by simp [State.completeOrphan, hp])
    exact ⟨t, ht, hr.mem, fun hh => h hh⟩

end Sys2Proof.Machine
end

section
/-! What a completed write carries to the cache, the write-through queue and the images kept of its slot (R9, R19, R36). -/

namespace Sys2Proof.Machine

open Sys2Proof

section

variable (s : State) (a : RecAddr)

/-- R9, R36: the change of a completed write reaches the entry that names its slot, and no other. -/
theorem carry_get (f : Record → Record) (i : SetId) (w : Way) : ((s.carry a f).cache.at i).get w =
    ((s.cache.at i).get w).map fun e => if e.addr = a then ⟨f e.record, a⟩ else e := by
  have hopt (x : Option CacheEntry) : changeIfNames a (fun e => some { e with record := f e.record }) x =
      x.map fun e => if e.addr = a then ⟨f e.record, a⟩ else e := by
    cases x with
    | none => rfl
    | some e =>
      simp only [changeIfNames, Option.map_some]
      split
      · next he => rw [← he]
      · rfl
  simp only [State.carry, State.modEntriesAt, Table.at_map]
  cases w
  · exact hopt _
  · exact hopt _

theorem changeWrite_eq (writes : List QueuedWrite) (f : Record → Record) : changeWrite writes a f =
    writes.map fun w => if w.addr = a then ⟨a, f w.image⟩ else w := by
  refine List.map_congr_left fun w _ => ?_
  split
  · next h => rw [← h]
  · rfl

end

section

variable (s : State) (hids : List Hid)

@[simp] theorem reportWrite_mgmt : (s.reportWrite hids).mgmt = s.mgmt := by
  obtain ⟨_, _, _, h⟩ := reportWrite_eq s hids
  rw [h]

@[simp] theorem reportWrite_cache : (s.reportWrite hids).cache = s.cache := by
  obtain ⟨_, _, _, h⟩ := reportWrite_eq s hids
  rw [h]

@[simp] theorem reportWrite_exch : (s.reportWrite hids).exch = s.exch := by
  obtain ⟨_, _, _, h⟩ := reportWrite_eq s hids
  rw [h]

@[simp] theorem reportWrite_held : (s.reportWrite hids).sig.held = s.sig.held := by
  obtain ⟨_, _, _, h⟩ := reportWrite_eq s hids
  rw [h]

@[simp] theorem reportWrite_port : (s.reportWrite hids).reg.port = s.reg.port := by
  obtain ⟨_, _, _, h⟩ := reportWrite_eq s hids
  rw [h]

@[simp] theorem reportWrite_queue : (s.reportWrite hids).reg.writes = s.reg.writes := reportWrite_writes s hids

@[simp] theorem reportWrite_sweep : (s.reportWrite hids).reg.sweep = s.reg.sweep := by
  obtain ⟨_, _, _, h⟩ := reportWrite_eq s hids
  rw [h]

end

/-- R14: with no request of M in progress the queue at the end of an event stands, or its oldest write is on the port. -/
theorem Settles.queued {s u t : State} (h : Settles s u t) (hp : u.reg.port = none) (ho : u.mgmt.op = none) :
    t.reg.writes = u.reg.writes ∨ ∃ w rest, u.reg.writes = w :: rest ∧
      t.reg.port = some (.writeThrough w.addr w.image) ∧ t.reg.writes = rest := by
  rcases h.idle hp with hi | ⟨w, hi, hport⟩ | ⟨_, _, _, _, _, hop, _⟩
  · exact .inl hi
  · exact .inr ⟨w, t.reg.writes, hi, hport, rfl⟩
  · rw [ho] at hop; cases hop

/-- R9: the image that a management request keeps of a written slot. -/
theorem refresh_write (job : MgmtJob) (a : RecAddr) (image r : Record) (insert : Bool) (damaged : Option RecAddr) :
    (⟨job, .write a image insert, damaged⟩ : MgmtOp).refresh a r = ⟨job, .write a r insert, damaged⟩ := by
  simp [MgmtOp.refresh]

/-- R19: the image that a sweep keeps of a written slot. -/
theorem refresh_image (mode : SweepMode) (last : BucketId) (image : Table Record 4) (todo : List SweepWrite)
    (a : RecAddr) (r : Record) : (SweepState.running mode a.bucket last (.writing image todo)).refresh a r =
      .running mode a.bucket last (.writing (image.put a.slot r) todo) := by
  simp [SweepState.refresh]

theorem mgmtWritten_mgmt (s : State) (a : RecAddr) (r : Record) :
    (s.mgmtWritten a r).mgmt = (s.writtenByOther a r).mgmt := by
  rw [State.mgmtWritten]; split <;> rfl

theorem mgmtWritten_sweep (s : State) (a : RecAddr) (r : Record) :
    (s.mgmtWritten a r).reg.sweep = s.reg.sweep.refresh a r := by
  rw [State.mgmtWritten]; split <;> simp [carry_reg, writtenByOther_reg]

/-- R9: a request whose write waits keeps the image of a completed write to its slot. -/
theorem op_refreshed {s t : State} {a : RecAddr} {r : Record} (h : t.mgmt.op = s.mgmt.op.map (MgmtOp.refresh · a r)) :
    ∀ job image insert damaged, s.mgmt.op = some ⟨job, .write a image insert, damaged⟩ →
      t.mgmt.op = some ⟨job, .write a r insert, damaged⟩ := by
  intro job image insert damaged ho
  rw [h, ho, Option.map_some, refresh_write]

/-- R19: an event that leaves the image that a running sweep keeps of a bucket refreshed, its next write still to be
made. -/
theorem sweep_refreshed {s u : State} {o : Option State} {a : RecAddr} {r : Record} (ho : o = some u)
    (hh : u.sig.held = none) (hu : u.reg.sweep = s.reg.sweep.refresh a r) :
    ∃ t, (Host.Outcome.next (s.settled o) : Host.Outcome State Fault Refusal) = .next t ∧ Settles s u t ∧
      ∀ mode last image x todo, s.reg.sweep = .running mode a.bucket last (.writing image (x :: todo)) →
        ((image.put a.slot r).at x.slot).hid = x.hid →
        t.reg.sweep = .running mode a.bucket last (.writing (image.put a.slot r) (x :: todo)) := by
  subst ho
  refine ⟨u.settle s, rfl, settles_settle s (.inl hh), fun mode last image x todo hs hx => ?_⟩
  rw [hs, refresh_image] at hu
  rw [(settle_stands (.inl hh) (by rw [hu]; exact hx)).1, hu]

theorem sweepWritten_reg (s : State) (mode : SweepMode) (b last : BucketId) (image : Table Record 4)
    (todo : List SweepWrite) : (s.sweepWritten mode b last image todo).reg.port = s.reg.port ∧
      (s.sweepWritten mode b last image todo).reg.writes = s.reg.writes := by
  simp only [State.sweepWritten, State.sweepOn, State.sweepEnd]
  repeat' split
  all_goals exact ⟨rfl, rfl⟩

end Sys2Proof.Machine
end

section
namespace Sys2Proof.Machine
open Sys2Proof

/-- Settles O51: the change carried to entry and queued write, the sweep's next step, and the images refreshed. -/
theorem writesReachTheCacheEntry : Obligations.WritesReachTheCacheEntry := by
  unfold Obligations.WritesReachTheCacheEntry
  intro queued
  refine ⟨fun s a r h standing mclass stage damaged q rest hp ho hq hh => ?_,
    fun s a r mode b last image todo hp hs hh => ?_, fun s a r hh => ?_⟩
  · intro managed
    let v := (s.mgmtWritten a r).reportWrite ((heldHid s.reg.mem a).toList ++ [r.hid])
    have hmanaged : (fun x : Record => x.managed standing mclass) = managed := by cases standing <;> rfl
    have hw : s.mgmtWritten a r = (s.writtenByOther a r).carry a managed := by
      rw [State.mgmtWritten, ho, ← hmanaged]
      rfl
    have hv : v.mgmt.queue = q :: rest := by simp [v, mgmtWritten_mgmt, writtenByOther_mgmt, hq]
    obtain ⟨t, ht, h⟩ := settles_of (s := s) (o := s.completeMgmtWrite) (u := v.answered q rest .done [])
      (by rw [completeMgmtWrite_eq hp, finish_eq_answered (u := v) hv]) (.inl (by simp [v, hw, hh]))
    obtain ⟨hqueue, hop, hx⟩ := h.answers (by simp [v, hw])
    refine ⟨t, ht, hqueue, hop, fun i w => ?_, ?_, hx⟩
    · rw [h.cache, answered_cache, reportWrite_cache, hw, carry_get, State.writtenByOther_cache]
    · have hi := h.queued (by simp [v, hw, carry_reg, writtenByOther_reg]) (by simp)
      have hu : (v.answered q rest .done []).reg.writes = changeWrite s.reg.writes a managed := by
        simp [v, hw, carry_reg, writtenByOther_reg]
      rw [hu, changeWrite_eq] at hi
      exact hi
  · intro cleared
    have hcleared : (fun x : Record => x.clearMark mode) = cleared := by cases mode <;> rfl
    let v := ((s.written a r).carry a (Record.clearMark · mode)).reportWrite ((heldHid s.reg.mem a).toList ++ [r.hid])
    let u := v.sweepWritten mode b last image todo.tail
    have p : SamePort v u := samePort_sweepWritten v mode b last image todo.tail
    have hk : u.KeepsHeld := .inl (by rw [p.sig]; simpa [v] using hh)
    have hlist : v.mgmt.sweepList = s.mgmt.sweepList := by simp [v, written_mgmt]
    have ht : exec .sweepWriteComplete s = .next (u.settle s) := by
      show Host.Outcome.next (s.settled s.completeSweepWrite) = _
      rw [completeSweepWrite_eq hp hs]
      rfl
    have h := settles_settle s hk
    refine ⟨u.settle s, ht, fun i w => ?_, fun ho => ?_, by rw [h.sweepList, p.sweepList, hlist], fun hl => ?_,
      fun x y rest htodo hy => ?_⟩
    · rw [h.cache, p.cache, reportWrite_cache, carry_get, State.written_cache]
      rw [← hcleared]
    · have hreg : u.reg.port = none ∧ u.reg.writes = changeWrite s.reg.writes a cleared := by
        obtain ⟨hport, hwrites⟩ := sweepWritten_reg v mode b last image todo.tail
        exact ⟨hport.trans (by simp [v, carry_reg, written_reg]),
          hwrites.trans (by simp [v, carry_reg, written_reg, hcleared])⟩
      have hi := h.queued hreg.1 (by rw [p.op]; simp [v, written_mgmt, ho])
      rw [hreg.2, changeWrite_eq] at hi
      exact hi
    · have hu : u = v.sweepOn mode b last := by
        have : todo.tail = [] := by rw [← List.length_eq_zero_iff, List.length_tail]; omega
        simp only [u, this]
        rfl
      obtain ⟨hsw, hun⟩ := settle_stands (s := s) hk (by rw [hu]; exact sweepOn_stands v mode b last)
      rw [hsw, hun, hu, ← hlist]
      exact sweepOn_sweep v mode b last
    · subst htodo
      exact (settle_stands (s := s) hk hy).1
  · intro searched swept
    refine ⟨fun hp => ?_, fun hp => ?_, fun hp => ?_, fun hp hr => ?_⟩
    · obtain ⟨t, ht, h, hsw⟩ := sweep_refreshed (s := s) (o := s.completeWriteThrough) (u := s.writtenByOther a r)
        (by rw [State.completeWriteThrough, hp]) (by simpa using hh) (by rw [writtenByOther_reg])
      exact ⟨t, ht, op_refreshed (by rw [h.op, writtenByOther_mgmt]), hsw⟩
    · by_cases hrun : s.SweepKeeps
      · obtain ⟨t, ht, h⟩ := settles_of (s := s) (completeSweepWrite_ended hp hrun) (.inl (by simpa using hh))
        exact ⟨t, ht, op_refreshed (by rw [h.op, written_mgmt])⟩
      · simp only [State.SweepKeeps, not_forall, not_not] at hrun
        obtain ⟨mode, b, last, image, todo, hs⟩ := hrun
        have p := samePort_sweepWritten (((s.written a r).carry a (Record.clearMark · mode)).reportWrite
          ((heldHid s.reg.mem a).toList ++ [r.hid])) mode b last image todo.tail
        obtain ⟨t, ht, h⟩ := settles_of (s := s) (completeSweepWrite_eq hp hs) (.inl (by rw [p.sig]; simpa using hh))
        exact ⟨t, ht, op_refreshed (by rw [h.op, p.op]; simp [written_mgmt])⟩
    · obtain ⟨t, ht, _, hsw⟩ := sweep_refreshed (s := s) (a := a) (r := r) (completeMgmtWrite_eq hp)
        (by simpa [(wrote_mgmtWritten s a r).sig] using hh) (by simp [mgmtWritten_sweep])
      exact ⟨t, ht, hsw⟩
    · subst hr
      obtain ⟨t, ht, _, hsw⟩ := sweep_refreshed (s := s) (a := a) (r := .empty) (completeEmptyWrite_eq hp)
        (by simpa [(wrote_emptyWritten s a).sig] using hh) (by simp [State.emptyWritten, writtenByOther_reg])
      exact ⟨t, ht, hsw⟩

end Sys2Proof.Machine
end

section
/-! The read of a search (R4, R6, R28, R30): what becomes of its context, its group and the group that asks next. -/

namespace Sys2Proof.Machine

open Sys2Proof

/-! ### Contexts and asking groups -/

theorem freeContext_none {r : Registry} (h : ∀ c, r.contexts.at c ≠ none) : r.freeContext = none := by
  simpa [Registry.freeContext] using h

/-- R6: the one context that is FREE. -/
theorem freeContext_only {r : Registry} {c : ContextId} (hc : r.contexts.at c = none)
    (ho : ∀ d, d ≠ c → r.contexts.at d ≠ none) : r.freeContext = some c := by
  cases hf : r.freeContext with
  | none =>
    have := List.find?_eq_none.1 hf c (mem_ascending c)
    simp [hc] at this
  | some d =>
    have hd := freeContext_some hf
    by_contra hne
    exact ho d (fun e => hne (by rw [e])) hd

/-- R26: a group of another HID becoming READY leaves the group that asks first. -/
theorem firstAsking_setReady {p : SigProc} {h g : Hid} {found : Bool} (hf : p.firstAsking = some h) (hne : h ≠ g) :
    (p.setReady g found).firstAsking = some h := by
  simp only [SigProc.firstAsking, Option.map_eq_some_iff] at hf ⊢
  obtain ⟨m, hm, rfl⟩ := hf
  obtain ⟨hask, before, after, hp, hno⟩ := List.find?_eq_some_iff_append.1 hm
  have asks (y : Hid) : ((p.setReady g found).groups.any fun x => x.hid == y && x.phase.asks) =
      (decide (y ≠ g) && p.groups.any fun x => x.hid == y && x.phase.asks) := by
    have hready : (GroupPhase.ready found).asks = false := rfl
    simp only [SigProc.setReady, List.any_append, List.any_filter, List.any_cons, List.any_nil, hready, Bool.and_false,
      Bool.or_false]
    by_cases hy : y = g
    · simp only [hy, ne_eq, not_true_eq_false, decide_false, Bool.false_and, List.any_eq_false]
      intro x _
      by_cases hx : x.hid = g <;> simp [hx]
    · rw [decide_eq_true hy, Bool.true_and]
      refine congrArg _ (funext fun x => ?_)
      by_cases hx : x.hid = y <;> simp [hx, hy]
  refine ⟨m, List.find?_eq_some_iff_append.2 ⟨?_, before, after, hp, fun x hx => ?_⟩, rfl⟩
  · rw [asks]
    simpa [hne] using hask
  · have := hno x hx
    rw [asks]
    grind

/-- R28: when a search completes and no other group asks, its context is FREE and its group READY. -/
theorem searchDone_quiet {s : State} {c : ContextId} {h : Hid} {found : Bool}
    (ho : ∀ g ∈ s.sig.groups, g.hid ≠ h → g.phase.asks = false) :
    s.searchDone c h found = { s with reg := s.reg.freeUp c, sig := s.sig.setReady h found } := by
  refine assignContexts_idle (.inr (firstAsking_none fun g hg => ?_))
  rcases List.mem_append.1 hg with hg | hg
  · obtain ⟨hg, hn⟩ := List.mem_filter.1 hg
    exact ho g hg (by simpa using hn)
  · rw [List.mem_singleton.1 hg]
    rfl

/-- R26, R28: when a search completes, no other context is FREE and a group asks, it takes the context. -/
theorem searchDone_next {s : State} {c : ContextId} {x h : Hid} {found : Bool} (hh : s.sig.firstAsking = some h)
    (hne : h ≠ x) (hf : s.reg.format = .formatted) (ho : ∀ d, d ≠ c → s.reg.contexts.at d ≠ none) :
    s.searchDone c x found =
      { s with reg := (s.reg.freeUp c).startSearch c h, sig := (s.sig.setReady x found).setPhase h (.searching c) } := by
  have hfree : (s.reg.freeUp c).freeContext = some c :=
    freeContext_only (by simp [Registry.freeUp]) fun d hd => by simpa [Registry.freeUp, hd] using ho d hd
  refine assignContexts_takes hfree (firstAsking_setReady hh hne) hf (.inl (freeContext_none fun d => ?_))
  by_cases hd : d = c
  · simp [Registry.startSearch, hd]
  · simpa [Registry.startSearch, Registry.freeUp, hd] using ho d hd

/-! ### The read completes -/

/-- R6: an event that completes the read of a search. -/
theorem completeSearchRead_eq {s : State} {c : ContextId} {b : BucketId} {x : Search}
    (hp : s.reg.port = some (.searchRead c b)) (hx : s.reg.contexts.at c = some x) :
    s.completeSearchRead = some ((s.setPort none).searchRead c x (scanBucket s.reg.mem x.hid b x.damaged)) := by
  simp [State.completeSearchRead, hp, hx]

section

variable {s : State} {c : ContextId} {x : Search} {scan : Scan}

/-- R4, R6: a primary read without a match. -/
theorem searchRead_primary (hf : scan.found = none) (ha : x.alternate = false) : s.searchRead c x scan =
    { s with reg := { s.reg with
        contexts := s.reg.contexts.put c (some { x with alternate := true, damaged := scan.damaged }) } } := by
  simp [State.searchRead, hf, ha]

/-- R30: the last read of a stale search. -/
theorem searchRead_stale (hs : x.stale = true) (hl : scan.found ≠ none ∨ x.alternate = true) :
    s.searchRead c x scan =
      { s with reg := { s.reg with contexts := s.reg.contexts.put c (some ⟨x.hid, false, none, false⟩) } } := by
  have : (scan.found.isNone && !x.alternate) = false := by
    rcases hl with h | h
    · cases hf : scan.found with
      | none => exact absurd hf h
      | some _ => rfl
    · simp [h]
  simp [State.searchRead, this, hs]

theorem searchRead_found {a : RecAddr} {r : Record} (hs : x.stale = false) (hf : scan.found = some (a, r)) :
    s.searchRead c x scan = (s.installEntry ⟨r, a⟩).searchDone c x.hid true := by
  simp [State.searchRead, hf, hs]

theorem searchRead_notFound (hs : x.stale = false) (hf : scan.found = none) (ha : x.alternate = true) :
    s.searchRead c x scan = (s.reportDamaged x.hid scan.damaged).searchDone c x.hid false := by
  simp [State.searchRead, hf, hs, ha]

end

/-- R28: the entry that a search installs is found. -/
theorem entryOf_installed {s : State} {h : Hid} {e : CacheEntry} (hh : e.record.hid = h) (hn : s.entryOf h = none) :
    (s.installEntry e).entryOf h = some e := by
  subst hh
  rw [entryOf_eq, CacheSet.entry] at hn
  rw [entryOf_eq]
  simp only [State.installEntry, Table.at_put_same]
  refine CacheSet.entry_fill ?_
  split at hn
  · next w hw =>
    obtain ⟨f, hf, _⟩ := CacheSet.hit_holds hw
    rw [hf] at hn
    cases hn
  · next hm => exact hm

end Sys2Proof.Machine
end

section
namespace Sys2Proof.Machine
open Sys2Proof

/-- Settles O48: by what the bucket gave, which read it was, and whether the search is stale. -/
theorem searchReadInstallsTheRecord : Obligations.SearchReadInstallsTheRecord := by
  unfold Obligations.SearchReadInstallsTheRecord
  intro s c b x scan hp hx hs hh others ready same quiet
  have read {u : State} (hu : (s.setPort none).searchRead c x scan = u) (hheld : u.sig.held = none) :
      ∃ t, exec .searchReadComplete s = .next t ∧ Settles s u t :=
    settles_of (o := s.completeSearchRead) (by rw [completeSearchRead_eq hp hx, hs, hu]) (.inl hheld)
  have hcap {u t : State} (h : Settles s u t) (hu : u.attn.captures = s.attn.captures) :
      t.attn.captures = s.attn.captures := by rw [h.attn, ← hu]
  refine ⟨fun hf ha => ?_, fun hst hl => ?_, fun hst ho => ⟨fun a r hf hn => ?_, fun hf ha => ?_⟩,
    fun h hst hf ha hask hne hfm hbusy => ?_⟩
  · obtain ⟨t, ht, h⟩ := read (searchRead_primary hf ha) hh
    exact ⟨t, ht, ⟨⟨h.cells, h.call, h.mem⟩, fun d hd => by simp [h.contexts, State.setPort, hd], h.cache, h.sig,
      hcap h rfl⟩, by simp [h.contexts]⟩
  · obtain ⟨t, ht, h⟩ := read (searchRead_stale hst hl) hh
    exact ⟨t, ht, ⟨⟨h.cells, h.call, h.mem⟩, fun d hd => by simp [h.contexts, State.setPort, hd], h.cache, h.sig,
      hcap h rfl⟩, by simp [h.contexts]⟩
  · have hr : r.hid = x.hid := scanSlots_hid s.reg.mem x.hid b (ascending 4) (by rw [← hf, ← hs]; rfl)
    obtain ⟨t, ht, h⟩ := read ((searchRead_found hst hf).trans (searchDone_quiet ho)) hh
    refine ⟨t, ht, ⟨h.cells, h.call, h.mem⟩,
      fun d hd => by simp [h.contexts, State.installEntry, State.setPort, Registry.freeUp, hd], ?_,
      by simp [h.contexts, Registry.freeUp], h.sig, hcap h rfl⟩
    rw [State.entryOf, h.cache]
    exact entryOf_installed (s := s) hr hn
  · have quietly := searchDone_quiet (s := (s.setPort none).reportDamaged x.hid scan.damaged) (c := c) (h := x.hid)
      (found := false) (by simpa [State.setPort] using ho)
    obtain ⟨t, ht, h⟩ := read ((searchRead_notFound hst hf ha).trans quietly)
      (by simpa [SigProc.setReady, State.setPort] using hh)
    obtain ⟨hnone, hsome⟩ := h.reports (h := x.hid) (d := scan.damaged) rfl
    exact ⟨t, ht, ⟨by simp [h.cells, State.setPort], by simp [h.call, State.setPort],
      by simp [h.mem, Registry.freeUp, State.setPort]⟩,
      fun d hd => by simp [h.contexts, Registry.freeUp, State.setPort, hd], by simp [h.cache, State.setPort],
      by simp [h.contexts, Registry.freeUp], by simp [h.sig, State.setPort, ready, SigProc.setReady], hnone, hsome⟩
  · have next := searchDone_next (s := (s.setPort none).reportDamaged x.hid scan.damaged) (c := c) (x := x.hid)
      (found := false) (by simpa [State.setPort] using hask) hne (by simpa [State.setPort] using hfm)
      (by simpa [State.setPort] using hbusy)
    obtain ⟨t, ht, h'⟩ := read ((searchRead_notFound hst hf ha).trans next)
      (by simpa [SigProc.setReady, SigProc.setPhase, State.setPort] using hh)
    exact ⟨t, ht, ⟨by simp [h'.cells, State.setPort], by simp [h'.call, State.setPort],
      by simp [h'.mem, Registry.startSearch, Registry.freeUp, State.setPort]⟩,
      fun d hd => by simp [h'.contexts, Registry.startSearch, Registry.freeUp, State.setPort, hd],
      by simp [h'.cache, State.setPort], by simp [h'.contexts, Registry.startSearch],
      by simp [h'.sig, State.setPort, ready, SigProc.setReady, SigProc.setPhase]⟩

end Sys2Proof.Machine
end

section
/-! The arbiter (R12, R13): who is chosen, what one grant puts on the port, and the grants past a skipped sweep write. -/

namespace Sys2Proof.Machine

open Sys2Proof

/-! ### The requester chosen -/

/-- What a search of a list finds stands no later than anything else it could have found. -/
theorem idxOf_le_of_find? {α : Type} [DecidableEq α] {p : α → Bool} {q r : α} (hr : p r = true) :
    ∀ {l : List α}, l.find? p = some q → l.idxOf q ≤ l.idxOf r := by
  intro l
  induction l with
  | nil => intro h; cases h
  | cons x l ih =>
    intro h
    rw [List.find?_cons] at h
    cases hx : p x with
    | true =>
      rw [hx] at h
      cases h
      rw [List.idxOf_cons_self]
      exact Nat.zero_le _
    | false =>
      rw [hx] at h
      have hq : p q = true := List.find?_some h
      have hxq : x ≠ q := by rintro rfl; rw [hq] at hx; cases hx
      have hxr : x ≠ r := by rintro rfl; rw [hr] at hx; cases hx
      rw [List.idxOf_cons_ne _ hxq, List.idxOf_cons_ne _ hxr]
      exact Nat.succ_le_succ (ih h)

theorem mem_priorityOrder (r : Requester) : r ∈ priorityOrder := by cases r <;> decide

/-- R12: the requester chosen is the first overdue one that waits, or with none overdue the first that waits. -/
theorem chosen_some {s : State} {q : Requester} (h : s.chosen = some q) :
    (priorityOrder.find? (fun r => s.waits r && decide (8 ≤ s.reg.pass.of r)) = some q) ∨
      ((∀ r, s.waits r = true → ¬ 8 ≤ s.reg.pass.of r) ∧ priorityOrder.find? s.waits = some q) := by
  simp only [State.chosen, Config.overdue] at h
  split at h
  · next r hr => cases h; exact .inl hr
  · next hn =>
    refine .inr ⟨fun r hw ho => ?_, h⟩
    have := List.find?_eq_none.1 hn r (mem_priorityOrder r)
    simp [hw, ho] at this

theorem chosen_none {s : State} : s.chosen = none ↔ ∀ r, s.waits r = false := by
  have hwait : priorityOrder.find? s.waits = none ↔ ∀ r, s.waits r = false := by
    rw [List.find?_eq_none]
    exact ⟨fun h r => by simpa using h r (mem_priorityOrder r), fun h r _ => by simp [h r]⟩
  rw [← hwait, State.chosen]
  split
  · next r hr =>
    have hw := List.find?_some hr
    simp only [Bool.and_eq_true] at hw
    refine ⟨nofun, fun h => ?_⟩
    rw [hwait.1 h r] at hw
    cases hw.1
  · rfl

/-- R12: the requester chosen waits. -/
theorem chosen_waits {s : State} {q : Requester} (h : s.chosen = some q) : s.waits q = true := by
  rcases chosen_some h with h | ⟨_, h⟩
  · simpa using (Bool.and_eq_true _ _ ▸ List.find?_some h :).1
  · exact List.find?_some h

/-- R13: the pass counts after a grant. -/
theorem pass_countGrant (s : State) (q r : Requester) : (s.countGrant q).reg.pass.of r =
    if r = q then 0 else if s.waits r then min (s.reg.pass.of r + 1) 8 else 0 := by
  cases r <;> rfl

/-! ### Grants -/

/-- The state in which the port of an event is granted: its contexts' order brought up to date. -/
def State.refreshed (s : State) (before : List ContextId) : State := { s with reg := s.reg.refresh before }

theorem settlePort_eq (s before : State) :
    s.settlePort before = (State.grants before.reg.readyOrder 8 (s.refreshed before.reg.readyOrder)).dropPasses := rfl

theorem grants_step (before : List ContextId) (n : Nat) {s : State} {q : Requester} (hp : s.reg.port = none)
    (hq : s.chosen = some q) : State.grants before (n + 1) s =
      State.grants before n (((s.countGrant q).grant q).refreshed before) := by
  simp [State.grants, hp, hq, State.refreshed]

/-- R12: a grant that puts an operation on the idle port ends the grants. -/
theorem settlePort_granted {s before : State} {q : Requester} (hp : s.reg.port = none)
    (hq : (s.refreshed before.reg.readyOrder).chosen = some q) {t : State}
    (ht : ((s.refreshed before.reg.readyOrder).countGrant q).grant q = t) (hb : t.reg.port.isSome = true) :
    (s.settlePort before).reg.port = t.reg.port ∧ (s.settlePort before).reg.writes = t.reg.writes ∧
      (s.settlePort before).reg.sweep = t.reg.sweep := by
  rw [settlePort_eq, grants_step (s := s.refreshed before.reg.readyOrder) _ 7 hp hq, ht]
  rw [grants_busy _ 7 (t.refreshed before.reg.readyOrder) hb]
  exact ⟨rfl, rfl, rfl⟩

theorem settlePort_none {s before : State} (hp : s.reg.port = none)
    (hq : (s.refreshed before.reg.readyOrder).chosen = none) : (s.settlePort before).reg.port = none := by
  have : State.grants before.reg.readyOrder 8 (s.refreshed before.reg.readyOrder) = s.refreshed before.reg.readyOrder := by
    simp [State.grants, hq]
  rw [settlePort_eq, this]
  exact hp

/-! ### Grants past skipped sweep writes -/

/-- R19: how many writes of its bucket the sweep has still to make. -/
def SweepState.togo : SweepState → Nat
  | .running _ _ _ (.writing _ todo) => todo.length
  | .running _ _ _ .reading | .idle | .ended _ => 0

/-- R6: each context in the order is READY. -/
def Registry.Ordered (r : Registry) : Prop := ∀ c ∈ r.readyOrder, r.contextReady c = true

theorem ordered_refresh (r : Registry) (before : List ContextId) : (r.refresh before).Ordered := by
  intro c hc
  have hr : (r.refresh before).contextReady c = r.contextReady c := rfl
  rw [hr]
  simp only [Registry.refresh, List.mem_append, List.mem_filter, Bool.and_eq_true] at hc
  rcases hc with ⟨_, h⟩ | ⟨_, h, _⟩ <;> exact h

theorem sweepOn_togo (s : State) (mode : SweepMode) (b last : BucketId) :
    (s.sweepOn mode b last).reg.sweep.togo = 0 := by
  obtain ⟨h1, h2, h3⟩ := sweepOn_sweep s mode b last
  by_cases hb : b = last
  · rw [(h1 hb).1]; rfl
  · by_cases hl : s.mgmt.sweepList.length = 32
    · rw [(h2 hb hl).1]; rfl
    · rw [h3 hb hl]; rfl

theorem sweepWritten_togo (s : State) (mode : SweepMode) (b last : BucketId) (image : Table Record 4)
    (todo : List SweepWrite) : (s.sweepWritten mode b last image todo).reg.sweep.togo = todo.length := by
  cases todo with
  | nil => exact sweepOn_togo s mode b last
  | cons x rest => rfl

/-- R12, R19: a grant puts an operation on the port, or passes a sweep write that is skipped. -/
theorem grant_progress {s : State} {q : Requester} (ho : s.reg.Ordered) (hq : s.waits q = true) :
    ((s.countGrant q).grant q).reg.port.isSome = true ∨
      ((s.countGrant q).grant q).reg.sweep.togo < s.reg.sweep.togo := by
  cases q with
  | w =>
    left
    cases hw : s.reg.writes with
    | nil => simp [State.waits, hw] at hq
    | cons w rest => simp [State.grant, State.grantW, State.countGrant, hw]
  | s =>
    left
    cases hr : s.reg.readyOrder with
    | nil => simp [State.waits, hr] at hq
    | cons c rest =>
      have hc := ho c (by simp [hr])
      simp only [Registry.contextReady] at hc
      split at hc
      · next x hx => simp [State.grant, State.grantS, State.countGrant, hr, hx, State.setPort]
      · cases hc
  | m =>
    left
    cases hop : s.mgmt.op with
    | none => simp [State.waits, State.waitsM, hop] at hq
    | some op => cases hst : op.stage <;> simp [State.grant, State.grantM, State.countGrant, hop, hst, State.setPort]
  | b =>
    by_cases hf : s.reg.format = .formatting
    · exact .inl (by simp [State.grant, State.grantB, State.countGrant, hf, State.setPort])
    · simp only [State.grant, State.grantB, State.countGrant, hf, if_false]
      split
      · exact .inl rfl
      · next mode b last image x todo hs =>
        split
        · exact .inl rfl
        · exact .inr (by rw [sweepWritten_togo, hs]; exact Nat.lt_succ_self _)
      · next hread hwrite =>
        simp only [State.waits, State.waitsB, Bool.and_eq_true, Bool.or_eq_true, beq_iff_eq, hf, false_or] at hq
        obtain ⟨_, hq⟩ := hq
        split at hq
        · next hs => exact absurd hs (hread _ _ _)
        · next todo hs =>
          cases todo with
          | nil => simp at hq
          | cons x rest => exact absurd hs (hwrite _ _ _ _ _ _)
        · cases hq

/-- R12: as many grants are made as skipped writes allow; more fuel makes no more. -/
theorem grants_enough (before : List ContextId) : ∀ (n : Nat) {s : State}, s.reg.Ordered → s.reg.sweep.togo < n →
    State.grants before (n + 1) s = State.grants before n s := by
  intro n
  induction n with
  | zero => intro s _ h; cases h
  | succ n ih =>
    intro s ho ht
    cases hp : s.reg.port with
    | some op => rw [grants_busy _ _ _ (by simp [hp]), grants_busy _ _ _ (by simp [hp])]
    | none =>
      cases hq : s.chosen with
      | none => simp [State.grants, hq]
      | some q =>
        rw [grants_step before (n + 1) hp hq, grants_step before n hp hq]
        rcases grant_progress ho (chosen_waits hq) with hb | hlt
        · have stop (k : Nat) := grants_busy before k (((s.countGrant q).grant q).refreshed before) hb
          rw [stop, stop]
        · exact ih (ordered_refresh _ before) (Nat.lt_of_lt_of_le hlt (Nat.lt_succ_iff.1 ht))

/-- R19: a skipped sweep write counts as a grant to B, after which the port is granted as at the end of an event. -/
theorem settlePort_skipped {s before : State} (hp : s.reg.port = none)
    (hq : (s.refreshed before.reg.readyOrder).chosen = some .b) {t : State}
    (ht : ((s.refreshed before.reg.readyOrder).countGrant .b).grant .b = t) (hgo : t.reg.sweep.togo < 4) :
    s.settlePort before = t.settlePort before := by
  rw [settlePort_eq, settlePort_eq, grants_step (s := s.refreshed before.reg.readyOrder) _ 7 hp hq, ht]
  rw [grants_enough before.reg.readyOrder 7 (s := t.refreshed before.reg.readyOrder) (ordered_refresh _ _)
    (Nat.lt_trans hgo (by decide))]

/-! ### What each grant puts on the port -/

section

variable {s : State}

theorem grantW_oldest {x : QueuedWrite} {rest : List QueuedWrite} (hw : s.reg.writes = x :: rest) : s.grantW =
    { s with reg := { s.reg with writes := rest, port := some (.writeThrough x.addr x.image) } } := by
  simp only [State.grantW, hw]

theorem grantS_first {c : ContextId} {rest : List ContextId} {x : Search} (hr : s.reg.readyOrder = c :: rest)
    (hx : s.reg.contexts.at c = some x) : s.grantS = s.setPort (some (.searchRead c x.bucket)) := by
  simp only [State.grantS, hr, hx]

theorem grantM_primary {op : MgmtOp} (ho : s.mgmt.op = some op) (hst : op.stage = .primary) :
    s.grantM = s.setPort (some (.mgmtRead (primaryBucket op.job.hid))) := by
  simp only [State.grantM, ho, hst]

theorem grantM_alternate {op : MgmtOp} {k : Option RegSlot} (ho : s.mgmt.op = some op) (hst : op.stage = .alternate k) :
    s.grantM = s.setPort (some (.mgmtRead (alternateBucket op.job.hid))) := by
  simp only [State.grantM, ho, hst]

theorem grantM_write {op : MgmtOp} {a : RecAddr} {image : Record} {insert : Bool} (ho : s.mgmt.op = some op)
    (hst : op.stage = .write a image insert) : s.grantM = { s with reg := { s.reg with
      port := some (s.composeWrite op.job a image insert), writes := dropWrite s.reg.writes a } } := by
  simp only [State.grantM, ho, hst]

theorem grantB_format (hf : s.reg.format = .formatting) :
    s.grantB = s.setPort (some (.formatWrite (formatAddr s.reg.formatPos))) := by
  simp only [State.grantB, hf, if_true]

theorem grantB_read {mode : SweepMode} {b last : BucketId} (hf : s.reg.format ≠ .formatting)
    (hs : s.reg.sweep = .running mode b last .reading) : s.grantB = s.setPort (some (.sweepRead b)) := by
  simp only [State.grantB, hf, if_false, hs]

theorem grantB_write {mode : SweepMode} {b last : BucketId} {image : Table Record 4} {x : SweepWrite}
    {todo : List SweepWrite} (hf : s.reg.format ≠ .formatting)
    (hs : s.reg.sweep = .running mode b last (.writing image (x :: todo))) (hh : (image.at x.slot).hid = x.hid) :
    s.grantB = s.setPort (some (.sweepWrite ⟨b, x.slot⟩ ((image.at x.slot).clearMark mode))) := by
  simp only [State.grantB, hf, if_false, hs, hh, if_true]

theorem grantB_skip {mode : SweepMode} {b last : BucketId} {image : Table Record 4} {x : SweepWrite}
    {todo : List SweepWrite} (hf : s.reg.format ≠ .formatting)
    (hs : s.reg.sweep = .running mode b last (.writing image (x :: todo))) (hh : (image.at x.slot).hid ≠ x.hid) :
    s.grantB = s.sweepWritten mode b last image todo := by
  simp only [State.grantB, hf, if_false, hs, hh]

end

end Sys2Proof.Machine
end

section
namespace Sys2Proof.Machine
open Sys2Proof

/-- Settles O49: the choice by the two searches of the priority order, and the grants by requester. -/
theorem portIsGrantedByPriority : Obligations.PortIsGrantedByPriority := by
  unfold Obligations.PortIsGrantedByPriority
  refine ⟨fun s q hq => ⟨chosen_waits hq, fun r hw ho => ?_, fun r hw hr => ?_, pass_countGrant s q⟩,
    fun s => chosen_none, fun s before => ?_⟩
  · rcases chosen_some hq with h | ⟨h, _⟩
    · simpa using (Bool.and_eq_true _ _ ▸ List.find?_some h :).2
    · exact absurd ho (h r hw)
  · rcases chosen_some hq with h | ⟨hn, h⟩
    · have ho := (Bool.and_eq_true _ _ ▸ List.find?_some h :).2
      refine idxOf_le_of_find? ?_ h
      simpa [hw] using hr.2 (by simpa using ho)
    · exact idxOf_le_of_find? hw h
  intro w
  refine ⟨fun hp => (settlePort_busy s before (Option.isSome_iff_ne_none.2 hp)).1, fun hp => ⟨settlePort_none hp,
    fun hq x rest hw => ?_, fun hq c rest x hr hx => ?_, fun hq op ho => ⟨fun hst => ?_, fun k hst => ?_,
      fun a image insert hst => ?_⟩, fun hq hf => ?_, fun hq hf => ⟨fun mode b last hs => ?_,
      fun mode b last image x todo hs => ?_⟩⟩⟩
  · obtain ⟨hport, hwrites, _⟩ := settlePort_granted hp hq (grantW_oldest (s := w.countGrant .w) hw) rfl
    exact ⟨hport, hwrites⟩
  · exact (settlePort_granted hp hq (grantS_first (s := w.countGrant .s) hr hx) rfl).1
  · exact (settlePort_granted hp hq (grantM_primary (s := w.countGrant .m) ho hst) rfl).1
  · exact (settlePort_granted hp hq (grantM_alternate (s := w.countGrant .m) ho hst) rfl).1
  · obtain ⟨hport, hwrites, _⟩ := settlePort_granted hp hq (grantM_write (s := w.countGrant .m) ho hst) rfl
    have hcompose : (w.countGrant .m).composeWrite op.job a image insert = s.composeWrite op.job a image insert :=
      composeWrite_congr rfl rfl ..
    rw [hcompose] at hport
    refine ⟨hwrites, fun h hj => ?_, fun h st cl hj hi => ?_, fun h st cl base hj hi hb => ?_⟩
    · rw [hport]
      rcases hj with hj | hj <;> rw [hj] <;> rfl
    · rw [hport, hj, hi]
      rfl
    · have hbase : s.baseImage a image = base := by
        rw [hb, State.baseImage]
        cases queuedAt s.reg.writes a <;> cases s.entryAt a <;> rfl
      rw [hport, hj, hi]
      simp only [State.composeWrite, hbase]
      cases st <;> rfl
  · exact (settlePort_granted hp hq (grantB_format (s := w.countGrant .b) hf) rfl).1
  · exact (settlePort_granted hp hq (grantB_read (s := w.countGrant .b) hf hs) rfl).1
  · intro now
    refine ⟨fun hh => ?_, fun hh hl => ?_⟩
    · obtain ⟨hport, _, hsweep⟩ := settlePort_granted hp hq (grantB_write (s := w.countGrant .b) hf hs hh) rfl
      refine ⟨hsweep, hport.trans ?_⟩
      cases mode <;> rfl
    · intro u ended skipped
      have hskip : (w.countGrant .b).grant .b = skipped := by
        refine (grantB_skip (s := w.countGrant .b) hf hs hh).trans ?_
        cases todo with
        | nil => rfl
        | cons y rest => rfl
      refine settlePort_skipped hp hq hskip ?_
      rw [← hskip, show (w.countGrant .b).grant .b = _ from grantB_skip (s := w.countGrant .b) hf hs hh,
        sweepWritten_togo]
      exact hl

end Sys2Proof.Machine
end

section
/-! A message acted on with the outcome of its lookup (R15, R25, R32): answered, changed through its entry, or held; and
where a write that was queued stands at the end of the event (R9, R14). -/

namespace Sys2Proof.Machine

open Sys2Proof

/-! ### The write queued by a change -/

theorem queuedAt_joinWrite (writes : List QueuedWrite) (a : RecAddr) (r : Record) :
    queuedAt (joinWrite writes a r) a = some ⟨a, r⟩ := by
  simp only [joinWrite]
  split
  · next h =>
    obtain ⟨w, hw⟩ := Option.isSome_iff_exists.1 h
    have ha : w.addr = a := by simpa using List.find?_some hw
    have hkeep : ((fun w : QueuedWrite => w.addr == a) ∘ fun w => if w.addr = a then ⟨a, r⟩ else w) =
        fun w => w.addr == a := by
      funext w
      by_cases hw : w.addr = a <;> simp [hw]
    rw [queuedAt] at hw ⊢
    rw [List.find?_map, hkeep, hw, Option.map_some, if_pos ha]
  · next h =>
    have : queuedAt writes a = none := by simpa using h
    simp only [queuedAt, List.find?_append] at this ⊢
    simp [this]

/-- R14, R9: where a queued write stands at the end of the event: in the queue, on the port, or gone into M's write. -/
theorem Settles.writeQueued {s u t : State} {a : RecAddr} {r : Record} (h : Settles s u t)
    (hq : queuedAt u.reg.writes a = some ⟨a, r⟩) : t.WriteQueued a r := by
  have hmem : ⟨a, r⟩ ∈ u.reg.writes := List.mem_of_find?_eq_some hq
  cases hp : u.reg.port with
  | some op => exact .inl ((h.busy (by simp [hp])).2.1 ▸ hmem)
  | none =>
    rcases h.idle hp with hw | ⟨w, hw, hport⟩ | ⟨job, b, image, insert, damaged, hop, hport, hw⟩
    · exact .inl (hw ▸ hmem)
    · rw [hw] at hmem
      rcases List.mem_cons.1 hmem with rfl | hm
      · exact .inr (.inl hport)
      · exact .inl hm
    · by_cases hb : a = b
      · subst hb
        refine .inr (.inr ⟨job, image, insert, damaged, h.op.trans hop, hport.trans ?_⟩)
        cases job <;> simp [State.composeWrite, State.baseImage, hq]
      · exact .inl (by rw [hw]; exact List.mem_filter.2 ⟨hmem, by simpa using hb⟩)

@[simp] theorem changeEntry_mgmtOp (s : State) (h : Hid) (a : RecAddr) (r : Record) :
    (s.changeEntry h a r).mgmt.op = s.mgmt.op := by simp [State.changeEntry, State.clearWatchAt]

theorem changeEntry_queuedAt (s : State) (h : Hid) (a : RecAddr) (r : Record) :
    queuedAt (s.changeEntry h a r).reg.writes a = some ⟨a, r⟩ := by
  rw [show (s.changeEntry h a r).reg.writes = joinWrite s.reg.writes a r by simp [State.changeEntry]]
  exact queuedAt_joinWrite ..

/-! ### A message that hits -/

section

variable {s : State} {act : Act} {l : LinkId} {m : Msg} {e : CacheEntry}

/-- R32: an action that leaves the record of the entry as it is. -/
theorem actWith_same (h : (act s l m (some e.record)).record = some e.record) :
    s.actWith act l m e = (act s l m (some e.record)).state := by
  simp [State.actWith, h]

/-- R32, R15: an action that changes the record, where the write fits. -/
theorem actWith_changes {r : Record} (h : (act s l m (some e.record)).record = some r) (hr : r ≠ e.record)
    (hf : writeFits s.reg.writes e.addr = true) :
    s.actWith act l m e = (act s l m (some e.record)).state.changeEntry e.record.hid e.addr r := by
  simp [State.actWith, h, hr, hf]

/-- R15: an action that changes the record, where the write does not fit. -/
theorem actWith_holds {r : Record} (h : (act s l m (some e.record)).record = some r) (hr : r ≠ e.record)
    (hf : writeFits s.reg.writes e.addr = false) :
    s.actWith act l m e = { s with sig := { s.sig with held := some ⟨l, m⟩ } } := by
  simp [State.actWith, h, hr, hf]

end

/-- R15: a message held at a busy port for want of room waits. -/
theorem keepsHeld_held {u : State} {m : Held} {h : Hid} {e : CacheEntry} (hm : m.msg.hid = some h)
    (he : u.entryOf h = some e) (hf : writeFits u.reg.writes e.addr = false) (hp : u.reg.port.isSome = true) :
    ({ u with sig := { u.sig with held := some m } } : State).KeepsHeld := by
  refine .inr ⟨hp, fun x hx => ?_⟩
  cases hx
  rw [releasable_congr (s := u) (t := { u with sig := { u.sig with held := some m } }) rfl rfl]
  simpa [State.releasable, hm, he, writeFits] using hf

section

variable {s : State} {l : LinkId} {f : Frame} {m : Msg} {h : Hid} {mine : Msg → Bool}

@[simp] theorem takenFor_held (s : State) (l : LinkId) (h : Hid) (e : Option CacheEntry) :
    (s.takenFor l h e).sig.held = s.sig.held := by
  cases e <;> simp [State.takenFor, State.takeFrame]

@[simp] theorem takenFor_reg (s : State) (l : LinkId) (h : Hid) (e : Option CacheEntry) :
    (s.takenFor l h e).reg = s.reg := by
  cases e <;> simp [State.takenFor]

@[simp] theorem takenFor_entryOf (s : State) (l : LinkId) (h g : Hid) (e : Option CacheEntry) :
    (s.takenFor l h e).entryOf g = s.entryOf g := by
  cases e <;> simp [State.takenFor, entryOf_touch]

theorem actOf_held (s : State) (m x : Msg) (l : LinkId) (r : Option Record) :
    (actOf m s l x r).state.sig.held = s.sig.held := by rw [(base_actOf s m l x r).sig]

/-- R25: the event of a message taken from a FIFO that is NOT FOUND at once. -/
theorem settles_notFound (ht : TakesNext s l f m) (hh : m.hid = some h) (hf : s.Finds h none) (hm : mine m = true) :
    ∃ t, (Host.Outcome.next (s.settled (s.turn mine (actOf m))) : Host.Outcome State Fault Refusal) = .next t ∧
      Settles s (actOf m (s.takenFor l h none) l m none).state t :=
  settles_of (turn_notFound ht hh hf mine (actOf m) hm) (.inl (by rw [actOf_held, takenFor_held, ht.held]))

/-! An event in which a message is acted on with its entry, in the state `u` in which the message has left its place. -/

section

variable {u v : State} {e : CacheEntry} {o : Option State} (ho : o = some (u.actWith (actOf m) l m e))

include ho

/-- R32: the event leaves the entry as it is. -/
theorem acts_same (hu : u.sig.held = none) (ha : actOf m u l m (some e.record) = ⟨v, some e.record⟩) :
    ∃ t, (Host.Outcome.next (s.settled o) : Host.Outcome State Fault Refusal) = .next t ∧ Settles s v t := by
  refine settles_of (ho.trans (congrArg some ?_)) (.inl ?_)
  · rw [actWith_same (by rw [ha]), ha]
  · have := actOf_held u m m l (some e.record)
    rwa [ha, hu] at this

/-- R32, R14: the event changes the entry and queues one write-through. -/
theorem acts_changes {r : Record} (hu : u.sig.held = none) (he : u.entryOf h = some e)
    (ha : actOf m u l m (some e.record) = ⟨v, some r⟩) (hne : r ≠ e.record)
    (hw : writeFits u.reg.writes e.addr = true) :
    ∃ t, (Host.Outcome.next (s.settled o) : Host.Outcome State Fault Refusal) = .next t ∧
      t.entryOf h = some ⟨r, e.addr⟩ ∧ t.WriteQueued e.addr r ∧ Settles s (v.changeEntry h e.addr r) t := by
  have hid := entryOf_hid he
  have hb := base_actOf u m l m (some e.record)
  have hr : r.hid = h := (actOf_record (congrArg Acted.record ha)).trans hid
  rw [ha] at hb
  have hact : u.actWith (actOf m) l m e = v.changeEntry h e.addr r := by
    rw [actWith_changes (congrArg Acted.record ha) hne hw, ha, hid]
  obtain ⟨t, hx, hs⟩ := settles_of (s := s) (ho.trans (congrArg some hact))
    (.inl (by rw [State.changeEntry_sig, hb.sig, hu]))
  refine ⟨t, hx, ?_, hs.writeQueued (changeEntry_queuedAt ..), hs⟩
  rw [State.entryOf, hs.cache]
  exact entryOf_changeEntry (by rw [State.entryOf, hb.cache]; exact he) hr

/-- R15: the write does not fit, and the message is held with nothing done. -/
theorem acts_holds {r : Record} (hh : m.hid = some h) (he : u.entryOf h = some e)
    (ha : actOf m u l m (some e.record) = ⟨v, some r⟩) (hne : r ≠ e.record)
    (hw : writeFits u.reg.writes e.addr = false) (hp : u.reg.port.isSome = true) :
    ∃ t, (Host.Outcome.next (s.settled o) : Host.Outcome State Fault Refusal) = .next t ∧
      Settles s { u with sig := { u.sig with held := some ⟨l, m⟩ } } t :=
  settles_of (ho.trans (congrArg some (actWith_holds (congrArg Acted.record ha) hne hw))) (keepsHeld_held hh he hw hp)

end

variable {e : CacheEntry} {v : State} (ht : TakesNext s l f m) (hh : m.hid = some h) (hf : s.Finds h (some e))
  (hm : mine m = true)

include ht hh hf hm

/-- R25, R32: the event of a message taken from a FIFO that leaves the entry it hits as it is. -/
theorem settles_same (ha : actOf m (s.takenFor l h (some e)) l m (some e.record) = ⟨v, some e.record⟩) :
    ∃ t, (Host.Outcome.next (s.settled (s.turn mine (actOf m))) : Host.Outcome State Fault Refusal) = .next t ∧
      Settles s v t :=
  acts_same (turn_hit ht hh hf mine (actOf m) hm) (by rw [takenFor_held, ht.held]) ha

/-- R25, R32, R14: the event of a message taken from a FIFO that changes the entry it hits. -/
theorem settles_changes {r : Record} (ha : actOf m (s.takenFor l h (some e)) l m (some e.record) = ⟨v, some r⟩)
    (hne : r ≠ e.record) (hw : writeFits s.reg.writes e.addr = true) :
    ∃ t, (Host.Outcome.next (s.settled (s.turn mine (actOf m))) : Host.Outcome State Fault Refusal) = .next t ∧
      t.entryOf h = some ⟨r, e.addr⟩ ∧ t.WriteQueued e.addr r ∧ Settles s (v.changeEntry h e.addr r) t :=
  acts_changes (turn_hit ht hh hf mine (actOf m) hm) (by rw [takenFor_held, ht.held])
    ((takenFor_entryOf ..).trans hf.2) ha hne (by rw [takenFor_reg]; exact hw)

/-- R15: the event of a message taken from a FIFO whose write does not fit. -/
theorem settles_holds {r : Record} (ha : actOf m (s.takenFor l h (some e)) l m (some e.record) = ⟨v, some r⟩)
    (hne : r ≠ e.record) (hw : writeFits s.reg.writes e.addr = false) (hp : s.reg.port.isSome = true) :
    ∃ t, (Host.Outcome.next (s.settled (s.turn mine (actOf m))) : Host.Outcome State Fault Refusal) = .next t ∧
      Settles s { s.takenFor l h (some e) with
        sig := { (s.takenFor l h (some e)).sig with held := some ⟨l, m⟩ } } t :=
  acts_holds (turn_hit ht hh hf mine (actOf m) hm) hh ((takenFor_entryOf ..).trans hf.2) ha hne
    (by rw [takenFor_reg]; exact hw) (by rw [takenFor_reg]; exact hp)

end

/-! ### The actions of ENROL, CAMP and RETIRE (R46 to R49) -/

/-- R46: a location update of a record whose standing is PERMITTED. -/
theorem locate_permitted {r : Record} (h : r.standing = .permitted) (c : CellId) : r.locate c =
    { r with attach := .attached, location := some c, seen := true, moved := r.moved || r.location != some c } := by
  simp only [Record.locate, h]

/-- R46: no location update is made on a record whose standing is BARRED. -/
theorem locate_barred {r : Record} (h : r.standing = .barred) (c : CellId) : r.locate c = r := by
  simp only [Record.locate, h]

section

variable (s : State) (c : CellId) (h : Hid) (level : Nat) {r : Record}

theorem actEnrol_barred (hb : r.standing = .barred) : actOf (.enrol h level) s (.cell c) (.enrol h level) (some r) =
    ⟨s.placeSig c (enrolNoFrame h .barred), some r⟩ := by
  simp [actOf, actEnrol, State.enrolAt, hb]

theorem actEnrol_permitted (hp : r.standing = .permitted) :
    actOf (.enrol h level) s (.cell c) (.enrol h level) (some r) =
      ⟨s.placeSig c (enrolOkFrame h), some (r.locate c)⟩ := by
  simp [actOf, actEnrol, State.enrolAt, hp]

theorem actCamp_detached (hd : r.attach = .detached) : actOf (.camp h) s (.cell c) (.camp h) (some r) =
    ⟨s.placeSig c (enrolNoFrame h .notEnrolled), some r⟩ := by
  simp [actOf, actCamp, State.campAt, hd]

theorem actCamp_attached (hd : r.attach = .attached) : actOf (.camp h) s (.cell c) (.camp h) (some r) =
    ⟨s, some (r.locate c)⟩ := by
  simp [actOf, actCamp, State.campAt, hd]

end

end Sys2Proof.Machine
end

section
namespace Sys2Proof.Machine
open Sys2Proof

/-- Settles O30: each message by the outcome of its lookup, and a change by whether its write fits. -/
theorem enrolCampAndRetireChangeTheRecord : Obligations.EnrolCampAndRetireChangeTheRecord := by
  unfold Obligations.EnrolCampAndRetireChangeTheRecord
  refine ⟨fun s c f h level ht => ⟨fun hf => settles_notFound ht rfl hf rfl, fun e hf => ?_⟩,
    fun s c f h ht => ⟨fun hf => settles_notFound ht rfl hf rfl, fun e hf => ?_⟩,
    fun s c f h ht => ⟨fun hf => settles_notFound ht rfl hf rfl, fun e hf => ?_⟩⟩
  · intro u r
    have hperm (hp : e.record.standing = .permitted) :
        actOf (.enrol h level) u (.cell c) (.enrol h level) (some e.record) =
          ⟨u.placeSig c (enrolOkFrame h), some r⟩ := by
      rw [actEnrol_permitted _ _ _ _ hp, locate_permitted hp]
    refine ⟨fun hb => ?_, fun hp hr => ?_, fun hp hne hw => ?_, fun hp hne hw hport => ?_⟩
    · exact settles_same (mine := Msg.isEnrol) ht rfl hf rfl (actEnrol_barred u c h level hb)
    · exact settles_same (mine := Msg.isEnrol) ht rfl hf rfl (hr ▸ hperm hp)
    · exact settles_changes (mine := Msg.isEnrol) ht rfl hf rfl (hperm hp) hne hw
    · exact settles_holds (mine := Msg.isEnrol) ht rfl hf rfl (hperm hp) hne hw hport
  · intro u r
    have hatt (ha : e.record.attach = .attached) (hp : e.record.standing = .permitted) :
        actOf (.camp h) u (.cell c) (.camp h) (some e.record) = ⟨u, some r⟩ := by
      rw [actCamp_attached _ _ _ ha, locate_permitted hp, ← ha]
    refine ⟨fun hd => ?_, fun ha hs => ?_, fun ha hp hne => ⟨fun hw => ?_, fun hw hport => ?_⟩⟩
    · exact settles_same (mine := Msg.isCamp) ht rfl hf rfl (actCamp_detached u c h hd)
    · refine settles_same (mine := Msg.isCamp) ht rfl hf rfl ((actCamp_attached u c h ha).trans ?_)
      cases hst : e.record.standing with
      | barred => rw [locate_barred hst]
      | permitted =>
        have hr : r = e.record := hs.resolve_left (by simp [hst])
        rw [locate_permitted hst, ← ha]
        exact congrArg (fun x => Acted.mk u (some x)) hr
    · exact settles_changes (mine := Msg.isCamp) ht rfl hf rfl (hatt ha hp) hne hw
    · exact settles_holds (mine := Msg.isCamp) ht rfl hf rfl (hatt ha hp) hne hw hport
  · intro u r
    have hret : actOf (.retire h) u (.cell c) (.retire h) (some e.record) = ⟨u, some r⟩ := rfl
    refine ⟨fun hr => ?_, fun hne hw => ?_, fun hne hw hport => ?_⟩
    · exact settles_same (mine := Msg.isRetire) ht rfl hf rfl (hr ▸ hret)
    · exact settles_changes (mine := Msg.isRetire) ht rfl hf rfl hret hne hw
    · exact settles_holds (mine := Msg.isRetire) ht rfl hf rfl hret hne hw hport

end Sys2Proof.Machine
end

section
/-! A message that misses (R25 to R27): it joins the group of its HID, or is parked in a new group. -/

namespace Sys2Proof.Machine

open Sys2Proof

/-- The rows of the opcode table that take the messages which name a HID, and the messages that each takes. -/
def TakesHid (i : Instr) (m : Msg) : Prop :=
  i = .enrol ∧ m.isEnrol = true ∨ i = .camp ∧ m.isCamp = true ∨ i = .retire ∧ m.isRetire = true ∨
    i = .seizeOrigin ∧ m.isSeize .origin = true ∨ i = .seizeAnswer ∧ m.isSeize .answer = true ∨
    i = .seizeMoveIn ∧ m.isSeize .moveIn = true ∨ i = .offer ∧ m.isOffer = true

/-- R45: such a row is a turn of the Signalling Processor by the action of the message. -/
theorem exec_takesHid {i : Instr} {m : Msg} (h : TakesHid i m) : ∃ mine act, mine m = true ∧ act = actOf m ∧
    ∀ s, exec i s = .next (s.settled (s.turn mine act)) := by
  have enrol : m.isEnrol = true → actEnrol = actOf m := by cases m <;> simp [Msg.isEnrol, actOf]
  have camp : m.isCamp = true → actCamp = actOf m := by cases m <;> simp [Msg.isCamp, actOf]
  have retire : m.isRetire = true → actRetire = actOf m := by cases m <;> simp [Msg.isRetire, actOf]
  have offer : m.isOffer = true → actOffer = actOf m := by cases m <;> simp [Msg.isOffer, actOf]
  rcases h with ⟨rfl, h⟩ | ⟨rfl, h⟩ | ⟨rfl, h⟩ | ⟨rfl, h⟩ | ⟨rfl, h⟩ | ⟨rfl, h⟩ | ⟨rfl, h⟩
  · exact ⟨_, _, h, enrol h, fun _ => rfl⟩
  · exact ⟨_, _, h, camp h, fun _ => rfl⟩
  · exact ⟨_, _, h, retire h, fun _ => rfl⟩
  · exact ⟨_, _, h, picks_seize_origin m h, fun _ => rfl⟩
  · exact ⟨_, _, h, picks_seize_answer m h, fun _ => rfl⟩
  · exact ⟨_, _, h, picks_seize_moveIn m h, fun _ => rfl⟩
  · exact ⟨_, _, h, offer h, fun _ => rfl⟩

theorem takeFrame_sig (s : State) (l : LinkId) : (s.takeFrame l).sig = { s.sig with intake := l } := by
  cases l <;> rfl

/-- R40: the message taken next, whether or not a group of its HID is parked. -/
theorem turn_next {s : State} {l : LinkId} {f : Frame} {m : Msg} (hh : s.sig.held = none)
    (hr : s.sig.firstReady = none) (hroom : s.sig.parked.length < 8) (hn : s.nextFrame = some (l, f))
    (hm : parseFrom l f = some m) {mine : Msg → Bool} (act : Act) (hmine : mine m = true) :
    s.turn mine act = some ((s.takeFrame l).dispatch act l m) := by
  have hp : s.sig.parkingFull = false := decide_eq_false (Nat.not_le.2 hroom)
  have : s.work = some (.frame l f) := by simp [State.work, hh, hr, hp, hn]
  simp [State.turn, this, hm, hmine]

/-! ### A message that misses -/

section

variable {s : State} {act : Act} {l : LinkId} {m : Msg} {h : Hid}

/-- R25: a message whose HID has a group joins it. -/
theorem dispatch_joins {g : Group} (hm : m.hid = some h) (hg : s.sig.groupOf h = some g) :
    s.dispatch act l m = { s with sig := s.sig.park ⟨h, l, m⟩ } := by
  simp [State.dispatch, hm, State.lookup, hg]

/-- R25: a message that misses in the cache forms a new group. -/
theorem dispatch_groups (hm : m.hid = some h) (hg : s.sig.groupOf h = none) (hf : s.reg.format = .formatted)
    (he : s.entryOf h = none) : s.dispatch act l m = s.newGroup h l m := by
  simp [State.dispatch, hm, State.lookup, hg, hf, he]

/-- R26: a new group asks while no context is FREE. -/
theorem newGroup_asks (hc : s.reg.freeContext = none) : s.newGroup h l m =
    { s with sig := { s.sig with
        parked := s.sig.parked ++ [⟨h, l, m⟩], groups := s.sig.groups ++ [⟨h, .awaiting⟩] } } :=
  assignContexts_idle (.inl hc)

theorem groupOf_none {p : SigProc} (hg : p.groupOf h = none) : ∀ g ∈ p.groups, g.hid ≠ h := by
  simpa [SigProc.groupOf] using hg

/-- R6, R26: a new group that alone asks takes the FREE context at once. -/
theorem newGroup_takes {c : ContextId} (hc : s.reg.freeContext = some c) (hf : s.reg.format = .formatted)
    (hg : s.sig.groupOf h = none) (ho : ∀ g ∈ s.sig.groups, g.phase.asks = false) : s.newGroup h l m =
      { s with
        reg := s.reg.startSearch c h
        sig := { s.sig with
          parked := s.sig.parked ++ [⟨h, l, m⟩], groups := s.sig.groups ++ [⟨h, .searching c⟩] } } := by
  let p : SigProc := { s.sig with
    parked := s.sig.parked ++ [⟨h, l, m⟩], groups := s.sig.groups ++ [⟨h, .awaiting⟩] }
  have only : ∀ x ∈ p.groups, x.hid ≠ h → x.phase.asks = false := by
    intro x hx hne
    rcases List.mem_append.1 hx with hx | hx
    · exact ho x hx
    · rw [List.mem_singleton.1 hx] at hne
      exact absurd rfl hne
  have first : p.firstAsking = some h :=
    firstAsking_only (m := ⟨h, l, m⟩) (g := ⟨h, .awaiting⟩) (by simp [p]) (by simp [p]) rfl rfl fun x hx ha => by
      by_contra hne
      rw [only x hx hne] at ha
      cases ha
  have hphase : p.setPhase h (.searching c) = { p with groups := s.sig.groups ++ [⟨h, .searching c⟩] } := by
    simp only [SigProc.setPhase, p, List.map_append, List.map_cons, List.map_nil, if_true]
    congr 2
    exact (List.map_congr_left fun g hg' => if_neg (groupOf_none hg g hg')).trans (List.map_id' _)
  refine (assignContexts_takes (s := { s with sig := p }) hc first hf (.inr (firstAsking_setPhase only))).trans ?_
  rw [show ({ s with sig := p } : State).sig.setPhase h (.searching c) = _ from hphase]

end

end Sys2Proof.Machine
end

section
namespace Sys2Proof.Machine
open Sys2Proof

/-- Settles O31: the message joins its group, or is parked in a new one. -/
theorem missedMessageIsParked : Obligations.MissedMessageIsParked := by
  unfold Obligations.MissedMessageIsParked
  intro i s l f m h hi hm hh hr hroom hn hparse
  obtain ⟨mine, act, hmine, rfl, hexec⟩ := exec_takesHid hi
  have hturn := turn_next hh hr hroom hn hparse (actOf m) hmine
  have hsig := takeFrame_sig s l
  have hfree : (s.takeFrame l).reg.freeContext = s.reg.freeContext := by rw [takeFrame_reg]
  rw [hexec]
  refine ⟨fun g hg => ?_, fun hg hf he => ⟨fun hc => ?_, fun c hc ho => ?_⟩⟩
  · refine settles_of (hturn.trans ?_) (.inl hh)
    rw [dispatch_joins hm (by rw [takeFrame_groupOf]; exact hg), hsig]
    rfl
  · refine settles_of (hturn.trans ?_) (.inl hh)
    rw [dispatch_groups hm (by rw [takeFrame_groupOf]; exact hg) (by simpa using hf) (by simpa using he),
      newGroup_asks (hfree.trans hc), hsig]
  · have hu := newGroup_takes (l := l) (m := m) (hfree.trans hc) (by simpa using hf)
      (show (s.takeFrame l).sig.groupOf h = none by rw [takeFrame_groupOf]; exact hg) (by rw [hsig]; exact ho)
    obtain ⟨t, ht, hs⟩ := settles_of (s := s) (hturn.trans (congrArg some ((dispatch_groups hm
      (by rw [takeFrame_groupOf]; exact hg) (by simpa using hf) (by simpa using he)).trans hu)))
      (.inl (by rw [hsig]; exact hh))
    exact ⟨t, ht, by simp [hs.contexts, Registry.startSearch], fun d hd => by simp [hs.contexts, Registry.startSearch, hd],
      by rw [hs.sig, hsig], hs.cells, by simp [hs.call], by simp [hs.cache], by simp [hs.mem, Registry.startSearch]⟩

end Sys2Proof.Machine
end

section
/-! A READY message taken from parking (R28, R29): acted on as its group's outcome says, or its group reopened. -/

namespace Sys2Proof.Machine

open Sys2Proof

/-- A message that names a HID is taken by its row. -/
theorem takesHid_row {m : Msg} {h : Hid} (hm : m.hid = some h) : TakesHid m.row m := by
  cases m with
  | enrol | camp | retire | offer => simp [TakesHid, Msg.row, Msg.isEnrol, Msg.isCamp, Msg.isRetire, Msg.isOffer]
  | seize k x p level => cases p <;> simp [TakesHid, Msg.row, Msg.isSeize]
  | vacate | stateReport | relayFromCell | endCall | relayFromExchange => cases hm

/-- R40, R28: the oldest message of the group that became READY first is taken. -/
theorem turn_ready {s : State} {g : Group} {m : Parked} (hh : s.sig.held = none) (hr : s.sig.firstReady = some g)
    (hm : s.sig.parked.find? (fun p => p.hid == g.hid) = some m) {mine : Msg → Bool} (act : Act)
    (hmine : mine m.msg = true) : s.turn mine act = some (s.takeParked act g m) := by
  have : s.work = some (.parked g m) := by simp [State.work, hh, hr, hm]
  simp [State.turn, this, hmine]

section

variable {s : State} {act : Act} {g : Group} {m : Parked}

theorem takeParked_notFound (hp : g.phase = .ready false) :
    s.takeParked act g m = (act { s with sig := s.sig.takeOldest g.hid } m.link m.msg none).state := by
  simp [State.takeParked, hp, State.actWithout]

theorem takeParked_found {e : CacheEntry} (hp : g.phase = .ready true) (he : s.entryOf g.hid = some e) :
    s.takeParked act g m =
      (({ s with sig := s.sig.takeOldest g.hid } : State).touch g.hid).actWith act m.link m.msg e := by
  simp [State.takeParked, hp, he]

theorem takeParked_reopens (hp : g.phase = .ready true) (he : s.entryOf g.hid = none) :
    s.takeParked act g m = ({ s with sig := s.sig.setPhase g.hid .reopened } : State).assignContexts := by
  simp [State.takeParked, hp, he]

end

/-- A phase set twice is the last one set. -/
theorem setPhase_setPhase (p : SigProc) (h : Hid) (x y : GroupPhase) :
    (p.setPhase h x).setPhase h y = p.setPhase h y := by
  simp only [SigProc.setPhase, List.map_map]
  congr 1
  refine List.map_congr_left fun g _ => ?_
  by_cases hg : g.hid = h <;> simp [hg]

/-- R29: a group that is reopened and alone asks takes the FREE context at once. -/
theorem reopened_takes {s : State} {g : Group} {m : Parked} {c : ContextId} (hg : g ∈ s.sig.groups)
    (hm : m ∈ s.sig.parked) (hmg : m.hid = g.hid) (hc : s.reg.freeContext = some c) (hf : s.reg.format = .formatted)
    (ho : ∀ x ∈ s.sig.groups, x.phase.asks = false) :
    ({ s with sig := s.sig.setPhase g.hid .reopened } : State).assignContexts =
      { s with reg := s.reg.startSearch c g.hid, sig := s.sig.setPhase g.hid (.searching c) } := by
  have only : ∀ x ∈ (s.sig.setPhase g.hid .reopened).groups, x.hid ≠ g.hid → x.phase.asks = false := by
    intro x hx hne
    obtain ⟨y, hy, rfl⟩ := List.mem_map.1 hx
    split at hne
    · exact absurd rfl hne
    · next hn => rw [if_neg hn]; exact ho y hy
  have reopened : (⟨g.hid, .reopened⟩ : Group) ∈ (s.sig.setPhase g.hid .reopened).groups :=
    List.mem_map.2 ⟨g, hg, if_pos rfl⟩
  have first : (s.sig.setPhase g.hid .reopened).firstAsking = some g.hid :=
    firstAsking_only (g := ⟨g.hid, .reopened⟩) (p := s.sig.setPhase g.hid .reopened) hm reopened rfl hmg fun x hx ha => by
      by_contra hne
      rw [only x hx hne] at ha
      cases ha
  rw [assignContexts_takes (s := { s with sig := s.sig.setPhase g.hid .reopened }) hc first hf
    (.inr (firstAsking_setPhase only))]
  simp only [setPhase_setPhase]

end Sys2Proof.Machine
end

section
namespace Sys2Proof.Machine
open Sys2Proof

/-- Settles O32: by the group's outcome, and with FOUND by whether an entry stands and what the action leaves of it. -/
theorem readyMessageIsTakenFromParking : Obligations.ReadyMessageIsTakenFromParking := by
  unfold Obligations.ReadyMessageIsTakenFromParking
  intro s g m hh hr hm hid rest left taken settles phased
  obtain ⟨mine, act, hmine, hact, hexec⟩ := exec_takesHid (takesHid_row hid)
  have hturn := turn_ready hh hr hm (actOf m.msg) hmine
  have hexec : exec m.msg.row s = .next (s.settled (s.turn mine (actOf m.msg))) := hact ▸ hexec s
  have htaken : taken = { s with sig := s.sig.takeOldest g.hid } := rfl
  have hg : g ∈ s.sig.groups := (firstReady_some hr).1
  have hpark : m ∈ s.sig.parked := List.mem_of_find?_eq_some hm
  have hmg : m.hid = g.hid := by simpa using List.find?_some hm
  have notFound (hp : g.phase = .ready false) : settles (actOf m.msg taken m.link m.msg none).state := by
    simp only [settles, hexec]
    exact settles_of (hturn.trans (congrArg some (takeParked_notFound hp))) (.inl ((actOf_held ..).trans hh))
  have found {e : CacheEntry} (hp : g.phase = .ready true) (he : s.entryOf g.hid = some e) :
      s.turn mine (actOf m.msg) = some ((taken.touch g.hid).actWith (actOf m.msg) m.link m.msg e) :=
    hturn.trans (congrArg some (takeParked_found hp he))
  have uheld : (taken.touch g.hid).sig.held = none := by simpa [taken] using hh
  have uentry {e : CacheEntry} (he : s.entryOf g.hid = some e) : (taken.touch g.hid).entryOf g.hid = some e :=
    (entryOf_touch ..).trans he
  have ureg : (taken.touch g.hid).reg = s.reg := by simp [taken]
  refine ⟨notFound, fun e hp he => ?_, fun hp he => ⟨fun hc => ?_, fun c hc hf ho => ?_⟩, fun c level hmsg hlink => ?_⟩
  · intro u a
    have ha {x : Option Record} (hx : a.record = x) : actOf m.msg u m.link m.msg (some e.record) = ⟨a.state, x⟩ := by
      rw [← hx]
    refine ⟨fun hx => ?_, fun r hx hne => ⟨fun hw => ?_, fun hw hport => ?_⟩⟩
    · simp only [settles, hexec]
      exact acts_same (found hp he) uheld (ha hx)
    · rw [hexec]
      obtain ⟨t, ht, _, hq, h⟩ := acts_changes (h := g.hid) (found hp he) uheld (uentry he) (ha hx) hne (by rw [ureg]; exact hw)
      exact ⟨t, ht, hq, h⟩
    · simp only [settles, hexec]
      exact acts_holds (found hp he) hid (uentry he) (ha hx) hne (by rw [ureg]; exact hw) (by rw [ureg]; exact hport)
  · simp only [settles, hexec]
    exact settles_of (hturn.trans (congrArg some ((takeParked_reopens hp he).trans (assignContexts_idle (.inl hc))))) (.inl hh)
  · rw [hexec]
    obtain ⟨t, ht, h⟩ := settles_of (s := s) (hturn.trans (congrArg some ((takeParked_reopens hp he).trans
      (reopened_takes hg hpark hmg hc hf ho)))) (.inl hh)
    exact ⟨t, ht, h.sig, by simp [h.contexts, Registry.startSearch],
      fun d hd => by simp [h.contexts, Registry.startSearch, hd], h.cells, h.call, h.cache, h.mem⟩
  · refine ⟨fun hp => ?_, fun e hp he hst => ?_⟩
    · have := notFound hp
      rw [hmsg, hlink] at this
      exact this
    · intro r hne hw
      rw [hmsg] at hexec found
      have ha : actOf (.enrol g.hid level) (taken.touch g.hid) m.link (.enrol g.hid level) (some e.record) =
          ⟨(taken.touch g.hid).placeSig c (enrolOkFrame g.hid), some r⟩ := by
        rw [hlink, actEnrol_permitted _ _ _ _ hst, locate_permitted hst]
      exact hexec ▸ acts_changes (found hp he) uheld (uentry he) ha hne (by rw [ureg]; exact hw)

end Sys2Proof.Machine
end

section
/-! A held message (R15): no step leaves one for which there is room, and the event that makes room releases it. -/

namespace Sys2Proof.Machine

open Sys2Proof

/-! ### Every step leaves a held message waiting -/

theorem heldWaits_outer {s t : State} (h : Outer s t) (hs : s.HeldWaits) : t.HeldWaits := by
  intro m hm
  rw [h.releasable]
  exact hs m (h.held ▸ hm)

/-- An event that ends with the judgement of the attention set holds no message. -/
theorem heldWaits_calm {s u : State} (h : Calm s u) (hs : s.HeldWaits) : u.HeldWaits := by
  cases h with
  | outer h => exact heldWaits_outer h hs
  | turn _ hh => exact heldWaits_of_none hh
  | restart q => exact heldWaits_of_none (by rw [State.reply_sig]; rfl)

/-- R15: no step leaves a message held for which the queue has room or holds a write. -/
theorem step_heldWaits {s t : State} (hs : s.HeldWaits) (h : step s = .next t) : t.HeldWaits := by
  obtain ⟨v, ho, hv⟩ := step_steps h
  have hw := heldWaits_outer ho hs
  cases hv with
  | outer h => exact heldWaits_outer h hw
  | calm hc => exact heldWaits_outer (outer_judgeAttention _ v) (heldWaits_calm hc hw)
  | works _ => exact settle_heldWaits _ _
  | reset p o => exact heldWaits_of_none rfl

/-- R40: while a message is held the Signalling Processor takes nothing. -/
theorem turn_held {s : State} {m : Held} (h : s.sig.held = some m) (mine : Msg → Bool) (act : Act) :
    s.turn mine act = none := by
  simp [State.turn, State.work, h]

theorem discardMalformed_held {s : State} {m : Held} (h : s.sig.held = some m) : s.discardMalformed = none := by
  simp [State.discardMalformed, State.work, h]

/-! ### The release -/

/-- R15, log 6: a message that has room once the event's own effects are done is released before the port is granted. -/
theorem settle_early {s u : State} {m : Held} (hm : u.sig.held = some m) (hr : u.releasable m = true) :
    u.settle s = ((u.release (actOf m.msg) m).settlePort s).judgeAttention s := by
  have hn : ((u.release (actOf m.msg) m).settlePort s).tryRelease = none :=
    tryRelease_none (heldWaits_of_none (by rw [(samePort_settlePort _ s).sig]; exact release_held hr))
  simp [State.settle, tryRelease_some hm hr, hn]

/-- R15, log 6: a message for which a grant makes room is released after it. -/
theorem settle_late {s u : State} {m : Held} (hm : u.sig.held = some m) (hn : u.releasable m = false)
    (hr : (u.settlePort s).releasable m = true) :
    u.settle s = (((u.settlePort s).release (actOf m.msg) m).settlePort s).judgeAttention s := by
  have h0 : u.tryRelease = none := tryRelease_none fun x hx => by rw [hm] at hx; cases hx; exact hn
  have hm' : (u.settlePort s).sig.held = some m := by rw [(samePort_settlePort u s).sig, hm]
  simp [State.settle, h0, tryRelease_some hm' hr]

/-- R12, R13: W is chosen when it waits and no other requester is overdue. -/
theorem chosen_w {s : State} {w : QueuedWrite} {rest : List QueuedWrite} (hw : s.reg.writes = w :: rest)
    (hs : s.reg.pass.s < 8) (hm : s.reg.pass.m < 8) (hb : s.reg.pass.b < 8) : s.chosen = some .w := by
  have hwait : s.waits .w = true := by simp [State.waits, hw]
  cases hc : s.chosen with
  | none => rw [chosen_none.1 hc .w] at hwait; cases hwait
  | some q =>
    rcases chosen_some hc with h | ⟨_, h⟩
    · have ho : 8 ≤ s.reg.pass.of q := by simpa using (Bool.and_eq_true _ _ ▸ List.find?_some h :).2
      cases q with
      | w => rfl
      | s => exact absurd hs (Nat.not_lt.2 ho)
      | m => exact absurd hm (Nat.not_lt.2 ho)
      | b => exact absurd hb (Nat.not_lt.2 ho)
    · have hle : priorityOrder.idxOf q ≤ priorityOrder.idxOf .w := idxOf_le_of_find? hwait h
      cases q with
      | w => rfl
      | s | m | b => exact absurd hle (by decide)

/-- R14: the grant to W at the end of an event. -/
theorem settlePort_w {s before : State} {w : QueuedWrite} {rest : List QueuedWrite} (hp : s.reg.port = none)
    (hw : s.reg.writes = w :: rest) (hs : s.reg.pass.s < 8) (hm : s.reg.pass.m < 8) (hb : s.reg.pass.b < 8) :
    (s.settlePort before).reg.port = some (.writeThrough w.addr w.image) ∧ (s.settlePort before).reg.writes = rest := by
  obtain ⟨hport, hwrites, _⟩ := settlePort_granted (s := s) (before := before) hp
    (chosen_w (s := s.refreshed before.reg.readyOrder) hw hs hm hb)
    (grantW_oldest (s := (s.refreshed before.reg.readyOrder).countGrant .w) hw) rfl
  exact ⟨hport, hwrites⟩

/-- R14, R15: where a held message is released at the completion of a write-through: before W is granted its oldest write,
or after it. -/
def ReleasedAround (s x : State) (w : QueuedWrite) (rest : List QueuedWrite) : Prop :=
  (x.reg.port = none ∧ x.reg.writes = w :: rest ∧ x.reg.pass = s.reg.pass) ∨
    (x.reg.port = some (.writeThrough w.addr w.image) ∧ x.reg.writes = rest)

section

variable {s : State} {w : QueuedWrite} {rest : List QueuedWrite} (hs : s.reg.pass.s < 8) (hm : s.reg.pass.m < 8)
  (hb : s.reg.pass.b < 8)

include hs hm hb

/-- R15, log 6: at the completion of a write-through, after which W is granted, a held message is released. -/
theorem writeThrough_releases {m : Held} {a : RecAddr} {b : Record} (hheld : s.sig.held = some m)
    (hp : s.reg.port = some (.writeThrough a b)) (hw : s.reg.writes = w :: rest) (hl : rest.length < 16) :
    ∃ x, SamePort (s.writtenByOther a b) x ∧ x.releasable m = true ∧ ReleasedAround s x w rest ∧
      exec .writeThroughComplete s = .next (((x.release (actOf m.msg) m).settlePort s).judgeAttention s) := by
  have hreg := writtenByOther_reg s a b
  have hu : (s.writtenByOther a b).sig.held = some m := by rw [State.writtenByOther_sig, hheld]
  have hexec : exec .writeThroughComplete s = .next ((s.writtenByOther a b).settle s) := by
    show Host.Outcome.next (s.settled s.completeWriteThrough) = _
    simp [State.completeWriteThrough, hp]
  cases hr : (s.writtenByOther a b).releasable m with
  | true =>
    exact ⟨_, .refl _, hr, .inl ⟨by rw [hreg], by rw [hreg, hw], by rw [hreg]⟩, by rw [hexec, settle_early hu hr]⟩
  | false =>
    obtain ⟨hport, hwrites⟩ := settlePort_w (s := s.writtenByOther a b) (before := s) (by rw [hreg])
      (by rw [hreg, hw]) (by rw [hreg]; exact hs) (by rw [hreg]; exact hm) (by rw [hreg]; exact hb)
    have hr' : ((s.writtenByOther a b).settlePort s).releasable m = true := by
      simp [State.releasable, hwrites, Config.writeQueueSize, hl]
    exact ⟨_, samePort_settlePort _ s, hr', .inr ⟨hport, hwrites⟩, by rw [hexec, settle_late hu hr hr']⟩

/-- R14: after the release W's oldest write is on the port, and what the release queued stands behind the others. -/
theorem ReleasedAround.settlePort {x z : State} {extra : List QueuedWrite} (h : ReleasedAround s x w rest)
    (hport : z.reg.port = x.reg.port) (hpass : z.reg.pass = x.reg.pass) (hwrites : z.reg.writes = x.reg.writes ++ extra) :
    (z.settlePort s).reg.port = some (.writeThrough w.addr w.image) ∧ (z.settlePort s).reg.writes = rest ++ extra := by
  rcases h with ⟨hp, hw, hx⟩ | ⟨hp, hw⟩
  · exact settlePort_w (hport.trans hp) (by rw [hwrites, hw, List.cons_append]) (by rw [hpass, hx]; exact hs)
      (by rw [hpass, hx]; exact hm) (by rw [hpass, hx]; exact hb)
  · obtain ⟨h1, h2, _⟩ := settlePort_busy z s (by rw [hport, hp]; rfl)
    exact ⟨by rw [h1, hport, hp], by rw [h2, hwrites, hw]⟩

end

/-- The state in which a held message is acted on: it is held no more. -/
def State.unheld (s : State) : State := { s with sig := { s.sig with held := none } }

section

variable {x : State} {m : Held} {h : Hid}

/-- R15: a held message released with its entry. -/
theorem release_entry {e : CacheEntry} (hm : m.msg.hid = some h) (he : x.entryOf h = some e) :
    x.release (actOf m.msg) m = x.unheld.actWith (actOf m.msg) m.link m.msg e := by
  have he : x.unheld.entryOf h = some e := he
  simp only [State.release, hm]
  rw [show ({ x with sig := { x.sig with held := none } } : State).entryOf h = some e from he]
  rfl

/-- R15, R25: a held message whose entry has gone is looked up. -/
theorem release_lookup (hm : m.msg.hid = some h) (he : x.entryOf h = none) :
    x.release (actOf m.msg) m = x.unheld.lookup (actOf m.msg) m.link m.msg h := by
  simp only [State.release, hm]
  rw [show ({ x with sig := { x.sig with held := none } } : State).entryOf h = none from he]
  rfl

/-- R15, R47: a held ENROL of a PERMITTED record released with room for its write. -/
theorem release_enrol {c : CellId} {level : Nat} {e : CacheEntry}
    (hr : x.releasable ⟨.cell c, .enrol h level⟩ = true) (he : x.entryOf h = some e)
    (hst : e.record.standing = .permitted) (hne : e.record.locate c ≠ e.record) :
    x.release (actOf (.enrol h level)) ⟨.cell c, .enrol h level⟩ =
      (x.unheld.placeSig c (enrolOkFrame h)).changeEntry h e.addr (e.record.locate c) := by
  have hfits : writeFits x.reg.writes e.addr = true := by
    simpa [State.releasable, Msg.hid, he, writeFits] using hr
  have ha := actEnrol_permitted x.unheld c h level hst
  rw [release_entry (m := ⟨.cell c, .enrol h level⟩) rfl he, actWith_changes (congrArg Acted.record ha) hne hfits, ha,
    entryOf_hid he]

/-- R15, R25, R26: a held message whose entry has gone is parked in a new group. -/
theorem release_groups (hm : m.msg.hid = some h) (he : x.entryOf h = none) (hg : x.sig.groupOf h = none)
    (hf : x.reg.format = .formatted) (hc : x.reg.freeContext = none) : x.release (actOf m.msg) m =
      { x with sig := { x.sig with
          held := none, parked := x.sig.parked ++ [⟨h, m.link, m.msg⟩], groups := x.sig.groups ++ [⟨h, .awaiting⟩] } } := by
  have hg : x.unheld.sig.groupOf h = none := hg
  have hf : x.unheld.reg.format = .formatted := hf
  have he' : x.unheld.entryOf h = none := he
  rw [release_lookup hm he, State.lookup, hg, he', if_neg (by simp), if_neg (by simp [hf])]
  exact newGroup_asks hc

/-- R15, R25: a held message released while the registry is not FORMATTED is NOT FOUND. -/
theorem release_notFound (hm : m.msg.hid = some h) (he : x.entryOf h = none) (hg : x.sig.groupOf h = none)
    (hf : x.reg.format ≠ .formatted) :
    x.release (actOf m.msg) m = (actOf m.msg x.unheld m.link m.msg none).state := by
  have hg : x.unheld.sig.groupOf h = none := hg
  have hf : x.unheld.reg.format ≠ .formatted := hf
  rw [release_lookup hm he, State.lookup, hg, if_neg (by simp), if_pos hf]
  rfl

end

/-- R11, R38: FORMAT-REGISTRY leaves no entry. -/
theorem entryOf_invalid {s t : State} (h : t.cache = s.cache.map CacheSet.invalid) (g : Hid) : t.entryOf g = none := by
  rw [entryOf_eq, CacheSet.entry_eq_none, h, Table.at_map]
  intro w e he
  cases w <;> cases he

/-- R144: a frame placed for a cell whose link is UP with room joins the tail of its signalling queue. -/
theorem placeSig_joins {s : State} {c : CellId} (f : Frame) (hu : s.cellUp c = true)
    (hl : (s.cells.at c).sigQueue.length < 16) :
    ((s.placeSig c f).cells.at c).sigQueue = (s.cells.at c).sigQueue ++ [f] := by
  have hup : (s.cells.at c).link.state = .up := by simpa [State.cellUp] using hu
  rw [placeSig_at, if_pos (by simp [hup, LinkState.queues]), if_pos (by simpa [Config.sigQueueSize] using hl)]

theorem joinWrite_new {writes : List QueuedWrite} {a : RecAddr} (h : queuedAt writes a = none) (r : Record) :
    joinWrite writes a r = writes ++ [⟨a, r⟩] := by
  simp [joinWrite, h]

/-- R14: a record with no queued write has none where a held message is released. -/
theorem ReleasedAround.queuedAt {s x : State} {w : QueuedWrite} {rest : List QueuedWrite} {a : RecAddr}
    (h : ReleasedAround s x w rest) (hq : Machine.queuedAt (w :: rest) a = none) :
    Machine.queuedAt x.reg.writes a = none := by
  rcases h with ⟨_, hw, _⟩ | ⟨_, hw⟩ <;> rw [hw]
  · exact hq
  · rw [queuedAt_eq_none] at hq ⊢
    exact fun v hv => hq v (List.mem_cons_of_mem _ hv)

end Sys2Proof.Machine
end

section
namespace Sys2Proof.Machine
open Sys2Proof

/-- Settles O33: the step lemma, the intake that stands, and the two events that release a message. -/
theorem heldMessageIsReleased : Obligations.HeldMessageIsReleased := by
  unfold Obligations.HeldMessageIsReleased
  refine ⟨fun s t hs h => step_heldWaits hs h, fun s m hm i hi => ?_, fun s m h w rest a b hm hh hp hw hl hs hpm hb => ?_,
    fun s q rest c h level ha hc ho hf hsw hm hg => ?_⟩
  · have hturn := turn_held hm
    have settled {o : Option State} (h : o = none) :
        (Host.Outcome.next (s.settled o) : Host.Outcome State Fault Refusal) = .next s := by rw [h]; rfl
    have judged {o : Option State} (h : o = none) :
        (Host.Outcome.next (s.judged o) : Host.Outcome State Fault Refusal) = .next s := by rw [h]; rfl
    simp only [List.mem_cons, List.not_mem_nil, or_false] at hi
    rcases hi with rfl | rfl | rfl | rfl | rfl | rfl | rfl | rfl | rfl | rfl | rfl | rfl | rfl
    · exact settled (hturn _ _)
    · exact settled (hturn _ _)
    · exact settled (hturn _ _)
    · exact settled (hturn _ _)
    · exact settled (hturn _ _)
    · exact settled (hturn _ _)
    · exact judged (hturn _ _)
    · exact judged (hturn _ _)
    · exact judged (hturn _ _)
    · exact settled (hturn _ _)
    · exact judged (hturn _ _)
    · exact judged (hturn _ _)
    · exact judged (discardMalformed_held hm)
  · obtain ⟨x, p, hrel, hx, hexec⟩ := writeThrough_releases hs hpm hb hm hp hw hl
    have hsig : x.sig = s.sig := p.sig.trans (by simp)
    have hcells : x.cells = s.cells := p.cells.trans (by simp)
    have hcache : x.cache = s.cache := p.cache.trans (by simp)
    have hcall : x.call = s.call := p.call.trans (by simp)
    have hentry : x.entryOf h = s.entryOf h := by rw [State.entryOf, hcache]; rfl
    refine ⟨fun c level e hmsg he hst hq => ?_, fun he hg hf hc => ?_⟩
    · intro r hne
      subst hmsg
      have hr : e.record.locate c = r := locate_permitted hst c
      let z := (x.unheld.placeSig c (enrolOkFrame h)).changeEntry h e.addr r
      have hz : x.release (actOf (.enrol h level)) ⟨.cell c, .enrol h level⟩ = z := by
        rw [release_enrol hrel (hentry.trans he) hst (by rw [hr]; exact hne), hr]
      obtain ⟨hport, hwrites⟩ := hx.settlePort hs hpm hb (z := z) (extra := [⟨e.addr, r⟩])
        (by simp [z, State.changeEntry, State.unheld]) (by rw [changeEntry_pass]; simp [State.unheld])
        (by rw [changeEntry_writes, State.placeSig_reg]; exact joinWrite_new (hx.queuedAt (hw ▸ hq)) r)
      have pz := samePort_settlePort z s
      have hzcells : z.cells = (x.unheld.placeSig c (enrolOkFrame h)).cells := by simp [z]
      refine ⟨_, hexec.trans (by rw [hz]), ?_, ?_, ?_, ?_, ?_, fun hup hroom => ?_, fun d hd => ?_, ?_⟩
      · rw [State.judgeAttention_sig, pz.sig]
        simp [z, State.unheld, hsig]
      · rw [State.entryOf, State.judgeAttention_cache, pz.cache]
        exact entryOf_changeEntry (by simpa [State.entryOf, State.unheld] using hentry.trans he) (entryOf_hid he)
      · rw [State.judgeAttention_reg, hport]
      · rw [State.judgeAttention_reg, hwrites]
      · rw [State.judgeAttention_reg, pz.mem]
        simp [z, State.unheld, State.changeEntry, p.mem, writtenByOther_reg]
      · rw [State.judgeAttention_cells, pz.cells, hzcells,
          placeSig_joins _ (by simpa [State.unheld, State.cellUp, hcells] using hup)
            (by simpa [State.unheld, hcells] using hroom)]
        simp [State.unheld, hcells]
      · rw [State.judgeAttention_cells, pz.cells, hzcells, placeSig_at_other _ _ hd]
        simp [State.unheld, hcells]
      · rw [State.judgeAttention_call, pz.call]
        simp [z, State.unheld, hcall]
    · have hz := release_groups (x := x) hh (hentry.trans he) (hsig ▸ hg) (by rw [p.format, writtenByOther_reg]; exact hf)
        (by
          have : x.reg.contexts = s.reg.contexts := by rw [p.contexts, writtenByOther_reg]
          simpa only [Registry.freeContext, this] using hc)
      obtain ⟨_, hwrites⟩ := hx.settlePort hs hpm hb (z := x.release (actOf m.msg) m) (extra := []) (by rw [hz])
        (by rw [hz]) (by rw [hz]; simp)
      have pz := samePort_settlePort (x.release (actOf m.msg) m) s
      refine ⟨_, hexec, ?_, ?_, ?_, ?_, ?_⟩
      · rw [State.judgeAttention_sig, pz.sig, hz, hsig]
      · rw [State.judgeAttention_reg, hwrites, List.append_nil]
      · rw [State.judgeAttention_cells, pz.cells, hz, hcells]
      · rw [State.judgeAttention_call, pz.call, hz, hcall]
      · rw [State.judgeAttention_cache, pz.cache, hz, hcache]
  · obtain ⟨groups, hids, hu⟩ := startFormat_eq s
    let u := s.startFormat.answered q rest .done []
    have hexec : exec .formatRegistry s = .next (u.settle s) := by
      show Host.Outcome.next (s.settled ((s.head Cmd.formatRegistry).map s.runFormat)) = _
      rw [head_eq (cmd := Cmd.formatRegistry) ha hc, Option.map_some, runFormat_accepted ho hf hsw,
        reply_eq_answered s.startFormat _ _ (by rw [hu]; exact ha.2)]
      rfl
    have hwrites : u.reg.writes = [] := by simp [u, hu]
    have hformat : u.reg.format = .formatting := by simp [u, hu]
    have hgroup : u.sig.groupOf h = none := by
      have : ∀ g ∈ groups, g.hid ≠ h := by
        intro g hgm hgh
        obtain ⟨y, hy, hyg⟩ := hids g hgm
        exact groupOf_none hg y hy (hyg.trans hgh)
      simpa [u, hu, SigProc.groupOf] using this
    let v := u.unheld.placeSig c (enrolNoFrame h .unknown)
    have hz : u.release (actOf (.enrol h level)) ⟨.cell c, .enrol h level⟩ = v :=
      release_notFound (m := ⟨.cell c, .enrol h level⟩) rfl (entryOf_invalid (s := s) (by simp [u, hu]) h) hgroup
        (by simp [hformat])
    have hsettle := settle_early (s := s) (u := u) (by simpa [u, hu] using hm)
      (by simp [State.releasable, hwrites, Config.writeQueueSize])
    have pz := samePort_settlePort v s
    have hcells : u.unheld.cells = s.cells := by simp [State.unheld, u, hu]
    refine ⟨_, hexec.trans (by rw [hsettle, hz]), ?_, ?_, ?_, ?_, ?_, fun hup hroom => ?_, fun d hd => ?_, ?_⟩
    · rw [State.judgeAttention_sig, pz.sig]
      simp [v, State.unheld]
    · rw [State.judgeAttention_sig, pz.sig]
      simp [v, State.unheld, u, hu]
    · rw [State.judgeAttention_reg, pz.format]
      simp [v, State.unheld, hformat]
    · rw [State.judgeAttention_reg]
      refine List.eq_nil_iff_forall_not_mem.2 fun w hw => ?_
      have := (leavesWrites_settlePort v s).subset hw
      simp [v, State.unheld, hwrites] at this
    · rw [State.judgeAttention_mgmt, pz.queue]
      simp [v, State.unheld, u]
    · rw [State.judgeAttention_cells, pz.cells, placeSig_joins _ (by simpa [State.cellUp, hcells] using hup)
        (by simpa [hcells] using hroom), hcells]
    · rw [State.judgeAttention_cells, pz.cells, placeSig_at_other _ _ hd, hcells]
    · rw [State.judgeAttention_call, pz.call]
      simp [v, State.unheld, u, hu]

end Sys2Proof.Machine
end

section
/-! A SEIZE whose lookup ends at once (R61): its bearer is freed, its purpose handled, and an accepted one makes the location
update of the record found. -/

namespace Sys2Proof.Machine

open Sys2Proof

/-! ### The state in which a message of a cell is acted on -/

section

variable (s : State) (c : CellId) (h : Hid) (found : Option CacheEntry)

@[simp] theorem takenFor_timeBase : (s.takenFor (.cell c) h found).timeBase = s.timeBase := by
  cases found <;> simp [State.takenFor]

@[simp] theorem takenFor_exch : (s.takenFor (.cell c) h found).exch = s.exch := by
  cases found <;> simp [State.takenFor, State.takeFrame, State.modUnit]

@[simp] theorem takenFor_call : (s.takenFor (.cell c) h found).call = s.call := by
  cases found <;> simp [State.takenFor]

@[simp] theorem takenFor_tables : (s.takenFor (.cell c) h found).tables = s.tables := by
  cases found <;> simp [State.takenFor]

@[simp] theorem takenFor_attn : (s.takenFor (.cell c) h found).attn = s.attn := by
  cases found <;> simp [State.takenFor]

@[simp] theorem takenFor_callOf (n : Circuit) : (s.takenFor (.cell c) h found).callOf n = s.callOf n := by
  simp [State.callOf]

@[simp] theorem takenFor_bearer (d : CellId) (k : SlotId) :
    (s.takenFor (.cell c) h found).bearer d k = s.bearer d k := by
  simp [State.bearer]

@[simp] theorem takenFor_findCall (x : Hid) : (s.takenFor (.cell c) h found).findCall x = s.findCall x := by
  simp [State.findCall]

@[simp] theorem takenFor_exchUp : (s.takenFor (.cell c) h found).exchUp = s.exchUp := by simp [State.exchUp]

/-- Only the FIFO of the cell's link has changed. -/
theorem takenFor_cells : (s.takenFor (.cell c) h found).cells = s.cells.put c { s.cells.at c with
    link := { (s.cells.at c).link with rxFifo := (s.cells.at c).link.rxFifo.tail } } := by
  cases found <;> simp [State.takenFor, State.takeFrame, State.modUnit, State.modCell]

@[simp] theorem takenFor_sigQueue (d : CellId) :
    ((s.takenFor (.cell c) h found).cells.at d).sigQueue = (s.cells.at d).sigQueue := by
  rw [takenFor_cells, Table.at_put]
  split
  · next hd => rw [hd]
  · rfl

@[simp] theorem takenFor_report (d : CellId) :
    ((s.takenFor (.cell c) h found).cells.at d).report = (s.cells.at d).report := by
  rw [takenFor_cells, Table.at_put]
  split
  · next hd => rw [hd]
  · rfl

@[simp] theorem takenFor_cellUp (d : CellId) : (s.takenFor (.cell c) h found).cellUp d = s.cellUp d := by
  simp only [State.cellUp, takenFor_cells, Table.at_put]
  split
  · next hd => rw [hd]
  · rfl

end

/-! ### The three steps of a SEIZE (R61) -/

/-- R61: a SEIZE handled by its purpose, its bearer freed. -/
def State.handle (s : State) (z : Seize) (found : Option Record) : Purpose → Handled
  | .origin => s.seizeForOrigin z found
  | .answer => s.seizeForAnswer z
  | .moveIn => s.seizeForMoveIn z

theorem actOf_seize {s : State} {c : CellId} (hu : s.cellUp c = true) (k : SlotId) (h : Hid) (p : Purpose) (level : Nat)
    (found : Option Record) : actOf (.seize k h p level) s (.cell c) (.seize k h p level) found =
      ⟨((s.freeBearer c k).handle ⟨c, k, h, level⟩ found p).state,
        if ((s.freeBearer c k).handle ⟨c, k, h, level⟩ found p).accepted then found.map (Record.locate · c) else found⟩ := by
  cases p <;> exact if_pos hu

/-- R59: a SEIZE from a cell that is not UP is a stray. -/
theorem actOf_seize_stray {s : State} {c : CellId} (hu : s.cellUp c = false) (k : SlotId) (h : Hid) (p : Purpose)
    (level : Nat) (found : Option Record) :
    actOf (.seize k h p level) s (.cell c) (.seize k h p level) found = ⟨s.stray (.cell c), found⟩ := by
  have hu : ¬s.cellUp c = true := by simp [hu]
  cases p <;> exact if_neg hu

/-- R46: an entry after the location update of an accepted SEIZE from cell `c`. -/
def CacheEntry.located (e : CacheEntry) (c : CellId) : CacheEntry := ⟨e.record.locate c, e.addr⟩

/-- What the event of an accepted SEIZE leaves beside the state `v` of its handling: the location update of the entry found
(R46), with the write-through of a change. -/
structure SeizeSettles (s v t : State) (c : CellId) (h : Hid) (found : Option CacheEntry) : Prop where
  cells : t.cells = v.cells
  call : t.call = v.call
  tables : t.tables = v.tables
  mem : t.reg.mem = v.reg.mem
  captures : t.attn.captures = v.attn.captures
  settles : ∃ w, w.exch = v.exch ∧ Settles s w t
  located : ∀ e, found = some e → t.entryOf h = some (e.located c)
  missed : found = none → t.entryOf h = s.entryOf h
  queued : ∀ e, found = some e → e.record.locate c ≠ e.record → t.WriteQueued e.addr (e.record.locate c)

theorem SeizeSettles.of_settles {s u v t : State} {c : CellId} {h : Hid} {found : Option CacheEntry} (hs : Settles s v t)
    (hb : SameBase u v) (hu : u = s.takenFor (.cell c) h found) (hf : s.Finds h found)
    (hsame : ∀ e, found = some e → e.record.locate c = e.record) : SeizeSettles s v t c h found where
  cells := hs.cells
  call := hs.call
  tables := hs.tables
  mem := hs.mem
  captures := by rw [hs.attn]
  settles := ⟨v, rfl, hs⟩
  located e he := by
    subst hu he
    rw [State.entryOf, hs.cache, hb.cache]
    show (s.takenFor (.cell c) h (some e)).entryOf h = _
    rw [takenFor_entryOf, hf.2, CacheEntry.located, hsame e rfl]
  missed hn := by
    subst hu
    rw [State.entryOf, hs.cache, hb.cache]
    exact takenFor_entryOf ..
  queued e he hne := absurd (hsame e he) hne

section

variable {s : State} {c : CellId} {f : Frame} {k : SlotId} {h : Hid} {p : Purpose} {level : Nat}
  {found : Option CacheEntry} (ht : TakesNext s (.cell c) f (.seize k h p level)) (hf : s.Finds h found)

include ht hf

/-- The event of a SEIZE that leaves the record it finds as it is. -/
theorem seize_same {v : State} (ha : actOf (.seize k h p level) (s.takenFor (.cell c) h found) (.cell c)
      (.seize k h p level) (found.map CacheEntry.record) = ⟨v, found.map CacheEntry.record⟩) :
    ∃ t, exec (Msg.seize k h p level).row s = .next t ∧ Settles s v t := by
  obtain ⟨mine, act, hm, rfl, hexec⟩ := exec_takesHid (takesHid_row (m := .seize k h p level) rfl)
  simp only [hexec]
  cases found with
  | none =>
    have := settles_notFound ht rfl hf hm
    rwa [show actOf (.seize k h p level) (s.takenFor (.cell c) h none) (.cell c) (.seize k h p level) none = ⟨v, none⟩
      from ha] at this
  | some e => exact settles_same ht rfl hf hm ha

/-- R59: the event of a SEIZE from a cell that is not UP. -/
theorem seize_stray (hu : s.cellUp c = false) : ∃ t, exec (Msg.seize k h p level).row s = .next t ∧
    Settles s ((s.takenFor (.cell c) h found).stray (.cell c)) t :=
  seize_same ht hf (actOf_seize_stray (by rw [takenFor_cellUp, hu]) ..)

variable (hu : s.cellUp c = true) {v : State}

include hu

/-- R61: the event of a SEIZE that is refused. -/
theorem seize_denied (ha : ((s.takenFor (.cell c) h found).freeBearer c k).handle ⟨c, k, h, level⟩
      (found.map CacheEntry.record) p = ⟨v, false⟩) :
    ∃ t, exec (Msg.seize k h p level).row s = .next t ∧ Settles s v t :=
  seize_same ht hf (by rw [actOf_seize (by rw [takenFor_cellUp, hu]), ha]; simp)

/-- R61, R46: the event of a SEIZE that is accepted, where its location update has room. -/
theorem seize_accepted (hfit : ∀ e, found = some e → writeFits s.reg.writes e.addr = true)
    (ha : ((s.takenFor (.cell c) h found).freeBearer c k).handle ⟨c, k, h, level⟩ (found.map CacheEntry.record) p =
      ⟨v, true⟩) :
    ∃ t, exec (Msg.seize k h p level).row s = .next t ∧ SeizeSettles s v t c h found := by
  have hact := actOf_seize (s := s.takenFor (.cell c) h found) (by rw [takenFor_cellUp, hu]) k h p level
    (found.map CacheEntry.record)
  rw [ha] at hact
  have hb := base_actOf (s.takenFor (.cell c) h found) (.seize k h p level) (.cell c) (.seize k h p level)
    (found.map CacheEntry.record)
  rw [hact] at hb
  by_cases hsame : ∀ e, found = some e → e.record.locate c = e.record
  · obtain ⟨t, hx, hs⟩ := seize_same ht hf (v := v) (by
      rw [hact]
      cases found with
      | none => rfl
      | some e => simp [hsame e rfl])
    exact ⟨t, hx, .of_settles hs hb rfl hf hsame⟩
  · cases found with
    | none => exact absurd (fun e he => by cases he) hsame
    | some e =>
      have hne : e.record.locate c ≠ e.record := fun he => hsame fun x hx => by cases hx; exact he
      obtain ⟨mine, act, hm, rfl, hexec⟩ := exec_takesHid (takesHid_row (m := .seize k h p level) rfl)
      obtain ⟨t, hx, he, hq, hs⟩ := settles_changes ht rfl hf hm hact hne (hfit e rfl)
      refine ⟨t, (hexec s).trans hx, ?_⟩
      exact {
        cells := by rw [hs.cells, State.changeEntry_cells]
        call := by rw [hs.call, State.changeEntry_call]
        tables := by rw [hs.tables, State.changeEntry_tables]
        mem := by rw [hs.mem]; simp [State.changeEntry]
        captures := by rw [hs.attn, State.changeEntry_attn]
        settles := ⟨_, by simp, hs⟩
        located := fun x hx => by cases hx; exact he
        missed := fun hn => by cases hn
        queued := fun x hx _ => by cases hx; exact hq }

/-- R15: the event of a SEIZE that is accepted, at a busy port, where its location update has no room. -/
theorem seize_held {e : CacheEntry} (hfound : found = some e) (hne : e.record.locate c ≠ e.record)
    (hfull : writeFits s.reg.writes e.addr = false) (hport : s.reg.port.isSome = true)
    (ha : (((s.takenFor (.cell c) h found).freeBearer c k).handle ⟨c, k, h, level⟩
      (found.map CacheEntry.record) p).accepted = true) :
    ∃ t, exec (Msg.seize k h p level).row s = .next t ∧ Settles s { s.takenFor (.cell c) h found with
      sig := { (s.takenFor (.cell c) h found).sig with held := some ⟨.cell c, .seize k h p level⟩ } } t := by
  subst hfound
  obtain ⟨mine, act, hm, rfl, hexec⟩ := exec_takesHid (takesHid_row (m := .seize k h p level) rfl)
  have hact := actOf_seize (s := s.takenFor (.cell c) h (some e)) (by rw [takenFor_cellUp, hu]) k h p level
    (some e.record)
  rw [if_pos (by exact ha)] at hact
  simp only [hexec]
  exact settles_holds ht rfl hf hm hact hne hfull hport

end

/-- R144: a frame placed for the cell of the message joins the signalling queue of its link. -/
theorem takenFor_joins {s y t : State} {c : CellId} {h : Hid} {found : Option CacheEntry} {f : Frame}
    (ht : t.cells = (y.placeSig c f).cells) (hy : y.cells = (s.takenFor (.cell c) h found).cells)
    (hu : s.cellUp c = true) (hl : (s.cells.at c).sigQueue.length < 16) :
    (t.cells.at c).sigQueue = (s.cells.at c).sigQueue ++ [f] := by
  have hq : (y.cells.at c).sigQueue = (s.cells.at c).sigQueue := by rw [hy, takenFor_sigQueue]
  have hup : y.cellUp c = true := by rw [State.cellUp, hy]; exact (takenFor_cellUp ..).trans hu
  rw [ht, placeSig_joins f hup (by rw [hq]; exact hl), hq]

/-! ### A call bound to the bearer of a SEIZE -/

/-- R61: what accepting a SEIZE does to the call `n`, now `r`, and to the bearer, now `b`; GRANT is placed. -/
def State.bound (s : State) (z : Seize) (n : Circuit) (r : CallRecord) (b : Bearer) : State :=
  ((s.modCall n fun _ => r).setBearer z.cell z.slot b).grantSeize z

section

variable (s : State) (z : Seize) (n : Circuit) (r : CallRecord) (b : Bearer)

@[simp] theorem callOf_bound : (s.bound z n r b).callOf n = r := by simp [State.bound, State.grantSeize]

theorem callOf_bound_other {m : Circuit} (hm : m ≠ n) : (s.bound z n r b).callOf m = s.callOf m := by
  simp [State.bound, State.grantSeize, hm]

theorem bearer_bound (d : CellId) (j : SlotId) :
    (s.bound z n r b).bearer d j = if d = z.cell ∧ j = z.slot then b else s.bearer d j := by
  simp [State.bound, State.grantSeize, bearer_setBearer]

@[simp] theorem freeQueue_bound : (s.bound z n r b).call.freeQueue = s.call.freeQueue := by
  simp [State.bound, State.grantSeize, State.setBearer, State.modCall]

@[simp] theorem bound_exch : (s.bound z n r b).exch = s.exch := by simp [State.bound, State.grantSeize]

@[simp] theorem bound_attn : (s.bound z n r b).attn = s.attn := by simp [State.bound, State.grantSeize]

@[simp] theorem bound_tables : (s.bound z n r b).tables = s.tables := by simp [State.bound, State.grantSeize]

@[simp] theorem bound_reg : (s.bound z n r b).reg = s.reg := by simp [State.bound, State.grantSeize]

theorem bound_cells : (s.bound z n r b).cells = (s.placeSig z.cell (grantFrame z.slot z.hid)).cells := rfl

theorem bound_sameBut : s.call.SameBut (s.bound z n r b).call n z.cell z.slot := by
  refine ⟨fun m hm => callOf_bound_other s z n r b hm, fun d j hdj => ?_⟩
  show (s.bound z n r b).bearer d j = _
  rw [bearer_bound, if_neg hdj]
  rfl

end

/-- The call table of `t` is that of `x` with the call `n`, now `r`, bound to the bearer of the SEIZE, now `b`. -/
structure BoundIn (x t : State) (z : Seize) (n : Circuit) (r : CallRecord) (b : Bearer) : Prop where
  callOf : t.callOf n = r
  bearer : t.bearer z.cell z.slot = b
  freeQueue : t.call.freeQueue = x.call.freeQueue
  sameBut : x.call.SameBut t.call n z.cell z.slot

theorem boundIn {x t : State} {z : Seize} {n : Circuit} {r : CallRecord} {b : Bearer}
    (h : t.call = (x.bound z n r b).call) : BoundIn x t z n r b where
  callOf := by rw [State.callOf, h]; exact callOf_bound ..
  bearer := by rw [State.bearer, h]; exact (bearer_bound ..).trans (if_pos ⟨rfl, rfl⟩)
  freeQueue := by rw [h, freeQueue_bound]
  sameBut := by rw [h]; exact bound_sameBut ..

theorem newLeg_eq_seeded (s : State) (c : CellId) (k : SlotId) (level : Nat) (p : Profile) :
    s.newLeg c k level p.l = .seeded c k level s.timeBase p := rfl

theorem defaultProfile_eq_activeProfile (s : State) (c : CellId) (cls : MobClass) :
    s.defaultProfile c cls = s.tables.activeProfile c cls := by
  cases cls <;> rfl

theorem servingFor_eq (s : State) (z : Seize) (cls : MobClass) : s.servingFor z cls =
    (s.tables.activeProfile z.cell cls, .seeded z.cell z.slot z.level s.timeBase (s.tables.activeProfile z.cell cls)) := by
  rw [State.servingFor, defaultProfile_eq_activeProfile, newLeg_eq_seeded]

/-- R59: a FREE bearer is left as it is. -/
theorem freeBearer_free {s : State} {c : CellId} {k : SlotId} (h : s.bearer c k = .free) : s.freeBearer c k = s := by
  simp [State.freeBearer, h]

section

variable {v : State} {z : Seize}

/-! ### SEIZE for answer (R64) -/

theorem seizeForAnswer_paging {n : Circuit} (hc : v.findCall z.hid = some n) (hp : (v.callOf n).state = .paging) :
    let p := v.tables.activeProfile z.cell (v.callOf n).classOr
    v.seizeForAnswer z = ⟨(v.bound z n { v.callOf n with
      state := .active, serving := some (.seeded z.cell z.slot z.level v.timeBase p), profile := p, stageTimer := none
      pageStage := none, pageCell := none, summoned := [] } (.serving n)).placeExch (reachedFrame n z.cell), true⟩ := by
  simp [State.seizeForAnswer, hc, hp, State.acceptAnswer, servingFor_eq, State.bound, State.modCall,
    CallRecord.activate]

theorem seizeForAnswer_other (h : ∀ n, v.findCall z.hid = some n → (v.callOf n).state ≠ .paging) :
    v.seizeForAnswer z = v.deny z .notPaged := by
  simp only [State.seizeForAnswer]
  split
  · next n hn => rw [if_neg (h n hn)]
  · rfl

end

end Sys2Proof.Machine
end

section
namespace Sys2Proof.Machine
open Sys2Proof

/-- Settles O35: the page is looked for in the state of the handling, and an accepted answer is bound to its bearer. -/
theorem answerEndsThePage : Obligations.AnswerEndsThePage := by
  unfold Obligations.AnswerEndsThePage
  intro s c f k h level found ht hu hb hf
  have hfree : (s.takenFor (.cell c) h found).freeBearer c k = s.takenFor (.cell c) h found :=
    freeBearer_free (by rw [takenFor_bearer, hb])
  refine ⟨fun hno => ?_, fun n hn hp hfit => ?_⟩
  · refine seize_denied ht hf hu ?_
    rw [hfree]
    exact seizeForAnswer_other (z := ⟨c, k, h, level⟩) (by simpa using hno)
  · intro p
    have hans := seizeForAnswer_paging (v := s.takenFor (.cell c) h found) (z := ⟨c, k, h, level⟩) (n := n)
      (by simpa using hn) (by simpa using hp)
    simp only [takenFor_callOf, takenFor_tables, takenFor_timeBase] at hans
    obtain ⟨t, hx, hs⟩ := seize_accepted ht hf hu hfit (by rw [hfree]; exact hans)
    obtain ⟨hcall, hbearer, hqueue, hsame⟩ := boundIn hs.call
    rw [takenFor_call] at hqueue hsame
    refine ⟨t, hx, hcall, hbearer, hqueue, hsame, ?_, hs.queued, fun hroom => ?_, fun hup hroom => ?_, ?_, ?_⟩
    · cases found with
      | none => exact hs.missed rfl
      | some e => exact hs.located e rfl
    · exact takenFor_joins (hs.cells.trans (bound_cells ..)) rfl hu hroom
    · obtain ⟨w, hw, hsettles⟩ := hs.settles
      have := hsettles.placed_after hw
      rw [State.exchUp, bound_exch, takenFor_exch] at this
      exact this hup hroom
    · rw [hs.tables, State.placeExch_tables, bound_tables, takenFor_tables]
    · rw [hs.mem, State.placeExch_reg, bound_reg, takenFor_reg]

end Sys2Proof.Machine
end

section
/-! A SEIZE for move-in, its bearer freed, by the state of the handset's call (R73, R100 to R102). -/

namespace Sys2Proof.Machine

open Sys2Proof

section

variable {v : State} {z : Seize}

theorem seizeForMoveIn_none (hc : v.findCall z.hid = none) : v.seizeForMoveIn z = v.deny z .noCall := by
  simp [State.seizeForMoveIn, hc]

variable {n : Circuit} (hc : v.findCall z.hid = some n)

include hc

theorem seizeForMoveIn_paging (hp : (v.callOf n).state = .paging) : v.seizeForMoveIn z = v.deny z .noCall := by
  simp [State.seizeForMoveIn, hc, hp]

theorem seizeForMoveIn_bridged (hp : (v.callOf n).state = .bridged) : v.seizeForMoveIn z = v.deny z .bridgeBusy := by
  simp [State.seizeForMoveIn, hc, hp]

section

variable {d : CellId} (hp : (v.callOf n).state = .holding) (hl : (v.callOf n).lastServing = some d)

include hp hl

/-- R73: the neighbour entry of the cell that served the call last forbids the re-entry. -/
theorem seizeForMoveIn_holding_barred
    (hn : ((v.tables.neighbours.at d).at z.cell).of (v.callOf n).classOr = none) :
    v.seizeForMoveIn z = v.deny z .barredPath := by
  simp [State.seizeForMoveIn, hc, hp, State.reenter, hl, State.neighbour, hn]

/-- R73: the call is ACTIVE again on the bearer of the SEIZE. -/
theorem seizeForMoveIn_holding (hn : ((v.tables.neighbours.at d).at z.cell).of (v.callOf n).classOr ≠ none) :
    let p := v.tables.activeProfile z.cell (v.callOf n).classOr
    v.seizeForMoveIn z = ⟨v.bound z n { v.callOf n with
      state := .active, serving := some (.seeded z.cell z.slot z.level v.timeBase p), profile := p, holdTimer := none
      lastServing := none } (.serving n), true⟩ := by
  obtain ⟨i, hi⟩ := Option.ne_none_iff_exists'.1 hn
  simp [State.seizeForMoveIn, hc, hp, State.reenter, hl, State.neighbour, hi, State.acceptReentry, servingFor_eq,
    State.bound, State.modCall, CallRecord.activate]

end

variable {g : Leg} (hp : (v.callOf n).state = .active) (hg : (v.callOf n).serving = some g)

include hp hg

/-- R101: the neighbour entry of the serving cell forbids the move-in. -/
theorem seizeForMoveIn_active_barred
    (hn : ((v.tables.neighbours.at g.cell).at z.cell).of (v.callOf n).classOr = none) :
    v.seizeForMoveIn z = v.deny z .barredPath := by
  simp [State.seizeForMoveIn, hc, hp, hg, State.testMoveIn, State.neighbour, hn]

variable {i : ProfileId} (hn : ((v.tables.neighbours.at g.cell).at z.cell).of (v.callOf n).classOr = some i)

include hn

/-- R101: the kept report of the cell forbids the move-in. -/
theorem seizeForMoveIn_active_unsync
    (hr : ((v.cells.at z.cell).report.radio && (v.cells.at z.cell).report.sync) = false) :
    v.seizeForMoveIn z = v.deny z .cellUnsync := by
  have hr : (v.cells.at z.cell).report.admits = false := hr
  simp [State.seizeForMoveIn, hc, hp, hg, State.testMoveIn, State.neighbour, hn, hr]

/-- R102: the call is BRIDGED, with its candidate leg on the bearer of the SEIZE. -/
theorem seizeForMoveIn_active
    (hr : ((v.cells.at z.cell).report.radio && (v.cells.at z.cell).report.sync) = true) :
    let p := v.tables.profiles.at i
    v.seizeForMoveIn z = ⟨v.bound z n { v.callOf n with
      state := .bridged, serving := some { g with miss := 0 }
      candidate := some (.seeded z.cell z.slot z.level v.timeBase p), profile := p, dwell := 0
      bridgeTimer := some (v.timeBase + BitVec.ofNat 32 (p.b * 10))
      window := some ⟨g.expected, Table.all 4 ⟨none, none, none⟩⟩ } (.candidate n), true⟩ := by
  have hr : (v.cells.at z.cell).report.admits = true := hr
  simp [State.seizeForMoveIn, hc, hp, hg, State.testMoveIn, State.neighbour, hn, hr, State.enterBridge, State.bound,
    State.modCall, newLeg_eq_seeded]
  rfl

end

end Sys2Proof.Machine
end

section
namespace Sys2Proof.Machine
open Sys2Proof

/-- Settles O36: each refusal of the move-in, and the two accepted ones bound to the bearer. -/
theorem moveInStartsABridge : Obligations.MoveInStartsABridge := by
  unfold Obligations.MoveInStartsABridge
  intro s c f k h level found ht hu hb hf hfit denied granted
  let u := s.takenFor (.cell c) h found
  let z : Seize := ⟨c, k, h, level⟩
  have hfree : u.freeBearer c k = u := freeBearer_free (by simpa [u] using hb)
  have deny {x : DenyReason} (hx : u.seizeForMoveIn z = u.deny z x) : denied x :=
    seize_denied ht hf hu (by rw [show (s.takenFor (.cell c) h found).freeBearer c k = u from hfree]; exact hx)
  have grant {n : Circuit} {r : CallRecord} {b : Bearer} (hx : u.seizeForMoveIn z = ⟨u.bound z n r b, true⟩) :
      granted n r b := by
    obtain ⟨t, hexec, hs⟩ := seize_accepted ht hf hu hfit (v := u.bound z n r b) (by
      rw [show (s.takenFor (.cell c) h found).freeBearer c k = u from hfree]; exact hx)
    obtain ⟨hcall, hbearer, hqueue, hsame⟩ := boundIn hs.call
    rw [takenFor_call] at hqueue hsame
    refine ⟨t, hexec, hcall, hbearer, hqueue, hsame, fun hroom => ?_, ?_, hs.queued, ?_, ?_⟩
    · exact takenFor_joins (hs.cells.trans (bound_cells ..)) rfl hu hroom
    · cases found with
      | none => exact hs.missed rfl
      | some e => exact hs.located e rfl
    · rw [hs.tables, bound_tables, takenFor_tables]
    · rw [hs.mem, bound_reg, takenFor_reg]
  have hfind : u.findCall z.hid = s.findCall h := takenFor_findCall ..
  refine ⟨fun hn => deny (seizeForMoveIn_none (hfind.trans hn)), fun n hn => ?_⟩
  intro r
  have hc := hfind.trans hn
  have hr : u.callOf n = r := takenFor_callOf ..
  have htab : u.tables = s.tables := takenFor_tables ..
  have htime : u.timeBase = s.timeBase := takenFor_timeBase ..
  refine ⟨fun hp => deny (seizeForMoveIn_paging hc (hr ▸ hp)), fun hp => deny (seizeForMoveIn_bridged hc (hr ▸ hp)),
    fun d hp hl => ⟨fun he => ?_, fun he => ?_⟩, fun g hp hg => ⟨fun he => ?_, fun i hi => ?_⟩⟩
  · exact deny (seizeForMoveIn_holding_barred hc (hr ▸ hp) (hr ▸ hl) (by rw [hr, htab]; exact he))
  · have := seizeForMoveIn_holding hc (hr ▸ hp) (hr ▸ hl) (by rw [hr, htab]; exact he)
    rw [hr, htab, htime] at this
    exact grant this
  · exact deny (seizeForMoveIn_active_barred hc (hr ▸ hp) (hr ▸ hg) (by rw [hr, htab]; exact he))
  · have hreport : (u.cells.at c).report = (s.cells.at c).report := takenFor_report ..
    have hu' : ((u.tables.neighbours.at g.cell).at c).of (u.callOf n).classOr = some i := by rw [hr, htab]; exact hi
    intro p
    split
    · next hok =>
      have := seizeForMoveIn_active hc (hr ▸ hp) (hr ▸ hg) hu' (by rw [hreport]; exact hok)
      rw [hr, htab, htime] at this
      exact grant this
    · next hno =>
      exact deny (seizeForMoveIn_active_unsync hc (hr ▸ hp) (hr ▸ hg) hu' (by
        rw [hreport]; exact Bool.eq_false_iff.2 hno))

end Sys2Proof.Machine
end

section
/-! What freeing a bearer does to the Call Table (R59, R68): a RELEASING bearer lets its CLEARING call go, the loss of the
serving leg of an ACTIVE call leads to HOLDING (R72), and the loss of a leg of a BRIDGED call ends the bridge on the other
(R110, R111). -/

namespace Sys2Proof.Machine

open Sys2Proof

/-! ### The call of a HID -/

/-- R55: the call of a HID is found by the states and the HIDs of the calls alone. -/
theorem findCall_congr {s t : State}
    (hs : ∀ m, (t.callOf m).state.inCall = (s.callOf m).state.inCall)
    (hh : ∀ m, (s.callOf m).state.inCall = true → (t.callOf m).hid = (s.callOf m).hid) (h : Hid) :
    t.findCall h = s.findCall h := by
  have : (fun n => (t.callOf n).state.inCall && (t.callOf n).hid == some h) =
      fun n => (s.callOf n).state.inCall && (s.callOf n).hid == some h := by
    funext n
    rw [hs n]
    cases hc : (s.callOf n).state.inCall with
    | true => rw [hh n hc]
    | false => rfl
  rw [State.findCall, State.findCall, this]

/-- R55: one call changed, in a call before and after and of the same HID. -/
theorem findCall_changed {s t : State} {n : Circuit} (ho : ∀ m, m ≠ n → t.callOf m = s.callOf m)
    (hs : (t.callOf n).state.inCall = (s.callOf n).state.inCall)
    (hh : (s.callOf n).state.inCall = true → (t.callOf n).hid = (s.callOf n).hid) (h : Hid) :
    t.findCall h = s.findCall h := by
  refine findCall_congr (fun m => ?_) (fun m hm => ?_) h
  · by_cases hn : m = n
    · rw [hn, hs]
    · rw [ho m hn]
  · by_cases hn : m = n
    · subst hn; exact hh hm
    · rw [ho m hn]

theorem findCall_some {s : State} {h : Hid} {n : Circuit} (hf : s.findCall h = some n) :
    (s.callOf n).state.inCall = true ∧ (s.callOf n).hid = some h := by
  simpa using List.find?_some hf

theorem findCall_isSome {s : State} {h : Hid} {n : Circuit} (hs : (s.callOf n).state.inCall = true)
    (hh : (s.callOf n).hid = some h) : (s.findCall h).isSome = true := by
  rw [State.findCall, List.find?_isSome]
  exact ⟨n, mem_ascending n, by simp [hs, hh]⟩

/-! ### Captures -/

/-- R185: an enabled report joins a capture queue with room. -/
theorem capture_joins {s : State} {kind : CaptureKind} (d : CaptureDetail) (he : s.attn.captureEnables.of kind = true)
    (hl : s.attn.captures.length < 4) :
    (s.capture kind d).attn.captures = s.attn.captures ++ [⟨kind, s.timeBase, false, d⟩] := by
  simp [State.capture, he, joinCapture, Config.captureQueueSize, hl]

/-- A report changes no call, and reads none. -/
theorem modCall_capture (s : State) (kind : CaptureKind) (d : CaptureDetail) (n : Circuit)
    (f : CallRecord → CallRecord) : (s.capture kind d).modCall n f = (s.modCall n f).capture kind d := by
  cases he : s.attn.captureEnables.of kind <;> simp [State.capture, State.modCall, State.callOf, he]

/-! ### RELEASING bearers -/

theorem releasing_eq_false {s : State} {n : Circuit} : s.releasing n = false ↔ ∀ d j, s.bearer d j ≠ .releasing n := by
  simp only [State.releasing, List.any_eq_false, Vector.mem_toList_iff, Bool.not_eq_true, beq_eq_false_iff_ne]
  constructor
  · intro h d j
    exact h _ (Vector.getElem_mem d.isLt) _ (Vector.getElem_mem j.isLt)
  · intro h row hrow b hb
    obtain ⟨d, hd, rfl⟩ := Vector.getElem_of_mem hrow
    obtain ⟨j, hj, rfl⟩ := Vector.getElem_of_mem hb
    exact h ⟨d, hd⟩ ⟨j, hj⟩

theorem bearer_freeReleasing (s : State) (n : Circuit) (d : CellId) (j : SlotId) :
    (s.freeReleasing n).bearer d j = if s.bearer d j = .releasing n then .free else s.bearer d j := by
  simp only [State.bearer, State.freeReleasing, Table.at_map]
  rfl

section

variable {s : State} {c : CellId} {k : SlotId} {n : Circuit}

/-- R67: the CLEARING call of a RELEASING bearer waits for no other. -/
def State.lastReleasing (s : State) (c : CellId) (k : SlotId) (n : Circuit) : Prop :=
  (s.callOf n).state = .clearing ∧ ∀ d j, ¬(d = c ∧ j = k) → s.bearer d j ≠ .releasing n

theorem lastReleasing_iff : s.lastReleasing c k n ↔
    ((s.setBearer c k .free).callOf n).state = .clearing ∧ (s.setBearer c k .free).releasing n = false := by
  rw [callOf_setBearer, releasing_eq_false]
  refine and_congr_right fun _ => forall₂_congr fun d j => ?_
  rw [bearer_setBearer]
  split <;> simp_all

variable (hb : s.bearer c k = .releasing n)

include hb

theorem freeBearer_releasing_waits (hl : ¬s.lastReleasing c k n) : s.freeBearer c k = s.setBearer c k .free := by
  rw [State.freeBearer, hb]
  exact if_neg fun h => hl (lastReleasing_iff.2 h)

theorem freeBearer_releasing_last (hl : s.lastReleasing c k n) :
    s.freeBearer c k = { s.setBearer c k .free with call := { (s.setBearer c k .free).call with
      calls := s.call.calls.put n (.free (s.callOf n).profile), freeQueue := s.call.freeQueue ++ [n] } } := by
  rw [State.freeBearer, hb]
  refine (if_pos (lastReleasing_iff.1 hl)).trans ?_
  rw [State.toFree, if_neg (by simp [hl.1])]
  rfl

end

/-! ### Loss of the serving leg of an ACTIVE call (R72) -/

section

variable {s : State} {n : Circuit} (hh : s.tables.timing.hold ≠ 0) (g : Leg) (b : CallState) (q : Nat) (qc : Option Nat)

include hh

/-- R72: with a hold time the call is in HOLDING, its RELEASING bearers freed and the loss reported. -/
theorem enterHolding_eq : s.enterHolding n g b q qc =
    ((s.freeReleasing n).modCall n fun r => r.heldFrom g (s.timeBase + BitVec.ofNat 32 s.tables.timing.hold)).capture
      .legLost { circuit := some n, hid := (s.callOf n).hid, cell := some g.cell, slot := some g.slot.val
                 callState := some b, qServing := some q, qCandidate := qc } := by
  have hh' : (s.freeReleasing n).tables.timing.hold ≠ 0 := hh
  simp only [State.enterHolding, State.capture_tables, State.modCall_tables, if_neg hh', modCall_capture,
    modCall_modCall, State.after, State.capture_timeBase, State.modCall_timeBase]
  rfl

end

/-- What freeing the bearer (c, k), which carried a leg of call `n`, leaves: that call is now `r`, and the loss was
reported as `x`. -/
structure LosesLeg (s v : State) (c : CellId) (k : SlotId) (n : Circuit) (r : CallRecord) (x : Capture) : Prop where
  base : SameBase s v
  cells : v.cells = s.cells
  exch : v.exch = s.exch
  queue : v.call.freeQueue = s.call.freeQueue
  call : v.callOf n = r
  others : ∀ m, m ≠ n → v.callOf m = s.callOf m
  bearer : v.bearer c k = .free
  find : ∀ h, v.findCall h = s.findCall h
  report : s.attn.captureEnables.legLost = true → s.attn.captureEnables.handoverAbandoned = true →
    s.attn.captures.length < 4 → v.attn.captures = s.attn.captures ++ [x]

/-- R72: the serving leg of an ACTIVE call is lost. -/
theorem freeBearer_active {s : State} {c : CellId} {k : SlotId} {n : Circuit} {g : Leg}
    (hh : 0 < s.tables.timing.hold) (hb : s.bearer c k = .serving n) (ha : (s.callOf n).state = .active)
    (hg : (s.callOf n).serving = some g) (hc : g.cell = c) (hk : g.slot = k) :
    LosesLeg s (s.freeBearer c k) c k n
      ((s.callOf n).heldFrom g (s.timeBase + BitVec.ofNat 32 s.tables.timing.hold))
      (legLostOf (s.callOf n) n g none s.timeBase) := by
  subst hc hk
  have heq : s.freeBearer g.cell g.slot = (s.setBearer g.cell g.slot .free).enterHolding n g .active g.q none := by
    simp [State.freeBearer, hb, State.loseLeg, State.loseLegs, ha, hg]
  have hbase := base_freeBearer (s := s) g.cell g.slot
  rw [heq] at hbase ⊢
  rw [enterHolding_eq (by exact hh.ne')] at hbase ⊢
  have hothers (m : Circuit) (hm : m ≠ n) : (((s.setBearer g.cell g.slot .free).freeReleasing n).modCall n
      fun r => r.heldFrom g (s.timeBase + BitVec.ofNat 32 s.tables.timing.hold)).callOf m = s.callOf m :=
    (callOf_modCall_other _ _ hm).trans (callOf_setBearer s g.cell g.slot .free m)
  exact {
    base := hbase
    cells := by simp [State.freeReleasing, State.setBearer]
    exch := by simp [State.freeReleasing, State.setBearer]
    queue := by simp [State.freeReleasing, State.setBearer, State.modCall]
    call := by simp; rfl
    others := fun m hm => (callOf_capture ..).trans (hothers m hm)
    bearer := by simp [bearer_freeReleasing]
    find := findCall_changed (fun m hm => (callOf_capture ..).trans (hothers m hm))
      (by simp [CallRecord.heldFrom, CallState.inCall, ha]) (fun _ => by simp; rfl)
    report := fun he _ hl => by
      rw [capture_joins _ (by exact he) (by exact hl), legLostOf, ha]
      rfl }

/-! ### The end of a bridge by the loss of a leg (R110, R111) -/

/-- R110, R111: the bearer of the leg lost is freed and the call goes on with the leg kept. -/
theorem losesLeg_keepLeg {s : State} {n : Circuit} {lost kept : Leg} {kind : CaptureKind} (d : CaptureDetail) {x : Capture}
    (hs : (s.callOf n).state = .bridged) (hapart : ¬(lost.cell = kept.cell ∧ lost.slot = kept.slot))
    (hbase : SameBase s (((s.capture kind d).setBearer lost.cell lost.slot .free).keepLeg n kept))
    (hx : x = ⟨kind, s.timeBase, false, d⟩) (hk : kind = .legLost ∨ kind = .handoverAbandoned) :
    LosesLeg s (((s.capture kind d).setBearer lost.cell lost.slot .free).keepLeg n kept) lost.cell lost.slot n
      ((s.callOf n).closedOn kept ((s.callOf n).window.bind Window.base)
        (s.tables.activeProfile kept.cell (s.callOf n).classOr)) x := by
  have hcall := callOf_keepLeg_same ((s.capture kind d).setBearer lost.cell lost.slot .free) n kept
  have htables : ((s.capture kind d).setBearer lost.cell lost.slot .free).tables = s.tables := by simp
  rw [callOf_setBearer, callOf_capture, htables] at hcall
  have hothers (m : Circuit) (hm : m ≠ n) :
      (((s.capture kind d).setBearer lost.cell lost.slot .free).keepLeg n kept).callOf m = s.callOf m := by simp [hm]
  exact {
    base := hbase
    cells := by simp [State.keepLeg]
    exch := by simp [State.keepLeg]
    queue := by simp [State.keepLeg, State.setBearer, State.modCall]
    call := hcall
    others := hothers
    bearer := by rw [bearer_keepLeg, if_neg hapart, bearer_setBearer, if_pos ⟨rfl, rfl⟩]
    find := findCall_changed hothers (by rw [hcall, hs]; rfl) (fun _ => by rw [hcall]; rfl)
    report := fun hl ha hroom => by
      have he : s.attn.captureEnables.of kind = true := by rcases hk with rfl | rfl <;> assumption
      rw [hx, ← capture_joins d he hroom]
      simp [State.keepLeg] }

section

variable {s : State} {c : CellId} {k : SlotId} {n : Circuit} {sl cl : Leg} (hs : (s.callOf n).state = .bridged)
  (hsl : (s.callOf n).serving = some sl) (hcl : (s.callOf n).candidate = some cl)

include hs hsl hcl

/-- R111: the candidate leg of a BRIDGED call is lost. -/
theorem freeBearer_candidate (hb : s.bearer c k = .candidate n) (hapart : ¬(cl.cell = sl.cell ∧ cl.slot = sl.slot))
    (hc : cl.cell = c) (hk : cl.slot = k) :
    LosesLeg s (s.freeBearer c k) c k n ((s.callOf n).closedOn sl ((s.callOf n).window.bind Window.base)
      (s.tables.activeProfile sl.cell (s.callOf n).classOr)) (abandonedOf (s.callOf n) n sl cl s.timeBase) ∧
    (s.freeBearer c k).bearer sl.cell sl.slot = .serving n := by
  subst hc hk
  have heq : s.freeBearer cl.cell cl.slot = s.abandonByLoss n sl cl (sl.q, cl.q) := by
    simp [State.freeBearer, hb, State.loseLeg, State.loseLegs, hs, hsl, hcl]
    rfl
  have hbase := base_freeBearer (s := s) cl.cell cl.slot
  rw [heq] at hbase ⊢
  refine ⟨losesLeg_keepLeg _ hs hapart hbase ?_ (.inr rfl), ?_⟩
  · rw [abandonedOf, hs]
  · exact (bearer_keepLeg ..).trans (if_pos ⟨rfl, rfl⟩)

/-- R110: the serving leg of a BRIDGED call is lost. -/
theorem freeBearer_serving (hb : s.bearer c k = .serving n) (hapart : ¬(sl.cell = cl.cell ∧ sl.slot = cl.slot))
    (hc : sl.cell = c) (hk : sl.slot = k) :
    LosesLeg s (s.freeBearer c k) c k n ((s.callOf n).closedOn cl ((s.callOf n).window.bind Window.base)
      (s.tables.activeProfile cl.cell (s.callOf n).classOr)) (legLostOf (s.callOf n) n sl (some cl.q) s.timeBase) ∧
    (s.freeBearer c k).bearer cl.cell cl.slot = .serving n := by
  subst hc hk
  have heq : s.freeBearer sl.cell sl.slot = s.commitByLoss n sl cl (sl.q, cl.q) := by
    simp [State.freeBearer, hb, State.loseLeg, State.loseLegs, hs, hsl, hcl]
    rfl
  have hbase := base_freeBearer (s := s) sl.cell sl.slot
  rw [heq] at hbase ⊢
  refine ⟨losesLeg_keepLeg _ hs hapart hbase ?_ (.inl rfl), ?_⟩
  · rw [legLostOf, hs]
  · exact (bearer_keepLeg ..).trans (if_pos ⟨rfl, rfl⟩)

end

end Sys2Proof.Machine
end

section
/-! A SEIZE on a bearer that is not FREE (R59, R61, R103): on a RELEASING bearer it acts as on that bearer made FREE, and on
one that carries a leg that leg is lost first, whatever becomes of the SEIZE. -/

namespace Sys2Proof.Machine

open Sys2Proof

/-! ### Events of states with the same intake and another Call Table -/

/-- A state with another Call Table. -/
def State.withCalls (s : State) (x : CallTable) : State := { s with call := x }

/-- What the end of an event reads of the state it began in: the order of the READY contexts and the attention set. -/
theorem settle_withCalls (s t : State) (x : CallTable) : t.settle (s.withCalls x) = t.settle s := rfl

theorem touch_withCalls (s : State) (x : CallTable) (h : Hid) : (s.withCalls x).touch h = (s.touch h).withCalls x := by
  cases hh : (s.cache.at (cacheSetOf h)).hit h <;> simp [State.touch, State.withCalls, hh]

theorem takenFor_withCalls (s : State) (x : CallTable) (l : LinkId) (h : Hid) (found : Option CacheEntry) :
    (s.withCalls x).takenFor l h found = (s.takenFor l h found).withCalls x := by
  cases found with
  | none => cases l <;> rfl
  | some e =>
    have ht : (s.withCalls x).takeFrame l = (s.takeFrame l).withCalls x := by cases l <;> rfl
    rw [State.takenFor, State.takenFor, ht, touch_withCalls]

theorem TakesNext.withCalls {s : State} {l : LinkId} {f : Frame} {m : Msg} (h : TakesNext s l f m) (x : CallTable) :
    TakesNext (s.withCalls x) l f m :=
  ⟨h.held, h.ready, h.room, h.first, h.parsed, h.alone⟩

theorem Finds.withCalls {s : State} {h : Hid} {found : Option CacheEntry} (hf : s.Finds h found) (x : CallTable) :
    (s.withCalls x).Finds h found := by
  cases found with
  | none => exact hf
  | some e => exact hf

/-- R32: an action with the same outcome has the same effect where its write fits. -/
theorem actWith_congr {s t : State} {act : Act} {l : LinkId} {m : Msg} {e : CacheEntry}
    (ha : act s l m (some e.record) = act t l m (some e.record)) (hs : writeFits s.reg.writes e.addr = true)
    (ht : writeFits t.reg.writes e.addr = true) : s.actWith act l m e = t.actWith act l m e := by
  simp only [State.actWith, ha, hs, ht, if_true]

section

variable {s : State} {c : CellId} {f : Frame} {k : SlotId} {h : Hid} {p : Purpose} {level : Nat}
  {found : Option CacheEntry} (ht : TakesNext s (.cell c) f (.seize k h p level)) (hf : s.Finds h found)
  (hu : s.cellUp c = true) (hfit : ∀ e, found = some e → writeFits s.reg.writes e.addr = true)

include ht hf hu hfit

/-- R59: a SEIZE acts alike in two states that freeing its bearer makes the same. -/
theorem exec_seize_congr (x : CallTable) (hx : (s.takenFor (.cell c) h found).freeBearer c k =
      ((s.takenFor (.cell c) h found).withCalls x).freeBearer c k) :
    exec (Msg.seize k h p level).row s = exec (Msg.seize k h p level).row (s.withCalls x) := by
  obtain ⟨mine, act, hm, rfl, hexec⟩ := exec_takesHid (takesHid_row (m := .seize k h p level) rfl)
  have hup : (s.takenFor (.cell c) h found).cellUp c = true := (takenFor_cellUp ..).trans hu
  have hact (r : Option Record) :
      actOf (.seize k h p level) (s.takenFor (.cell c) h found) (.cell c) (.seize k h p level) r =
        actOf (.seize k h p level) ((s.takenFor (.cell c) h found).withCalls x) (.cell c) (.seize k h p level) r := by
    rw [actOf_seize hup, actOf_seize (s := (s.takenFor (.cell c) h found).withCalls x) hup, hx]
  have hturn : s.turn mine (actOf (.seize k h p level)) =
      (s.withCalls x).turn mine (actOf (.seize k h p level)) := by
    cases found with
    | none =>
      rw [turn_notFound ht rfl hf mine _ hm, turn_notFound (ht.withCalls x) rfl (Finds.withCalls hf x) mine _ hm,
        takenFor_withCalls, hact]
    | some e =>
      rw [turn_hit ht rfl hf mine _ hm, turn_hit (ht.withCalls x) rfl (Finds.withCalls hf x) mine _ hm,
        takenFor_withCalls]
      have hw : writeFits (s.takenFor (.cell c) h (some e)).reg.writes e.addr = true := by
        rw [takenFor_reg]; exact hfit e rfl
      exact congrArg some (actWith_congr (hact _) hw hw)
  rw [hexec, hexec, ← hturn, turn_frame ht mine _ hm]
  exact congrArg Host.Outcome.next (settle_withCalls s _ x).symm

variable {n : Circuit} (hb : s.bearer c k = .releasing n)

include hb

/-- R59: a SEIZE on a RELEASING bearer acts as on that bearer made FREE. -/
theorem exec_seize_waits (hl : ¬s.lastReleasing c k n) :
    exec (Msg.seize k h p level).row s = exec (Msg.seize k h p level).row (s.setBearer c k .free) := by
  refine exec_seize_congr ht hf hu hfit (s.setBearer c k .free).call ?_
  rw [freeBearer_releasing_waits ((takenFor_bearer ..).trans hb)
    (by simpa only [State.lastReleasing, takenFor_callOf, takenFor_bearer] using hl)]
  refine Eq.trans ?_ (freeBearer_free ?_).symm
  · simp only [State.setBearer, State.withCalls, takenFor_call]
  · exact (bearer_setBearer s c c k k .free).trans (if_pos ⟨rfl, rfl⟩)

/-- R59, R68: a SEIZE on the last RELEASING bearer of a CLEARING call acts as on that bearer made FREE and that call gone
to FREE. -/
theorem exec_seize_last (hl : s.lastReleasing c k n) :
    exec (Msg.seize k h p level).row s = exec (Msg.seize k h p level).row { s.setBearer c k .free with
      call := { (s.setBearer c k .free).call with
        calls := s.call.calls.put n (.free (s.callOf n).profile), freeQueue := s.call.freeQueue ++ [n] } } := by
  refine exec_seize_congr ht hf hu hfit { (s.setBearer c k .free).call with
    calls := s.call.calls.put n (.free (s.callOf n).profile), freeQueue := s.call.freeQueue ++ [n] } ?_
  rw [freeBearer_releasing_last ((takenFor_bearer ..).trans hb)
    (by simpa only [State.lastReleasing, takenFor_callOf, takenFor_bearer] using hl)]
  refine Eq.trans ?_ (freeBearer_free ?_).symm
  · simp only [State.setBearer, State.withCalls, takenFor_call, takenFor_callOf]
  · exact (bearer_setBearer s c c k k .free).trans (if_pos ⟨rfl, rfl⟩)

end

/-! ### SEIZE for origin (R63) -/

section

variable {v : State} {z : Seize} {r : Record} (hst : r.standing = .permitted) (hat : r.attach = .attached)

include hst hat

theorem seizeForOrigin_busy (hc : (v.findCall z.hid).isSome = true) :
    v.seizeForOrigin z (some r) = v.deny z .handsetBusy := by
  simp [State.seizeForOrigin, hst, hat, hc]

/-- R63: the call of the circuit at the head of the free queue is bound to the bearer. -/
theorem seizeForOrigin_accepts {n : Circuit} {rest : List Circuit} (hc : v.findCall z.hid = none) (hx : v.exchUp = true)
    (hq : v.call.freeQueue = n :: rest) :
    let p := v.tables.activeProfile z.cell r.mclass
    v.seizeForOrigin z (some r) = ⟨((v.withCalls { v.call with freeQueue := rest }).bound z n { CallRecord.free p with
      state := .active, hid := some z.hid, direction := some .outgoing, mclass := some r.mclass
      serving := some (.seeded z.cell z.slot z.level v.timeBase p) } (.serving n)).placeExch
        (originFrame n z.hid z.cell), true⟩ := by
  simp [State.seizeForOrigin, hst, hat, hc, hx, hq, State.acceptOrigin, servingFor_eq, State.bound, State.modCall,
    CallRecord.activate, CallRecord.free, State.withCalls]

end

/-! ### A SEIZE on a bearer that carries a leg -/

/-- A frame placed for a cell acts on the cell links alone. -/
theorem placeSig_cells {s t : State} (h : t.cells = s.cells) (c : CellId) (f : Frame) :
    (t.placeSig c f).cells = (s.placeSig c f).cells := by
  simp only [State.placeSig, State.modCell, h]

/-- What the event of a SEIZE on a bearer that carried a leg leaves beside the Call Table: the frame `f` placed for its
cell, and the loss reported as `x`. -/
structure SeizeAnswers (s t : State) (c : CellId) (f : Frame) (x : Capture) : Prop where
  sends : (s.cells.at c).sigQueue.length < 16 → (t.cells.at c).sigQueue = (s.cells.at c).sigQueue ++ [f]
  reports : s.attn.captureEnables.legLost = true → s.attn.captureEnables.handoverAbandoned = true →
    s.attn.captures.length < 4 → t.attn.captures = s.attn.captures ++ [x]

/-- The state in which the purpose of a SEIZE is handled: the message taken (R41) and its bearer freed (R59). -/
def State.seizedOn (s : State) (c : CellId) (k : SlotId) (h : Hid) (found : Option CacheEntry) : State :=
  (s.takenFor (.cell c) h found).freeBearer c k

/-- A SEIZE is handled in `v`, its bearer (c, k) having carried a leg of call `n`, which is now `r`; the loss was reported
as `x`. -/
structure LostFor (s v : State) (c : CellId) (k : SlotId) (n : Circuit) (r : CallRecord) (x : Capture) : Prop where
  tables : v.tables = s.tables
  timeBase : v.timeBase = s.timeBase
  exchUp : v.exchUp = s.exchUp
  admits : (v.cells.at c).report = (s.cells.at c).report
  queue : v.call.freeQueue = s.call.freeQueue
  call : v.callOf n = r
  others : ∀ m, m ≠ n → v.callOf m = s.callOf m
  bearer : v.bearer c k = .free
  find : ∀ h, v.findCall h = s.findCall h
  joins : ∀ (t : State) (f : Frame), t.cells = (v.placeSig c f).cells → s.cellUp c = true →
    (s.cells.at c).sigQueue.length < 16 → (t.cells.at c).sigQueue = (s.cells.at c).sigQueue ++ [f]
  report : s.attn.captureEnables.legLost = true → s.attn.captureEnables.handoverAbandoned = true →
    s.attn.captures.length < 4 → v.attn.captures = s.attn.captures ++ [x]

section

variable {s : State} {c : CellId} {f : Frame} {k : SlotId} {h : Hid} {p : Purpose} {level : Nat}
  {found : Option CacheEntry} {n : Circuit} {r : CallRecord} {x : Capture}

theorem LosesLeg.lostFor {v : State} (hl : LosesLeg (s.takenFor (.cell c) h found) v c k n r x) :
    LostFor s v c k n r x where
  tables := hl.base.tables.trans (takenFor_tables ..)
  timeBase := hl.base.timeBase.trans (takenFor_timeBase ..)
  exchUp := by rw [State.exchUp, hl.exch, takenFor_exch, State.exchUp]
  admits := by rw [hl.cells, takenFor_report]
  queue := by rw [hl.queue, takenFor_call]
  call := hl.call
  others m hm := (hl.others m hm).trans (takenFor_callOf ..)
  bearer := hl.bearer
  find g := (hl.find g).trans (takenFor_findCall ..)
  joins _ _ ht hu hroom := takenFor_joins ht hl.cells hu hroom
  report := by simpa only [takenFor_attn] using hl.report

/-- R72: the bearer carried the serving leg of an ACTIVE call. -/
theorem lostFor_active {g : Leg} (hh : 0 < s.tables.timing.hold) (hb : s.bearer c k = .serving n)
    (ha : (s.callOf n).state = .active) (hg : (s.callOf n).serving = some g) (hc : g.cell = c) (hk : g.slot = k) :
    LostFor s (s.seizedOn c k h found) c k n
      ((s.callOf n).heldFrom g (s.timeBase + BitVec.ofNat 32 s.tables.timing.hold))
      (legLostOf (s.callOf n) n g none s.timeBase) := by
  have := freeBearer_active (s := s.takenFor (.cell c) h found) (n := n) (g := g) (by simpa using hh)
    (by simpa using hb) (by simpa using ha) (by simpa using hg) hc hk
  simp only [takenFor_callOf, takenFor_tables, takenFor_timeBase] at this
  exact this.lostFor

section

variable {sl cl lost kept : Leg} (hs : (s.callOf n).state = .bridged) (hsl : (s.callOf n).serving = some sl)
  (hcl : (s.callOf n).candidate = some cl) (hapart : ¬(sl.cell = cl.cell ∧ sl.slot = cl.slot))
  (hb : s.bearer c k = .candidate n ∧ lost = cl ∧ kept = sl ∨ s.bearer c k = .serving n ∧ lost = sl ∧ kept = cl)
  (hc : lost.cell = c) (hk : lost.slot = k)

include hs hsl hcl hapart hb hc hk

/-- R110, R111: the bearer carried a leg of a BRIDGED call, which goes on with the other. -/
theorem lostFor_bridged :
    LostFor s (s.seizedOn c k h found) c k n ((s.callOf n).closedOn kept ((s.callOf n).window.bind Window.base)
      (s.tables.activeProfile kept.cell (s.callOf n).classOr))
      (if s.bearer c k = .serving n then legLostOf (s.callOf n) n sl (some cl.q) s.timeBase
        else abandonedOf (s.callOf n) n sl cl s.timeBase) ∧
    (s.seizedOn c k h found).bearer kept.cell kept.slot = .serving n ∧ ¬(kept.cell = c ∧ kept.slot = k) := by
  rcases hb with ⟨hb, rfl, rfl⟩ | ⟨hb, rfl, rfl⟩
  · have := freeBearer_candidate (s := s.takenFor (.cell c) h found) (n := n) (sl := kept) (cl := lost) (by simpa using hs)
      (by simpa using hsl) (by simpa using hcl) (by simpa using hb) (fun h => hapart ⟨h.1.symm, h.2.symm⟩) hc hk
    simp only [takenFor_callOf, takenFor_tables, takenFor_timeBase] at this
    rw [if_neg (by simp [hb])]
    exact ⟨this.1.lostFor, this.2, by rw [← hc, ← hk]; exact hapart⟩
  · have := freeBearer_serving (s := s.takenFor (.cell c) h found) (n := n) (sl := lost) (cl := kept) (by simpa using hs)
      (by simpa using hsl) (by simpa using hcl) (by simpa using hb) hapart hc hk
    simp only [takenFor_callOf, takenFor_tables, takenFor_timeBase] at this
    rw [if_pos hb]
    exact ⟨this.1.lostFor, this.2, by rw [← hc, ← hk]; exact fun h => hapart ⟨h.1.symm, h.2.symm⟩⟩

end

variable (ht : TakesNext s (.cell c) f (.seize k h p level)) (hf : s.Finds h found) (hu : s.cellUp c = true)
  (hl : LostFor s (s.seizedOn c k h found) c k n r x)

include ht hf hu hl

/-- R61: a SEIZE refused after the loss of the leg that its bearer carried. -/
theorem lostFor_denied {reason : DenyReason}
    (ha : (s.seizedOn c k h found).handle ⟨c, k, h, level⟩ (found.map CacheEntry.record) p =
      (s.seizedOn c k h found).deny ⟨c, k, h, level⟩ reason) :
    ∃ t, exec (Msg.seize k h p level).row s = .next t ∧ t.call = (s.seizedOn c k h found).call ∧
      SeizeAnswers s t c (denyFrame k h reason) x := by
  obtain ⟨t, hx, hs⟩ := seize_denied ht hf hu ha
  refine ⟨t, hx, hs.call, hl.joins t _ hs.cells hu, fun h1 h2 h3 => ?_⟩
  rw [hs.attn]
  exact hl.report h1 h2 h3

/-- R61: a SEIZE accepted for call `m` after the loss of the leg that its bearer carried; `y` is the state of its handling,
with the free queue that the call leaves, and `w` what the acceptance makes of it. -/
theorem lostFor_accepted (hfit : ∀ e, found = some e → writeFits s.reg.writes e.addr = true) {y w : State} {m : Circuit}
    {q : CallRecord} {b : Bearer} (hy : y.cells = (s.seizedOn c k h found).cells)
    (hattn : y.attn = (s.seizedOn c k h found).attn) (hw : w = y.bound ⟨c, k, h, level⟩ m q b ∨
      ∃ fr, w = (y.bound ⟨c, k, h, level⟩ m q b).placeExch fr)
    (ha : (s.seizedOn c k h found).handle ⟨c, k, h, level⟩ (found.map CacheEntry.record) p = ⟨w, true⟩) :
    ∃ t, exec (Msg.seize k h p level).row s = .next t ∧ BoundIn y t ⟨c, k, h, level⟩ m q b ∧
      SeizeAnswers s t c (grantFrame k h) x := by
  obtain ⟨t, hx, hs⟩ := seize_accepted ht hf hu hfit ha
  have hcall : w.call = (y.bound ⟨c, k, h, level⟩ m q b).call := by rcases hw with rfl | ⟨fr, rfl⟩ <;> rfl
  have hcells : w.cells = (y.bound ⟨c, k, h, level⟩ m q b).cells := by rcases hw with rfl | ⟨fr, rfl⟩ <;> rfl
  have hw : w.attn = y.attn := by rcases hw with rfl | ⟨fr, rfl⟩ <;> simp
  refine ⟨t, hx, boundIn (hs.call.trans hcall), hl.joins t _ ?_ hu, fun h1 h2 h3 => ?_⟩
  · rw [hs.cells, hcells, bound_cells, placeSig_cells hy]
  · rw [hs.captures, hw, hattn]
    exact hl.report h1 h2 h3

end

end Sys2Proof.Machine
end

section
/-! The cases of a SEIZE on a bearer that carries a leg, by its purpose (R63, R64, R73, R101 to R103), and the acceptance of
one on a bearer that carries none (R15). -/

namespace Sys2Proof.Machine

open Sys2Proof

/-! ### A bearer that carries no leg -/

/-- A SEIZE is handled in `v`, its bearer having carried no leg: no call that holds a HID has changed, and no circuit has
left the free queue. -/
structure IdleFor (s v : State) (c : CellId) : Prop where
  tables : v.tables = s.tables
  exchUp : v.exchUp = s.exchUp
  admits : (v.cells.at c).report = (s.cells.at c).report
  queue : ∃ l, v.call.freeQueue = s.call.freeQueue ++ l
  calls : ∀ m, (s.callOf m).state.inCall = true → v.callOf m = s.callOf m
  find : ∀ h, v.findCall h = s.findCall h

theorem idleFor {s : State} {c : CellId} {k : SlotId} (h : Hid) (found : Option CacheEntry)
    (hb : s.bearer c k = .free ∨ ∃ n, s.bearer c k = .releasing n) : IdleFor s (s.seizedOn c k h found) c := by
  rcases hb with hb | ⟨n, hb⟩
  · rw [State.seizedOn, freeBearer_free ((takenFor_bearer ..).trans hb)]
    exact ⟨takenFor_tables .., takenFor_exchUp .., takenFor_report .., ⟨[], by rw [takenFor_call, List.append_nil]⟩,
      fun m _ => takenFor_callOf .., fun g => takenFor_findCall ..⟩
  · have hb' : (s.takenFor (.cell c) h found).bearer c k = .releasing n := (takenFor_bearer ..).trans hb
    by_cases hl : (s.takenFor (.cell c) h found).lastReleasing c k n
    · rw [State.seizedOn, freeBearer_releasing_last hb' hl]
      simp only [takenFor_call, takenFor_callOf]
      have hst : (s.callOf n).state = .clearing := by simpa using hl.1
      have hsame : (s.call.calls.put n (.free (s.callOf n).profile)).at n = .free (s.callOf n).profile :=
        Table.at_put_same ..
      have hother (m : Circuit) (hm : m ≠ n) :
          (s.call.calls.put n (.free (s.callOf n).profile)).at m = s.callOf m := Table.at_put_other _ _ hm
      refine ⟨takenFor_tables .., takenFor_exchUp .., takenFor_report .., ⟨[n], rfl⟩, fun m hm => hother m ?_,
        fun g => findCall_changed hother ?_ ?_ g⟩
      · rintro rfl
        rw [hst] at hm
        cases hm
      · rw [hst]
        exact congrArg (fun r : CallRecord => r.state.inCall) hsame
      · rw [hst]
        exact fun hn => by cases hn
    · rw [State.seizedOn, freeBearer_releasing_waits hb' hl]
      exact ⟨takenFor_tables .., takenFor_exchUp .., takenFor_report .., ⟨[], by
        rw [List.append_nil]; exact (congrArg CallTable.freeQueue (takenFor_call s c h found) :)⟩, fun m _ => by simp,
        fun g => findCall_congr (by simp) (by simp) g⟩

/-- R63, R64, R101: what the purpose of a SEIZE asks of the state in order to be accepted, the record found being PERMITTED. -/
def State.accepts (s : State) (c : CellId) (h : Hid) (r : Record) : Purpose → Prop
  | .origin => r.attach = .attached ∧ s.findCall h = none ∧ s.exchUp = true ∧ s.call.freeQueue ≠ []
  | .answer => ∃ n, s.findCall h = some n ∧ (s.callOf n).state = .paging
  | .moveIn => ∃ n g, s.findCall h = some n ∧ (s.callOf n).state = .active ∧ (s.callOf n).serving = some g ∧
      ((s.tables.neighbours.at g.cell).at c).of (s.callOf n).classOr ≠ none ∧
      ((s.cells.at c).report.radio && (s.cells.at c).report.sync) = true

/-- R61: such a SEIZE is accepted. -/
theorem handle_accepted {v : State} {c : CellId} {h : Hid} {r : Record} (hst : r.standing = .permitted) {p : Purpose}
    (ha : v.accepts c h r p) (k : SlotId) (level : Nat) : (v.handle ⟨c, k, h, level⟩ (some r) p).accepted = true := by
  cases p with
  | origin =>
    obtain ⟨hat, hc, hx, hq⟩ := ha
    obtain ⟨n, rest, hq⟩ := List.exists_cons_of_ne_nil hq
    exact congrArg Handled.accepted (seizeForOrigin_accepts (z := ⟨c, k, h, level⟩) hst hat hc hx hq)
  | answer =>
    obtain ⟨n, hc, hp⟩ := ha
    exact congrArg Handled.accepted (seizeForAnswer_paging (z := ⟨c, k, h, level⟩) hc hp)
  | moveIn =>
    obtain ⟨n, g, hc, hp, hg, hn, hr⟩ := ha
    obtain ⟨i, hi⟩ := Option.ne_none_iff_exists'.1 hn
    exact congrArg Handled.accepted (seizeForMoveIn_active (z := ⟨c, k, h, level⟩) hc hp hg hi hr)

/-- A bearer freed that carried no leg changes nothing of what a purpose asks. -/
theorem IdleFor.accepts {s v : State} {c : CellId} {h : Hid} {r : Record} {p : Purpose} (hv : IdleFor s v c)
    (ha : s.accepts c h r p) : v.accepts c h r p := by
  cases p with
  | origin =>
    obtain ⟨hat, hc, hx, hq⟩ := ha
    obtain ⟨l, hl⟩ := hv.queue
    exact ⟨hat, (hv.find h).trans hc, hv.exchUp.trans hx, by simp [hl, hq]⟩
  | answer =>
    obtain ⟨n, hc, hp⟩ := ha
    exact ⟨n, (hv.find h).trans hc, by rw [hv.calls n (findCall_some hc).1, hp]⟩
  | moveIn =>
    obtain ⟨n, g, hc, hp, hg, hn, hr⟩ := ha
    have hcall := hv.calls n (findCall_some hc).1
    exact ⟨n, g, (hv.find h).trans hc, by rw [hcall, hp], by rw [hcall, hg], by rw [hcall, hv.tables]; exact hn,
      by rw [hv.admits]; exact hr⟩

/-! ### A bearer that carries a leg, by the purpose of the SEIZE -/

section

variable {s : State} {c : CellId} {f : Frame} {k : SlotId} {h : Hid} {level : Nat} {found : Option CacheEntry}
  {n : Circuit} {r : CallRecord} {x : Capture} (hf : s.Finds h found) (hu : s.cellUp c = true)
  (hl : LostFor s (s.seizedOn c k h found) c k n r x)

include hf hu hl

section

variable (ht : TakesNext s (.cell c) f (.seize k h .origin level))

include ht

/-- R63: an origin refused, of a HID that is not found or that holds the call itself. -/
theorem origin_refused (hr : r.state.inCall = true)
    (hno : found = none ∨ r.hid = some h ∧ ∃ e, found = some e ∧ e.record.standing = .permitted ∧
      e.record.attach = .attached) :
    ∃ t, exec .seizeOrigin s = .next t ∧ t.call = (s.seizedOn c k h found).call ∧
      SeizeAnswers s t c (denyFrame k h (if found = none then .unknown else .handsetBusy)) x := by
  refine lostFor_denied (p := .origin) ht hf hu hl ?_
  rcases hno with rfl | ⟨hh, e, rfl, hst, hat⟩
  · rfl
  · exact seizeForOrigin_busy hst hat (findCall_isSome (by rw [hl.call, hr]) (by rw [hl.call, hh]))

/-- R63: an origin accepted for a handset without a call. -/
theorem origin_accepted (hfit : ∀ e, found = some e → writeFits s.reg.writes e.addr = true) {e : CacheEntry}
    {m : Circuit} {rest : List Circuit} (hfound : found = some e) (hst : e.record.standing = .permitted)
    (hat : e.record.attach = .attached) (hc : s.findCall h = none) (hx : s.exchUp = true)
    (hq : s.call.freeQueue = m :: rest) (hm : m ≠ n) :
    ∃ t, exec .seizeOrigin s = .next t ∧ t.callOf n = r ∧ (t.callOf m).state = .active ∧ (t.callOf m).hid = some h ∧
      (t.callOf m).serving = some (.seeded c k level s.timeBase (s.tables.activeProfile c e.record.mclass)) ∧
      t.bearer c k = .serving m ∧ SeizeAnswers s t c (grantFrame k h) x := by
  subst hfound
  have ha := seizeForOrigin_accepts (v := s.seizedOn c k h (some e)) (z := ⟨c, k, h, level⟩) hst hat
    ((hl.find h).trans hc) (hl.exchUp.trans hx) (hl.queue.trans hq)
  simp only [hl.tables, hl.timeBase] at ha
  obtain ⟨t, hx, hb, hans⟩ := lostFor_accepted (p := .origin) (y := (s.seizedOn c k h (some e)).withCalls
    { (s.seizedOn c k h (some e)).call with freeQueue := rest }) ht hf hu hl hfit rfl rfl (.inr ⟨_, rfl⟩) ha
  exact ⟨t, hx, (hb.sameBut.1 n hm.symm).trans hl.call, by rw [hb.callOf], by rw [hb.callOf], by rw [hb.callOf],
    hb.bearer, hans⟩

end

/-- R64: an answer accepted for a paged handset. -/
theorem answer_accepted (ht : TakesNext s (.cell c) f (.seize k h .answer level))
    (hfit : ∀ e, found = some e → writeFits s.reg.writes e.addr = true) {m : Circuit} (hc : s.findCall h = some m)
    (hp : (s.callOf m).state = .paging) (hm : m ≠ n) :
    ∃ t, exec .seizeAnswer s = .next t ∧ t.callOf n = r ∧ (t.callOf m).state = .active ∧
      (t.callOf m).serving = some (.seeded c k level s.timeBase (s.tables.activeProfile c (s.callOf m).classOr)) ∧
      t.bearer c k = .serving m ∧ SeizeAnswers s t c (grantFrame k h) x := by
  have hcall := hl.others m hm
  have ha := seizeForAnswer_paging (v := s.seizedOn c k h found) (z := ⟨c, k, h, level⟩) ((hl.find h).trans hc)
    (by rw [hcall, hp])
  simp only [hl.tables, hl.timeBase, hcall] at ha
  obtain ⟨t, hx, hb, hans⟩ := lostFor_accepted (p := .answer) ht hf hu hl hfit rfl rfl (.inr ⟨_, rfl⟩) ha
  exact ⟨t, hx, (hb.sameBut.1 n hm.symm).trans hl.call, by rw [hb.callOf], by rw [hb.callOf], hb.bearer, hans⟩

section

variable (ht : TakesNext s (.cell c) f (.seize k h .moveIn level))

include ht

/-- R61: a move-in refused leaves the call as the loss left it. -/
theorem moveIn_refused {reason : DenyReason} (ha : (s.seizedOn c k h found).seizeForMoveIn ⟨c, k, h, level⟩ =
      (s.seizedOn c k h found).deny ⟨c, k, h, level⟩ reason) :
    ∃ t, exec .seizeMoveIn s = .next t ∧ (∀ m, m ≠ n → t.callOf m = s.callOf m) ∧ t.callOf n = r ∧
      (∀ d j, t.bearer d j = (s.seizedOn c k h found).bearer d j) ∧ SeizeAnswers s t c (denyFrame k h reason) x := by
  obtain ⟨t, hx, hcall, hans⟩ := lostFor_denied (p := .moveIn) ht hf hu hl ha
  have hcalls (m : Circuit) : t.callOf m = (s.seizedOn c k h found).callOf m := by rw [State.callOf, hcall, State.callOf]
  exact ⟨t, hx, fun m hm => (hcalls m).trans (hl.others m hm), (hcalls n).trans hl.call,
    fun d j => by rw [State.bearer, hcall, State.bearer], hans⟩

/-- R61: a move-in accepted takes the call on from what the loss left. -/
theorem moveIn_accepted (hfit : ∀ e, found = some e → writeFits s.reg.writes e.addr = true) {q : CallRecord}
    {b : Bearer} (ha : (s.seizedOn c k h found).seizeForMoveIn ⟨c, k, h, level⟩ =
      ⟨(s.seizedOn c k h found).bound ⟨c, k, h, level⟩ n q b, true⟩) :
    ∃ t, exec .seizeMoveIn s = .next t ∧ (∀ m, m ≠ n → t.callOf m = s.callOf m) ∧ t.callOf n = q ∧
      t.bearer c k = b ∧ (∀ d j, ¬(d = c ∧ j = k) → t.bearer d j = (s.seizedOn c k h found).bearer d j) ∧
      SeizeAnswers s t c (grantFrame k h) x := by
  obtain ⟨t, hx, hb, hans⟩ := lostFor_accepted (p := .moveIn) ht hf hu hl hfit rfl rfl (.inl rfl) ha
  exact ⟨t, hx, fun m hm => (hb.sameBut.1 m hm).trans (hl.others m hm), hb.callOf, hb.bearer, hb.sameBut.2, hans⟩

end

end

end Sys2Proof.Machine
end

section
namespace Sys2Proof.Machine
open Sys2Proof

/-- Settles O37: by what the bearer of the SEIZE carried. -/
theorem seizeFreesItsBearerFirst : Obligations.SeizeFreesItsBearerFirst := by
  unfold Obligations.SeizeFreesItsBearerFirst
  intro s c f k h p level found ht hf row u fits expiry sends reports
  refine ⟨fun hu => seize_stray ht hf hu, fun hu hfit n hb => ?_, fun hu hfit hh n g hb ha hg hc hk => ?_,
    fun hp hu hfit n sl cl lost kept hfind hs hsl hcl hapart hb hc hk => ?_, fun e hu he hst hne hfull hport hb hacc => ?_⟩
  · intro free last
    exact ⟨fun hl => exec_seize_waits ht hf hu hfit hb hl, fun hl => exec_seize_last ht hf hu hfit hb hl⟩
  · have hl := lostFor_active (h := h) (found := found) hh hb ha hg hc hk
    refine ⟨fun hp hno => ?_, fun e m rest hp he hst hat hfind hx hq hm => ?_, fun m hp hfind hpage => ?_,
      fun hp hfind => ?_⟩
    · subst hp
      obtain ⟨t, hx, hcall, hans⟩ := origin_refused hf hu hl ht rfl hno
      refine ⟨t, hx, ?_, ?_, fun m hm => ?_, ?_, hans.sends, hans.reports⟩
      · rw [State.callOf, hcall]; exact hl.call
      · rw [State.bearer, hcall]; exact hl.bearer
      · rw [State.callOf, hcall]; exact hl.others m hm
      · rw [hcall]; exact hl.queue
    · subst hp
      obtain ⟨t, hx, hn, hm, hh, hg, hb, hans⟩ := origin_accepted hf hu hl ht hfit he hst hat hfind hx hq hm
      exact ⟨t, hx, hn, hm, hh, hg, hb, hans.sends, hans.reports⟩
    · subst hp
      have hm : m ≠ n := by
        rintro rfl
        rw [ha] at hpage
        cases hpage
      obtain ⟨t, hx, hn, hm, hg, hb, hans⟩ := answer_accepted hf hu hl ht hfit hfind hpage hm
      exact ⟨t, hx, hn, hm, hg, hb, hans.sends, hans.reports⟩
    · subst hp hc
      intro q
      have hfind := (hl.find h).trans hfind
      have hstate : ((s.seizedOn g.cell k h found).callOf n).state = .holding := by rw [hl.call]; rfl
      have hlast : ((s.seizedOn g.cell k h found).callOf n).lastServing = some g.cell := by rw [hl.call]; rfl
      have hclass : ((s.seizedOn g.cell k h found).callOf n).classOr = (s.callOf n).classOr := by rw [hl.call]; rfl
      by_cases hn : ((s.tables.neighbours.at g.cell).at g.cell).of (s.callOf n).classOr = none
      · obtain ⟨t, hx, ho, hcall, hbear, hans⟩ := moveIn_refused hf hu hl ht
          (seizeForMoveIn_holding_barred hfind hstate hlast (by rw [hclass, hl.tables]; exact hn))
        exact ⟨t, hx, ho, hans.reports, fun _ => ⟨hcall, (hbear ..).trans hl.bearer, hans.sends⟩, fun hno => absurd hn hno⟩
      · have hacc := seizeForMoveIn_holding (z := ⟨g.cell, k, h, level⟩) hfind hstate hlast
          (by rw [hclass, hl.tables]; exact hn)
        rw [hl.tables, hl.timeBase, hclass, hl.call] at hacc
        obtain ⟨t, hx, ho, hcall, hbear, _, hans⟩ := moveIn_accepted hf hu hl ht hfit hacc
        exact ⟨t, hx, ho, hans.reports, fun hno => absurd hno hn, fun _ => ⟨hcall, hbear, hans.sends⟩⟩
  · subst hp
    intro base r entry
    obtain ⟨hl, hkept, hother⟩ := lostFor_bridged (h := h) (found := found) hs hsl hcl hapart hb hc hk
    have hfind := (hl.find h).trans hfind
    have hstate : ((s.seizedOn c k h found).callOf n).state = .active := by rw [hl.call]; rfl
    have hserving : ((s.seizedOn c k h found).callOf n).serving = some { kept with expected := base, miss := 0 } := by
      rw [hl.call]; rfl
    have hclass : ((s.seizedOn c k h found).callOf n).classOr = (s.callOf n).classOr := by rw [hl.call]; rfl
    cases he : entry with
    | none =>
      obtain ⟨t, hx, ho, hcall, hbear, hans⟩ := moveIn_refused hf hu hl ht
        (seizeForMoveIn_active_barred hfind hstate hserving (by rw [hclass, hl.tables]; exact he))
      exact ⟨t, hx, ho, (hbear ..).trans hkept, hans.reports,
        fun _ => ⟨hcall, (hbear ..).trans hl.bearer, hans.sends⟩, fun i hi => by cases hi⟩
    | some i =>
      have hentry : (((s.seizedOn c k h found).tables.neighbours.at kept.cell).at c).of
          ((s.seizedOn c k h found).callOf n).classOr = some i := by rw [hclass, hl.tables]; exact he
      cases hr : (s.cells.at c).report.radio && (s.cells.at c).report.sync with
      | false =>
        obtain ⟨t, hx, ho, hcall, hbear, hans⟩ := moveIn_refused hf hu hl ht
          (seizeForMoveIn_active_unsync hfind hstate hserving hentry (by rw [hl.admits]; exact hr))
        exact ⟨t, hx, ho, (hbear ..).trans hkept, hans.reports, fun hno => by (cases hno), fun _ _ hno => by (cases hno)⟩
      | true =>
        have hacc := seizeForMoveIn_active (z := ⟨c, k, h, level⟩) hfind hstate hserving hentry
          (by rw [hl.admits]; exact hr)
        rw [hl.tables, hl.timeBase, hl.call] at hacc
        obtain ⟨t, hx, ho, hcall, hbear, hbears, hans⟩ := moveIn_accepted hf hu hl ht hfit hacc
        refine ⟨t, hx, ho, (hbears _ _ hother).trans hkept, hans.reports, fun hno => by (cases hno), fun j hj _ => ?_⟩
        cases hj
        exact ⟨hcall, hbear, hans.sends⟩
  · have hacc : s.accepts c h e.record p := by cases p <;> exact hacc
    subst he
    exact seize_held ht hf hu rfl hne hfull hport (handle_accepted hst ((idleFor h (some e) hb).accepts hacc) k level)

end Sys2Proof.Machine
end

section
/-! The discard of a malformed message (R43, R44): the work it is, the flag and the capture it leaves (R146, R186), and
what the end of its event keeps of them (R183). -/

namespace Sys2Proof.Machine

open Sys2Proof

variable (s : State)

/-! ### The PROTOCOL limit mark and the link unit -/

@[simp] theorem limit_setLimit (l : LinkId) (b : Bool) : (s.setLimit l b).limit l = b := by
  cases l <;> simp [State.setLimit, State.limit]

@[simp] theorem captures_setLimit (l : LinkId) (b : Bool) : (s.setLimit l b).attn.captures = s.attn.captures := by
  cases l <;> rfl

theorem limit_congr {s t : State} (hc : t.attn.cellLimits = s.attn.cellLimits)
    (hx : t.attn.exchLimit = s.attn.exchLimit) (l : LinkId) : t.limit l = s.limit l := by
  cases l <;> simp only [State.limit, hc, hx]

theorem unit_congr {s t : State} (hc : t.cells = s.cells) (hx : t.exch = s.exch) (l : LinkId) :
    t.unit l = s.unit l := by
  cases l <;> simp only [State.unit, hc, hx]

/-- A frame placed on the exchange link changes at most the TX_OVERFLOW flag of a link unit. -/
theorem unit_placeExch (f : Frame) (l : LinkId) :
    (s.placeExch f).unit l = s.unit l ∨ (s.placeExch f).unit l = (s.unit l).setTxOverflow := by
  cases l with
  | cell c => exact .inl (by simp [State.unit])
  | exchange =>
    simp only [State.unit, placeExch_exch]
    split
    · split
      · exact .inl rfl
      · exact .inr rfl
    · exact .inl rfl

/-- The judgement of the attention set changes at most the TX_OVERFLOW flag of a link unit. -/
theorem unit_judgeAttention (before : State) (l : LinkId) :
    (s.judgeAttention before).unit l = s.unit l ∨ (s.judgeAttention before).unit l = (s.unit l).setTxOverflow := by
  have hpin (u : State) : u.setPin.unit l = u.unit l := unit_congr rfl rfl l
  simp only [State.judgeAttention, hpin]
  split
  · exact unit_placeExch s attentionFrame l
  · exact .inl rfl

@[simp] theorem rxFifo_judgeAttention (before : State) (l : LinkId) :
    ((s.judgeAttention before).unit l).rxFifo = (s.unit l).rxFifo := by
  obtain h | h := unit_judgeAttention s before l
  · rw [h]
  · rw [h]
    rfl

@[simp] theorem protocolFlag_judgeAttention (before : State) (l : LinkId) :
    ((s.judgeAttention before).unit l).flags.protocol = (s.unit l).flags.protocol := by
  obtain h | h := unit_judgeAttention s before l
  · rw [h]
  · rw [h]
    rfl

@[simp] theorem limit_judgeAttention (before : State) (l : LinkId) : (s.judgeAttention before).limit l = s.limit l :=
  limit_congr (by rw [judgeAttention_attn]) (by rw [judgeAttention_attn]) l

@[simp] theorem captures_judgeAttention (before : State) :
    (s.judgeAttention before).attn.captures = s.attn.captures := by
  rw [judgeAttention_attn]

/-! ### The PROTOCOL flag and its capture -/

section

variable {s : State} {l : LinkId}

/-- R186: with the kind enabled and the limit mark clear, a capture is made and the mark set. -/
theorem protocolError_reports (he : s.attn.captureEnables.protocol = true) (hm : s.limit l = false) (k : Option SlotId)
    (h : Option Hid) : s.protocolError l k h =
      ((s.modUnit l LinkUnit.setProtocol).capture .protocol
        { cell := linkCell l, slot := k.map Fin.val, hid := h }).setLimit l true := by
  have hm' : (s.modUnit l LinkUnit.setProtocol).limit l = false := by rw [limit_congr (s := s) (by simp) (by simp), hm]
  simp [State.protocolError, he, hm']

/-- R186: with the kind disabled or the limit mark set, the PROTOCOL flag is all that is set. -/
theorem protocolError_silent (hq : s.attn.captureEnables.protocol = false ∨ s.limit l = true) (k : Option SlotId)
    (h : Option Hid) : s.protocolError l k h = s.modUnit l LinkUnit.setProtocol := by
  have hm : (s.modUnit l LinkUnit.setProtocol).limit l = s.limit l := limit_congr (by simp) (by simp) l
  rcases hq with hq | hq <;> simp [State.protocolError, hm, hq]

end

/-- R146: the PROTOCOL flag of the link is set, whether or not a capture is made. -/
@[simp] theorem unit_protocolError (l : LinkId) (k : Option SlotId) (h : Option Hid) :
    (s.protocolError l k h).unit l = (s.unit l).setProtocol := by
  by_cases hq : s.attn.captureEnables.protocol = false ∨ s.limit l = true
  · rw [protocolError_silent hq, State.modUnit_unit]
  · obtain ⟨he, hm⟩ : s.attn.captureEnables.protocol = true ∧ s.limit l = false := by simpa using hq
    rw [protocolError_reports he hm, unit_congr (s := s.modUnit l LinkUnit.setProtocol) (by simp) (by simp),
      State.modUnit_unit]

/-! ### The frame taken -/

@[simp] theorem unit_takeFrame (l : LinkId) :
    (s.takeFrame l).unit l = { s.unit l with rxFifo := (s.unit l).rxFifo.tail } :=
  (unit_congr rfl rfl l).trans (s.modUnit_unit l _)

/-- R41, R43, R44: a malformed frame that is the work taken next leaves its FIFO and is reported. -/
theorem discardMalformed_next {s : State} {l : LinkId} {f : Frame} (hh : s.sig.held = none)
    (hr : s.sig.firstReady = none) (hroom : s.sig.parked.length < 8) (hn : s.nextFrame = some (l, f))
    (hm : parseFrom l f = none) :
    s.discardMalformed = some ((s.takeFrame l).protocolError l (slotField f) (hidField f)) := by
  have hp : s.sig.parkingFull = false := decide_eq_false (Nat.not_le.2 hroom)
  have hw : s.work = some (.frame l f) := by simp [State.work, hh, hr, hp, hn]
  simp [State.discardMalformed, hw, hm]

end Sys2Proof.Machine
end

section
namespace Sys2Proof.Machine
open Sys2Proof

/-- Settles O29: the frame leaves its FIFO and sets the PROTOCOL flag; the capture is decided by the enable and the
limit mark as they were, and the judgement that ends the event keeps all of this. -/
theorem malformedMessageIsDiscarded : Obligations.MalformedMessageIsDiscarded := by
  unfold Obligations.MalformedMessageIsDiscarded
  intro s l f hh hr hroom hn hm
  have hlim : (s.takeFrame l).limit l = s.limit l := limit_congr (by simp) (by simp) l
  have hexec : exec .malformedMessage s =
      .next (((s.takeFrame l).protocolError l (slotField f) (hidField f)).judgeAttention s) := by
    rw [← judged_some, ← discardMalformed_next hh hr hroom hn hm]
    rfl
  refine ⟨_, hexec, by simp [takeFrame_sig], ?fifo, ?flag, fun he hl hq => ?reported, fun hq => ?silent,
    by simp, by simp, by simp, by simp, by simp⟩
  case fifo =>
    rw [rxFifo_judgeAttention, unit_protocolError, unit_takeFrame]
    rfl
  case flag =>
    rw [protocolFlag_judgeAttention, unit_protocolError]
    rfl
  case reported =>
    rw [captures_judgeAttention, limit_judgeAttention, protocolError_reports (by simpa using he) (hlim.trans hl),
      captures_setLimit, capture_joins _ (by simpa [CaptureEnables.of] using he) (by simpa using hq)]
    simp
  case silent =>
    rw [captures_judgeAttention, protocolError_silent (by simpa [hlim] using hq)]
    simp

end Sys2Proof.Machine
end

section
/-! What an event can do to the Call Table (R54, R55, R57, R58): the few changes of which every operation on calls is made,
and that each of them keeps the free queue, the call fields, the HIDs, the bearers and the RELEASING bearers as they should
be. -/

namespace Sys2Proof.Machine

open Sys2Proof

/-! ### One call changed -/

/-- The circuit that a bearer serves or is the candidate of. -/
def Bearer.holder : Bearer → Option Circuit
  | .serving n | .candidate n => some n
  | .free | .releasing _ => none

/-- A bearer carries a leg of no call but `n`. -/
def Bearer.Only (b : Bearer) (n : Circuit) : Prop := ∀ m, b.holder = some m → m = n

theorem Bearer.only_free (n : Circuit) : Bearer.free.Only n := fun _ h => by cases h
theorem Bearer.only_releasing (n m : Circuit) : (Bearer.releasing m).Only n := fun _ h => by cases h
theorem Bearer.only_serving (n : Circuit) : (Bearer.serving n).Only n := fun _ h => by cases h; rfl
theorem Bearer.only_candidate (n : Circuit) : (Bearer.candidate n).Only n := fun _ h => by cases h; rfl

/-- R107: the states of a call that may have RELEASING bearers. -/
def CallState.mayRelease (x : CallState) : Prop := x = .active ∨ x = .bridged ∨ x = .clearing

/-- What the invariants of the bearers rest on. -/
structure State.TableOk (s : State) : Prop where
  freeQueue : s.FreeQueueOk
  calls : s.CallsOk
  bearers : s.BearersOk

/-- R57: circuit `n` leaves the free queue, at its head or wherever it stands. -/
def TakesCircuit (s t : State) (n : Circuit) : Prop :=
  s.call.freeQueue = n :: t.call.freeQueue ∨
    (s.callOf n).state = .free ∧ t.call.freeQueue = s.call.freeQueue.filter (· ≠ n)

/-- R54 to R58: `t` is `s` with the call of circuit `n` in another state that is not FREE, or with other fields, and its
bearers as its legs ask. Where the call was FREE its circuit has left the free queue, and the HID it has taken was in no
call. The bearer clauses rest on `ok`. -/
structure Alters (ok : Prop) (s t : State) (n : Circuit) : Prop where
  others : ∀ m, m ≠ n → t.callOf m = s.callOf m
  queue : ((s.callOf n).state ≠ .free ∧ t.call.freeQueue = s.call.freeQueue) ∨ TakesCircuit s t n
  live : (t.callOf n).state ≠ .free
  hid : (t.callOf n).state.inCall = true →
    ((s.callOf n).state.inCall = true ∧ (t.callOf n).hid = (s.callOf n).hid) ∨
      ∃ h, (t.callOf n).hid = some h ∧ s.findCall h = none
  fields : (s.callOf n).shapeOk = true → (s.callOf n).claimOk = true →
    (t.callOf n).shapeOk = true ∧ (t.callOf n).claimOk = true
  own : ok → s.TableOk → ∀ c k, (t.bearer c k = .serving n ↔ legOn c k (t.callOf n).serving) ∧
    (t.bearer c k = .candidate n ↔ legOn c k (t.callOf n).candidate)
  foreign : ok → s.TableOk → ∀ c k, t.bearer c k = s.bearer c k ∨ (s.bearer c k).Only n ∧ (t.bearer c k).Only n
  releasing : ∀ c k m, t.bearer c k = .releasing m →
    (m = n ∧ (t.callOf n).state.mayRelease) ∨
      s.bearer c k = .releasing m ∧
        (m = n → (s.callOf n).state.mayRelease → (t.callOf n).state = (s.callOf n).state)

namespace Alters

variable {ok : Prop} {s t : State} {n : Circuit} (h : Alters ok s t n)

include h

theorem freeQueueOk (hs : s.FreeQueueOk) : t.FreeQueueOk := by
  obtain ⟨hnodup, hmem⟩ := hs
  rcases h.queue with ⟨hn, hq⟩ | hq | ⟨hf, hq⟩
  · refine ⟨hq ▸ hnodup, fun m => ?_⟩
    rw [hq, hmem]
    by_cases hm : m = n
    · subst hm; simp [hn, h.live]
    · rw [h.others m hm]
  · rw [hq] at hnodup
    obtain ⟨hout, hnodup⟩ := List.nodup_cons.1 hnodup
    refine ⟨hnodup, fun m => ?_⟩
    by_cases hm : m = n
    · subst hm; simp [hout, h.live]
    · rw [h.others m hm, ← hmem, hq]; simp [hm]
  · refine ⟨hq ▸ hnodup.filter _, fun m => ?_⟩
    rw [hq]
    by_cases hm : m = n
    · subst hm; simp [h.live]
    · rw [h.others m hm, ← hmem]; simp [hm]

theorem callsOk (hs : s.CallsOk) : t.CallsOk := by
  intro m
  by_cases hm : m = n
  · subst hm; exact h.fields (hs m).1 (hs m).2
  · rw [h.others m hm]; exact hs m

/-- Another call that holds a HID is not of the HID that the changed call holds. -/
theorem hid_apart (hs : s.HidsOk) {m : Circuit} (hm : m ≠ n) (hn : (t.callOf n).state.inCall = true)
    (hc : (t.callOf m).state.inCall = true) (hne : (t.callOf n).hid ≠ none) : (t.callOf m).hid ≠ (t.callOf n).hid := by
  rw [h.others m hm] at hc ⊢
  intro he
  rcases h.hid hn with ⟨hi, hh⟩ | ⟨x, hx, hf⟩
  · exact hm (hs m n hc hi (he.trans hh) (by rw [he]; exact hne))
  · have := findCall_isSome hc (he.trans hx)
    simp [hf] at this

theorem hidsOk (hs : s.HidsOk) : t.HidsOk := by
  intro m l hm hl he hne
  by_cases hmn : m = n <;> by_cases hln : l = n
  · rw [hmn, hln]
  · subst hmn; exact absurd he.symm (h.hid_apart hs hln hm hl hne)
  · subst hln; exact absurd he (h.hid_apart hs hmn hl hm (he ▸ hne))
  · rw [h.others m hmn] at hm he hne; rw [h.others l hln] at hl he
    exact hs m l hm hl he hne

theorem bearersOk (hok : ok) (hs : s.TableOk) : t.BearersOk := by
  intro c k m
  by_cases hm : m = n
  · subst hm; exact h.own hok hs c k
  · rw [h.others m hm]
    rcases h.foreign hok hs c k with he | ⟨hb, hb'⟩
    · rw [he]; exact hs.bearers c k m
    · rw [← (hs.bearers c k m).1, ← (hs.bearers c k m).2]
      have no {b : Bearer} (hb : b.Only n) : b ≠ .serving m ∧ b ≠ .candidate m :=
        ⟨fun e => hm (hb m (by rw [e]; rfl)), fun e => hm (hb m (by rw [e]; rfl))⟩
      simp [no hb, no hb']

theorem tableOk (hok : ok) (hs : s.TableOk) : t.TableOk :=
  ⟨h.freeQueueOk hs.freeQueue, h.callsOk hs.calls, h.bearersOk hok hs⟩

theorem releasingOk (hs : s.ReleasingOk) : t.ReleasingOk := by
  intro c k m hb
  rcases h.releasing c k m hb with ⟨rfl, hr⟩ | ⟨hr, he⟩
  · exact hr
  · by_cases hm : m = n
    · subst hm; rw [he rfl (hs c k m hr)]; exact hs c k m hr
    · rw [h.others m hm]; exact hs c k m hr

end Alters

/-! ### RELEASING bearers freed, and a call gone to FREE -/

/-- R67, R71: `t` is `s` with some RELEASING bearers FREE. -/
structure LetsGo (s t : State) : Prop where
  calls : t.call.calls = s.call.calls
  queue : t.call.freeQueue = s.call.freeQueue
  bearers : ∀ c k, t.bearer c k = s.bearer c k ∨ ∃ m, s.bearer c k = .releasing m ∧ t.bearer c k = .free

namespace LetsGo

variable {s t : State} (h : LetsGo s t)

include h

theorem callOf (n : Circuit) : t.callOf n = s.callOf n := by rw [State.callOf, h.calls]; rfl

theorem freeQueueOk (hs : s.FreeQueueOk) : t.FreeQueueOk := by
  simpa only [State.FreeQueueOk, h.queue, h.callOf] using hs

theorem callsOk (hs : s.CallsOk) : t.CallsOk := by simpa only [State.CallsOk, h.callOf] using hs

theorem hidsOk (hs : s.HidsOk) : t.HidsOk := by simpa only [State.HidsOk, h.callOf] using hs

theorem bearersOk (hs : s.BearersOk) : t.BearersOk := by
  intro c k n
  rw [h.callOf, ← (hs c k n).1, ← (hs c k n).2]
  rcases h.bearers c k with he | ⟨m, hm, he⟩ <;> simp_all

theorem releasingOk (hs : s.ReleasingOk) : t.ReleasingOk := by
  intro c k n hb
  rw [h.callOf]
  rcases h.bearers c k with he | ⟨m, -, he⟩
  · exact hs c k n (he ▸ hb)
  · simp [he] at hb

end LetsGo

theorem letsGo_freeReleasing (s : State) (n : Circuit) : LetsGo s (s.freeReleasing n) where
  calls := rfl
  queue := rfl
  bearers c k := by
    rw [bearer_freeReleasing]
    split
    · next h => exact .inr ⟨n, h, rfl⟩
    · exact .inl rfl

theorem letsGo_setBearer {s : State} {c : CellId} {k : SlotId} {n : Circuit} (h : s.bearer c k = .releasing n) :
    LetsGo s (s.setBearer c k .free) where
  calls := rfl
  queue := rfl
  bearers d j := by
    rw [bearer_setBearer]
    split
    · next e => obtain ⟨rfl, rfl⟩ := e; exact .inr ⟨n, h, rfl⟩
    · exact .inl rfl

theorem bearer_freeReleasingAt (s : State) (c d : CellId) (k : SlotId) :
    (s.freeReleasingAt c).bearer d k = if d = c then (s.bearer d k).letGo else s.bearer d k := by
  simp only [State.bearer, State.freeReleasingAt, Table.at_put]
  split
  · next h => rw [h, Table.at_map]
  · rfl

theorem letsGo_freeReleasingAt (s : State) (c : CellId) : LetsGo s (s.freeReleasingAt c) where
  calls := rfl
  queue := rfl
  bearers d k := by
    rw [bearer_freeReleasingAt]
    split
    · cases h : s.bearer d k with
      | releasing m => exact .inr ⟨m, rfl, rfl⟩
      | free | serving | candidate => exact .inl rfl
    · exact .inl rfl

/-- R57: the states from which a call goes to FREE: PAGING, HOLDING, and CLEARING with no RELEASING bearer left. -/
def State.MayFree (s : State) (n : Circuit) : Prop :=
  (s.callOf n).state = .paging ∨ (s.callOf n).state = .holding ∨
    (s.callOf n).state = .clearing ∧ s.releasing n = false

theorem State.MayFree.live {s : State} {n : Circuit} (h : s.MayFree n) : (s.callOf n).state ≠ .free := by
  rcases h with h | h | ⟨h, -⟩ <;> simp [h]

section

variable (s : State) {n : Circuit}

@[simp] theorem bearer_toFree (n : Circuit) (c : CellId) (k : SlotId) : (s.toFree n).bearer c k = s.bearer c k := by
  simp only [State.toFree]
  split
  · rfl
  · exact bearer_modCall s n (fun r => .free r.profile) c k

theorem callOf_toFree_other {m : Circuit} (h : m ≠ n) : (s.toFree n).callOf m = s.callOf m := by
  simp only [State.toFree]
  split
  · rfl
  · exact callOf_modCall_other s (fun r => .free r.profile) h

variable {s} (h : (s.callOf n).state ≠ .free)

include h

theorem callOf_toFree : (s.toFree n).callOf n = .free (s.callOf n).profile := by
  rw [State.toFree, if_neg h]
  exact callOf_modCall_same s n fun r => .free r.profile

theorem freeQueue_toFree : (s.toFree n).call.freeQueue = s.call.freeQueue ++ [n] := by
  rw [State.toFree, if_neg h]
  rfl

/-- R55, R57: what becomes of a call that goes to FREE. -/
theorem freesCall_toFree : FreesCall s (s.toFree n) n :=
  ⟨callOf_toFree h, freeQueue_toFree h, fun _ hm => callOf_toFree_other s hm⟩

end

namespace State.MayFree

variable {s : State} {n : Circuit} (h : s.MayFree n)

include h

theorem freeQueueOk (hs : s.FreeQueueOk) : (s.toFree n).FreeQueueOk := by
  obtain ⟨hnodup, hmem⟩ := hs
  have hout : n ∉ s.call.freeQueue := by rw [hmem]; exact h.live
  rw [State.FreeQueueOk, freeQueue_toFree h.live]
  refine ⟨hnodup.append (List.nodup_singleton n) (by simpa using hout), fun m => ?_⟩
  by_cases hm : m = n
  · subst hm; simp [callOf_toFree h.live, CallRecord.free]
  · rw [callOf_toFree_other s hm, ← hmem]; simp [hm]

theorem callsOk (hs : s.CallsOk) : (s.toFree n).CallsOk := by
  intro m
  by_cases hm : m = n
  · subst hm; rw [callOf_toFree h.live]; exact ⟨rfl, rfl⟩
  · rw [callOf_toFree_other s hm]; exact hs m

theorem hidsOk (hs : s.HidsOk) : (s.toFree n).HidsOk := by
  have out {m : Circuit} (hm : ((s.toFree n).callOf m).state.inCall = true) : m ≠ n := by
    rintro rfl
    rw [callOf_toFree h.live] at hm
    cases hm
  intro m l hm hl
  have hmn := out hm
  have hln := out hl
  rw [callOf_toFree_other s hmn] at hm ⊢
  rw [callOf_toFree_other s hln] at hl ⊢
  exact hs m l hm hl

/-- R55: a call that may go to FREE holds no leg. -/
theorem no_legs (hs : (s.callOf n).shapeOk = true) : (s.callOf n).serving = none ∧ (s.callOf n).candidate = none := by
  rcases h with h | h | ⟨h, -⟩ <;> simp_all [CallRecord.shapeOk]

theorem bearersOk (hc : s.CallsOk) (hs : s.BearersOk) : (s.toFree n).BearersOk := by
  intro c k m
  rw [bearer_toFree]
  by_cases hm : m = n
  · subst hm
    obtain ⟨hsl, hcl⟩ := h.no_legs (hc m).1
    rw [callOf_toFree h.live, (hs c k m).1, (hs c k m).2, hsl, hcl]
    simp [CallRecord.free]
  · rw [callOf_toFree_other s hm]; exact hs c k m

theorem releasingOk (hs : s.ReleasingOk) : (s.toFree n).ReleasingOk := by
  intro c k m hb
  rw [bearer_toFree] at hb
  by_cases hm : m = n
  · subst hm
    have := hs c k m hb
    rcases h with h | h | ⟨-, h⟩
    · simp [h] at this
    · simp [h] at this
    · exact absurd hb (releasing_eq_false.1 h c k)
  · rw [callOf_toFree_other s hm]; exact hs c k m hb

end State.MayFree

end Sys2Proof.Machine
end

section
/-! The changes of one call that the operations on calls make: its fields, the end of its bridge on the leg kept (R106,
R108, R110, R111), HOLDING (R72), CLEARING (R66), and a leg bound to a bearer (R60, R102). -/

namespace Sys2Proof.Machine

open Sys2Proof

/-- Where a leg stands. -/
def Leg.place (g : Leg) : CellId × SlotId := (g.cell, g.slot)

theorem legOn_some {c : CellId} {k : SlotId} {g : Leg} : legOn c k (some g) ↔ c = g.cell ∧ k = g.slot := by
  simp [legOn, eq_comm]

@[simp] theorem not_legOn_none (c : CellId) (k : SlotId) : ¬legOn c k none := by simp [legOn]

/-- Two legs, or two lacks of one, that stand in one place. -/
theorem legOn_congr {x y : Option Leg} (h : x.map Leg.place = y.map Leg.place) (c : CellId) (k : SlotId) :
    legOn c k x ↔ legOn c k y := by
  show x.map Leg.place = _ ↔ y.map Leg.place = _
  rw [h]

theorem isSome_of_place {x y : Option Leg} (h : x.map Leg.place = y.map Leg.place) : x.isSome = y.isSome := by
  simpa using congrArg Option.isSome h

/-- Two records that agree in what the invariants of the calls ask of them. -/
structure CallRecord.Like (r q : CallRecord) : Prop where
  state : q.state = r.state
  hid : q.hid = r.hid
  direction : q.direction = r.direction
  mclass : q.mclass = r.mclass
  serving : q.serving.map Leg.place = r.serving.map Leg.place
  candidate : q.candidate.map Leg.place = r.candidate.map Leg.place
  lastServing : q.lastServing = r.lastServing
  window : q.window.isSome = r.window.isSome

theorem CallRecord.Like.shapeOk {r q : CallRecord} (h : r.Like q) : q.shapeOk = r.shapeOk := by
  have hw : q.window.isNone = r.window.isNone := by rw [← Option.not_isSome, h.window, Option.not_isSome]
  have none {x y : Option Leg} (e : x.map Leg.place = y.map Leg.place) : x.isNone = y.isNone := by
    rw [← Option.not_isSome, isSome_of_place e, Option.not_isSome]
  simp only [CallRecord.shapeOk, h.state, h.lastServing, h.window, hw, isSome_of_place h.serving,
    isSome_of_place h.candidate, none h.serving, none h.candidate]

theorem CallRecord.Like.claimOk {r q : CallRecord} (h : r.Like q) : q.claimOk = r.claimOk := by
  simp only [CallRecord.claimOk, h.state, h.hid, h.direction, h.mclass]

variable {ok : Prop} {s t : State} {n : Circuit}

/-- Fields of a call changed that its bearers do not follow. -/
theorem alters_like (hl : (s.callOf n).state ≠ .free) (hothers : ∀ m, m ≠ n → t.callOf m = s.callOf m)
    (hq : t.call.freeQueue = s.call.freeQueue) (hb : t.call.bearers = s.call.bearers)
    (h : (s.callOf n).Like (t.callOf n)) : Alters ok s t n where
  others := hothers
  queue := .inl ⟨hl, hq⟩
  live := by rw [h.state]; exact hl
  hid hi := .inl ⟨by rwa [h.state] at hi, h.hid⟩
  fields hs hc := ⟨by rw [h.shapeOk, hs], by rw [h.claimOk, hc]⟩
  own _ hs c k := by
    rw [legOn_congr h.serving, legOn_congr h.candidate, State.bearer, hb]
    exact hs.bearers c k n
  foreign _ _ c k := .inl (by rw [State.bearer, hb]; rfl)
  releasing c k m hm := .inr ⟨by rw [State.bearer, hb] at hm; exact hm, fun _ _ => h.state⟩

theorem alters_modCall (hl : (s.callOf n).state ≠ .free) {f : CallRecord → CallRecord}
    (h : (s.callOf n).Like (f (s.callOf n))) : Alters ok s (s.modCall n f) n :=
  alters_like hl (fun _ hm => callOf_modCall_other s f hm) rfl rfl (by rwa [callOf_modCall_same])

/-- R58: the bearer (c, k) of a call with legs as the invariants ask is the place of a leg of it, or carries none. -/
theorem bearer_cases (hs : s.BearersOk) (n : Circuit) (c : CellId) (k : SlotId) :
    (s.bearer c k = .serving n ∧ legOn c k (s.callOf n).serving ∧ ¬legOn c k (s.callOf n).candidate) ∨
    (s.bearer c k = .candidate n ∧ legOn c k (s.callOf n).candidate ∧ ¬legOn c k (s.callOf n).serving) ∨
    (s.bearer c k ≠ .serving n ∧ s.bearer c k ≠ .candidate n ∧ ¬legOn c k (s.callOf n).serving ∧
      ¬legOn c k (s.callOf n).candidate) := by
  rw [← (hs c k n).1, ← (hs c k n).2]
  by_cases h1 : s.bearer c k = .serving n <;> by_cases h2 : s.bearer c k = .candidate n <;> simp_all

/-- R58: the two legs of a call stand on two bearers. -/
theorem legs_apart (hs : s.BearersOk) {sl cl : Leg} (hsl : (s.callOf n).serving = some sl)
    (hcl : (s.callOf n).candidate = some cl) : ¬(sl.cell = cl.cell ∧ sl.slot = cl.slot) := by
  intro h
  have := bearer_cases hs n sl.cell sl.slot
  simp [hsl, hcl, legOn_some, h] at this

/-- R58: the bearer of a leg names it. -/
theorem bearer_of_serving (hs : s.BearersOk) {g : Leg} (h : (s.callOf n).serving = some g) :
    s.bearer g.cell g.slot = .serving n := (hs _ _ n).1.2 (by rw [h]; exact legOn_some.2 ⟨rfl, rfl⟩)

theorem bearer_of_candidate (hs : s.BearersOk) {g : Leg} (h : (s.callOf n).candidate = some g) :
    s.bearer g.cell g.slot = .candidate n := (hs _ _ n).2.2 (by rw [h]; exact legOn_some.2 ⟨rfl, rfl⟩)

/-! ### The end of a bridge on the leg kept -/

/-- R106, R108, R110, R111: a bridge ends on one of its legs, and the bearer of the other is `x`. -/
theorem alters_keepLeg {v : State} {sl cl kept lost : Leg} {x : Bearer} (hs : (s.callOf n).state = .bridged)
    (hsl : (s.callOf n).serving = some sl) (hcl : (s.callOf n).candidate = some cl)
    (hlegs : (kept = sl ∧ lost = cl) ∨ (kept = cl ∧ lost = sl)) (hx : x = .free ∨ x = .releasing n)
    (hcalls : v.call.calls = s.call.calls) (hq : v.call.freeQueue = s.call.freeQueue)
    (hb : ∀ c k, v.bearer c k = if c = lost.cell ∧ k = lost.slot then x else s.bearer c k) :
    Alters ok s (v.keepLeg n kept) n := by
  have hcall (m : Circuit) : v.callOf m = s.callOf m := by rw [State.callOf, hcalls]; rfl
  have hn := callOf_keepLeg_same v n kept
  rw [hcall] at hn
  have hbearer (c : CellId) (k : SlotId) : (v.keepLeg n kept).bearer c k = if c = kept.cell ∧ k = kept.slot then
      .serving n else if c = lost.cell ∧ k = lost.slot then x else s.bearer c k := by rw [bearer_keepLeg, hb]
  have hstate : ((v.keepLeg n kept).callOf n).state = .active := by rw [hn]; rfl
  have hserving (c : CellId) (k : SlotId) :
      legOn c k ((v.keepLeg n kept).callOf n).serving ↔ c = kept.cell ∧ k = kept.slot := by
    rw [hn]; exact legOn_some
  have hnone : ((v.keepLeg n kept).callOf n).candidate = none := by rw [hn]; rfl
  exact {
    others := fun m hm => (callOf_keepLeg_other v kept hm).trans (hcall m)
    queue := .inl ⟨by simp [hs], by simpa [State.keepLeg, State.modCall, State.setBearer] using hq⟩
    live := by simp [hstate]
    hid := fun _ => .inl ⟨by simp [hs, CallState.inCall], by rw [hn]; rfl⟩
    fields := fun h1 h2 => by
      rw [hn]
      simp_all [CallRecord.shapeOk, CallRecord.claimOk, CallRecord.closedOn]
    own := fun _ ht c k => by
      rw [hserving, hnone, hbearer]
      have := bearer_cases ht.bearers n c k
      rw [hsl, hcl, legOn_some, legOn_some] at this
      rcases hlegs with ⟨rfl, rfl⟩ | ⟨rfl, rfl⟩ <;> rcases hx with rfl | rfl <;> split <;> simp_all <;> split <;> simp_all
    foreign := fun _ ht c k => by
      rw [hbearer]
      have := bearer_cases ht.bearers n c k
      rw [hsl, hcl, legOn_some, legOn_some] at this
      split
      · refine .inr ⟨?_, Bearer.only_serving n⟩
        rcases this with ⟨h, -⟩ | ⟨h, -⟩ | ⟨-, -, h1, h2⟩
        · rw [h]; exact Bearer.only_serving n
        · rw [h]; exact Bearer.only_candidate n
        · rcases hlegs with ⟨rfl, rfl⟩ | ⟨rfl, rfl⟩ <;> simp_all
      · split
        · refine .inr ⟨?_, by rcases hx with rfl | rfl; exacts [Bearer.only_free n, Bearer.only_releasing n n]⟩
          rcases this with ⟨h, -⟩ | ⟨h, -⟩ | ⟨-, -, h1, h2⟩
          · rw [h]; exact Bearer.only_serving n
          · rw [h]; exact Bearer.only_candidate n
          · rcases hlegs with ⟨rfl, rfl⟩ | ⟨rfl, rfl⟩ <;> simp_all
        · exact .inl rfl
    releasing := fun c k m hm => by
      rw [hbearer] at hm
      by_cases hmn : m = n
      · exact .inl ⟨hmn, .inl hstate⟩
      · refine .inr ⟨?_, fun e _ => absurd e hmn⟩
        split at hm
        · cases hm
        · split at hm
          · rcases hx with rfl | rfl
            · cases hm
            · cases hm; exact absurd rfl hmn
          · exact hm }

/-! ### A call without legs -/

/-- R66, R72: a call in HOLDING or CLEARING has no leg, and the bearers of the legs it had are FREE or RELEASING. -/
theorem alters_noLegs (hlive : (s.callOf n).state ≠ .free) (hothers : ∀ m, m ≠ n → t.callOf m = s.callOf m)
    (hq : t.call.freeQueue = s.call.freeQueue)
    (hstate : (t.callOf n).state = .holding ∧ (s.callOf n).state.inCall = true ∧ (t.callOf n).hid = (s.callOf n).hid ∨
      (t.callOf n).state = .clearing)
    (hfields : (s.callOf n).shapeOk = true → (s.callOf n).claimOk = true →
      (t.callOf n).shapeOk = true ∧ (t.callOf n).claimOk = true)
    (hserving : (t.callOf n).serving = none) (hcandidate : (t.callOf n).candidate = none)
    (hb : ok → s.TableOk → ∀ c k, (t.bearer c k = s.bearer c k ∧ s.bearer c k ≠ .serving n ∧ s.bearer c k ≠ .candidate n) ∨
      ((s.bearer c k).Only n ∧ (t.bearer c k = .free ∨ t.bearer c k = .releasing n)))
    (hr : ∀ c k m, t.bearer c k = .releasing m → (m = n ∧ (t.callOf n).state = .clearing) ∨
      s.bearer c k = .releasing m ∧
        (m = n → (s.callOf n).state.mayRelease → (t.callOf n).state = (s.callOf n).state)) : Alters ok s t n where
  others := hothers
  queue := .inl ⟨hlive, hq⟩
  live := by rcases hstate with ⟨h, -⟩ | h <;> simp [h]
  hid hi := by
    rcases hstate with ⟨-, h⟩ | h
    · exact .inl h
    · rw [h] at hi; cases hi
  fields := hfields
  own hok ht c k := by
    rw [hserving, hcandidate]
    rcases hb hok ht c k with ⟨he, h1, h2⟩ | ⟨-, he | he⟩
    · simp [he, h1, h2]
    · simp [he]
    · simp [he]
  foreign hok ht c k := by
    rcases hb hok ht c k with ⟨he, -⟩ | ⟨ho, he | he⟩
    · exact .inl he
    · exact .inr ⟨ho, by rw [he]; exact Bearer.only_free n⟩
    · exact .inr ⟨ho, by rw [he]; exact Bearer.only_releasing n n⟩
  releasing c k m hm := by
    rcases hr c k m hm with ⟨h, hc⟩ | h
    · exact .inl ⟨h, .inr (.inr hc)⟩
    · exact .inr h

/-- R72: what a call that enters HOLDING holds before its hold timer runs. -/
def CallRecord.heldBare (r : CallRecord) (g : Leg) : CallRecord :=
  { r with
    state := .holding, serving := none, candidate := none, lastServing := some g.cell, dwell := 0, bridgeTimer := none
    window := none }

/-- R72, R107, R112: the call in HOLDING after the loss of all its legs, `v` being `s` with their bearers FREE. -/
theorem alters_hold {v : State} {g : Leg} (hs : (s.callOf n).state = .active ∨ (s.callOf n).state = .bridged)
    (hcalls : v.call.calls = s.call.calls) (hq : v.call.freeQueue = s.call.freeQueue)
    (hfree : ∀ c k, v.bearer c k = s.bearer c k ∨ v.bearer c k = .free)
    (hb : s.TableOk → ∀ c k, (v.bearer c k = s.bearer c k ∧ s.bearer c k ≠ .serving n ∧ s.bearer c k ≠ .candidate n) ∨
      ((s.bearer c k).Only n ∧ v.bearer c k = .free)) :
    Alters ok s ((v.freeReleasing n).modCall n (CallRecord.heldBare · g)) n := by
  have hcall (m : Circuit) : (v.freeReleasing n).callOf m = s.callOf m := by
    show Table.at v.call.calls m = _
    rw [hcalls]; rfl
  have hn : ((v.freeReleasing n).modCall n (CallRecord.heldBare · g)).callOf n = (s.callOf n).heldBare g := by
    rw [callOf_modCall_same, hcall]
  have hin : (s.callOf n).state.inCall = true := by rcases hs with h | h <;> simp [h, CallState.inCall]
  have hbearer (c : CellId) (k : SlotId) : ((v.freeReleasing n).modCall n (CallRecord.heldBare · g)).bearer c k =
      if v.bearer c k = .releasing n then .free else v.bearer c k := by rw [bearer_modCall, bearer_freeReleasing]
  refine alters_noLegs (by rcases hs with h | h <;> simp [h])
    (fun m hm => (callOf_modCall_other _ (CallRecord.heldBare · g) hm).trans (hcall m)) hq
    (.inl ⟨by rw [hn]; rfl, hin, by rw [hn]; rfl⟩) (fun h1 h2 => ?_) (by rw [hn]; rfl) (by rw [hn]; rfl)
    (fun _ ht c k => ?_) fun c k m hm => ?_
  · rw [hn]
    rcases hs with h | h <;> simp_all [CallRecord.shapeOk, CallRecord.claimOk, CallRecord.heldBare]
  · rw [hbearer]
    rcases hb ht c k with ⟨he, h1, h2⟩ | ⟨ho, he⟩
    · rw [he]
      split
      · next h => exact .inr ⟨by rw [h]; exact Bearer.only_releasing n n, .inl rfl⟩
      · exact .inl ⟨rfl, h1, h2⟩
    · exact .inr ⟨ho, .inl (by simp [he])⟩
  · rw [hbearer] at hm
    split at hm
    · cases hm
    · next hne =>
      rcases hfree c k with he | he
      · exact .inr ⟨he ▸ hm, fun h _ => absurd (h ▸ hm) hne⟩
      · rw [he] at hm; cases hm

/-- R66: the bearers of the legs of a call that enters CLEARING are RELEASING. -/
theorem bearer_releaseLegs (s : State) (n : Circuit) (sl cl : Option Leg) (c : CellId) (k : SlotId)
    [Decidable (legOn c k sl ∨ legOn c k cl)] :
    ((s.releaseLeg? n sl).releaseLeg? n cl).bearer c k =
      if legOn c k sl ∨ legOn c k cl then .releasing n else s.bearer c k := by
  cases sl <;> cases cl <;> simp only [State.releaseLeg?, bearer_releaseLeg, legOn_some, not_legOn_none, or_false,
    false_or, if_false]
  next => 
    split
    · next h => rw [if_pos (.inr h)]
    · next h => simp only [h, or_false]

@[simp] theorem callOf_releaseLeg? (s : State) (n m : Circuit) (g : Option Leg) :
    (s.releaseLeg? n g).callOf m = s.callOf m := by
  cases g <;> simp [State.releaseLeg?]

@[simp] theorem freeQueue_releaseLeg? (s : State) (n : Circuit) (g : Option Leg) :
    (s.releaseLeg? n g).call.freeQueue = s.call.freeQueue := by
  cases g <;> simp [State.releaseLeg?, State.releaseLeg, State.setBearer]

/-- R66: a call that has let its legs go is in CLEARING. -/
theorem alters_clear (hs : (s.callOf n).state = .active ∨ (s.callOf n).state = .bridged ∨ (s.callOf n).state = .holding)
    (x : Time) : Alters ok s (((s.releaseLeg? n (s.callOf n).serving).releaseLeg? n (s.callOf n).candidate).modCall n
      (CallRecord.clearingFrom · x)) n := by
  classical
  let v := (s.releaseLeg? n (s.callOf n).serving).releaseLeg? n (s.callOf n).candidate
  have hn : (v.modCall n (CallRecord.clearingFrom · x)).callOf n = (s.callOf n).clearingFrom x := by
    rw [callOf_modCall_same]; simp [v]
  have hbearer (c : CellId) (k : SlotId) : (v.modCall n (CallRecord.clearingFrom · x)).bearer c k =
      if legOn c k (s.callOf n).serving ∨ legOn c k (s.callOf n).candidate then .releasing n else s.bearer c k := by
    rw [bearer_modCall, bearer_releaseLegs]
  refine alters_noLegs (by rcases hs with h | h | h <;> simp [h])
    (fun m hm => (callOf_modCall_other _ (CallRecord.clearingFrom · x) hm).trans (by simp)) (by
      show v.call.freeQueue = _; simp [v])
    (.inr (by rw [hn]; rfl)) (fun _ _ => by rw [hn]; exact ⟨rfl, rfl⟩) (by rw [hn]; rfl) (by rw [hn]; rfl)
    (fun _ ht c k => ?_) fun c k m hm => ?_
  · rw [hbearer]
    rcases bearer_cases ht.bearers n c k with ⟨h, hl, -⟩ | ⟨h, hl, -⟩ | ⟨h1, h2, hl1, hl2⟩
    · exact .inr ⟨by rw [h]; exact Bearer.only_serving n, .inr (if_pos (.inl hl))⟩
    · exact .inr ⟨by rw [h]; exact Bearer.only_candidate n, .inr (if_pos (.inr hl))⟩
    · exact .inl ⟨if_neg (by simp [hl1, hl2]), h1, h2⟩
  · rw [hbearer] at hm
    by_cases hmn : m = n
    · exact .inl ⟨hmn, by rw [hn]; rfl⟩
    · split at hm
      · cases hm; exact absurd rfl hmn
      · exact .inr ⟨hm, fun h _ => absurd h hmn⟩

/-! ### A leg bound to a bearer -/

/-- R60, R102: a leg of the call `n` is bound to the bearer (c, k), which was FREE. -/
theorem alters_bind {c : CellId} {k : SlotId} {b : Bearer} (hothers : ∀ m, m ≠ n → t.callOf m = s.callOf m)
    (hq : ((s.callOf n).state ≠ .free ∧ t.call.freeQueue = s.call.freeQueue) ∨ TakesCircuit s t n)
    (hstate : (t.callOf n).state = .active ∨ (t.callOf n).state = .bridged)
    (hhid : ((s.callOf n).state.inCall = true ∧ (t.callOf n).hid = (s.callOf n).hid) ∨
      ∃ h, (t.callOf n).hid = some h ∧ s.findCall h = none)
    (hfields : (s.callOf n).shapeOk = true → (s.callOf n).claimOk = true →
      (t.callOf n).shapeOk = true ∧ (t.callOf n).claimOk = true)
    (hbearer : ∀ d j, t.bearer d j = if d = c ∧ j = k then b else s.bearer d j) (hb : b = .serving n ∨ b = .candidate n)
    (hserving : s.TableOk → ∀ d j, legOn d j (t.callOf n).serving ↔
      (b = .serving n ∧ d = c ∧ j = k) ∨ legOn d j (s.callOf n).serving)
    (hcandidate : s.TableOk → ∀ d j, legOn d j (t.callOf n).candidate ↔
      (b = .candidate n ∧ d = c ∧ j = k) ∨ legOn d j (s.callOf n).candidate) :
    Alters (s.bearer c k = .free) s t n where
  others := hothers
  queue := hq
  live := by rcases hstate with h | h <;> simp [h]
  hid _ := hhid
  fields := hfields
  own hfree ht d j := by
    rw [hserving ht, hcandidate ht, hbearer, ← (ht.bearers d j n).1, ← (ht.bearers d j n).2]
    by_cases hd : d = c ∧ j = k
    · obtain ⟨rfl, rfl⟩ := hd; simp [hfree]
    · simp [hd]
  foreign hfree ht d j := by
    rw [hbearer]
    by_cases hd : d = c ∧ j = k
    · obtain ⟨rfl, rfl⟩ := hd
      refine .inr ⟨by rw [hfree]; exact Bearer.only_free n, ?_⟩
      rcases hb with rfl | rfl <;> simp [Bearer.Only, Bearer.holder, eq_comm]
    · exact .inl (if_neg hd)
  releasing d j m hm := by
    rw [hbearer] at hm
    by_cases hd : d = c ∧ j = k
    · rw [if_pos hd] at hm
      rcases hb with rfl | rfl <;> cases hm
    · rw [if_neg hd] at hm
      by_cases hmn : m = n
      · exact .inl ⟨hmn, by rcases hstate with h | h; exacts [.inl h, .inr (.inl h)]⟩
      · exact .inr ⟨hm, fun h _ => absurd h hmn⟩

end Sys2Proof.Machine
end

section
/-! Every operation on calls is made of these changes: a property that each of them keeps is kept by the ends of calls and
bridges, the loss of legs and links, voice, SEIZE, pages and messages. -/

namespace Sys2Proof.Machine

open Sys2Proof

/-- R127: the call `n` has no merge window in `t` but the one it had, or one in which slot 0 waits for a frame. -/
def KeepsWindow (s t : State) (n : Circuit) : Prop :=
  ∀ w, (t.callOf n).window = some w → (s.callOf n).window = some w ∨ w.Ok

theorem keepsWindow_none {s t : State} {n : Circuit} (h : (t.callOf n).window = none) : KeepsWindow s t n :=
  fun w hw => by rw [h] at hw; cases hw

theorem keepsWindow_same {s t : State} {n : Circuit} (h : (t.callOf n).window = (s.callOf n).window) :
    KeepsWindow s t n :=
  fun _ hw => .inl (h ▸ hw)

/-- A property of the Call Table that the changes to it keep. -/
structure Moves (P : State → Prop) : Prop where
  same : ∀ {s t : State}, t.call = s.call → P s → P t
  letsGo : ∀ {s t : State}, LetsGo s t → P s → P t
  toFree : ∀ {s : State} {n : Circuit}, s.MayFree n → P s → P (s.toFree n)
  alters : ∀ {s t : State} {n : Circuit}, Alters True s t n → KeepsWindow s t n → P s → P t

theorem summon_call (s : State) (n : Circuit) (l : List CellId) : (s.summon n l).call = s.call := by
  simp only [State.summon]
  generalize (s.callOf n).hid.getD 0 = h
  induction l generalizing s with
  | nil => rfl
  | cons c l ih => exact (ih _).trans (State.placeSig_call ..)

namespace Moves

theorem foldl {P : State → Prop} {α : Type} {f : State → α → State} (h : ∀ {s} x, P s → P (f s x)) (l : List α) :
    ∀ {s}, P s → P (l.foldl f s) := by
  induction l with
  | nil => exact id
  | cons x l ih => intro s hs; exact ih (h x hs)

variable {P : State → Prop} (k : Moves P) {s : State} {n : Circuit}

include k

/-! ### Calls and bearers -/

/-- Fields of a call changed that none of the invariants speaks of. -/
theorem modCall (hl : (s.callOf n).state ≠ .free) {f : CallRecord → CallRecord}
    (hf : (s.callOf n).Like (f (s.callOf n))) (hw : (f (s.callOf n)).window = (s.callOf n).window) (h : P s) :
    P (s.modCall n f) :=
  k.alters (alters_modCall hl hf) (keepsWindow_same (by rw [callOf_modCall_same, hw])) h

theorem leaveClearing (n : Circuit) (h : P s) : P (s.leaveClearing n) := by
  simp only [State.leaveClearing]
  split
  · next hc => exact k.toFree (.inr (.inr hc)) h
  · exact h

theorem loseCall (hs : (s.callOf n).state = .holding) (h : P s) : P (s.loseCall n) :=
  k.toFree (.inr (.inl (by simpa using hs))) (k.same (by simp) h)

/-- R72, R74: the call whose legs are gone from `v` goes to HOLDING, or is lost with a hold time of 0. -/
theorem enterHolding {v : State} {g : Leg}
    (ha : Alters True s ((v.freeReleasing n).modCall n (CallRecord.heldBare · g)) n) (b : CallState) (q : Nat)
    (qc : Option Nat) (h : P s) : P (v.enterHolding n g b q qc) := by
  have hn : ((v.freeReleasing n).modCall n (CallRecord.heldBare · g)).callOf n =
    ((v.freeReleasing n).callOf n).heldBare g := callOf_modCall_same ..
  have hheld := k.alters ha (keepsWindow_none (by rw [hn]; rfl)) h
  simp only [State.enterHolding]
  split
  · exact k.loseCall (by rw [callOf_capture]; exact (congrArg CallRecord.state hn)) (k.same (by simp; rfl) hheld)
  · refine k.modCall ?_ ⟨rfl, rfl, rfl, rfl, rfl, rfl, rfl, rfl⟩ rfl (k.same (by simp; rfl) hheld)
    rw [callOf_capture]
    exact ne_of_eq_of_ne (congrArg CallRecord.state hn) CallState.noConfusion

theorem enterClearing (hs : (s.callOf n).state = .active ∨ (s.callOf n).state = .bridged ∨ (s.callOf n).state = .holding)
    (h : P s) : P (s.enterClearing n) :=
  k.leaveClearing n (k.alters (alters_clear hs _) (keepsWindow_none (by rw [callOf_modCall_same]; rfl)) h)

theorem endCircuit (n : Circuit) (h : P s) : P (s.endCircuit n) := by
  simp only [State.endCircuit]
  split
  · exact h
  · exact h
  · next hs => exact k.toFree (.inl hs) h
  · next hs => exact k.enterClearing (.inl hs) h
  · next hs => exact k.enterClearing (.inr (.inl hs)) h
  · next hs => exact k.enterClearing (.inr (.inr hs)) h

theorem forceClear (n : Circuit) (h : P s) : P (s.forceClear n) := by
  simp only [State.forceClear]
  split
  · exact k.same (by simp) (k.endCircuit n h)
  · exact h

/-! ### Bridges and legs -/

section

variable {sl cl : Leg} (hs : (s.callOf n).state = .bridged) (hsl : (s.callOf n).serving = some sl)
  (hcl : (s.callOf n).candidate = some cl)

include hs hsl hcl

/-- R106, R108, R110, R111: the end of a bridge on one of its legs. -/
theorem keepLeg {v : State} {kept lost : Leg} {x : Bearer}
    (hlegs : (kept = sl ∧ lost = cl) ∨ (kept = cl ∧ lost = sl)) (hx : x = .free ∨ x = .releasing n)
    (hcalls : v.call.calls = s.call.calls) (hq : v.call.freeQueue = s.call.freeQueue)
    (hb : ∀ c k, v.bearer c k = if c = lost.cell ∧ k = lost.slot then x else s.bearer c k) (h : P s) :
    P (v.keepLeg n kept) :=
  k.alters (alters_keepLeg hs hsl hcl hlegs hx hcalls hq hb)
    (keepsWindow_none (by rw [callOf_keepLeg_same]; rfl)) h

theorem commit (h : P s) : P (s.commit n sl cl) :=
  k.keepLeg hs hsl hcl (.inr ⟨rfl, rfl⟩) (.inr rfl) (by simp [State.releaseLeg, State.setBearer])
    (by simp [State.releaseLeg, State.setBearer]) (bearer_releaseLeg s n sl) h

theorem commitByLoss (est : Nat × Nat) (h : P s) : P (s.commitByLoss n sl cl est) :=
  k.keepLeg hs hsl hcl (.inr ⟨rfl, rfl⟩) (.inl rfl) (by simp [State.captureBridge, State.setBearer])
    (by simp [State.captureBridge, State.setBearer])
    (fun c j => by rw [bearer_setBearer, State.captureBridge, bearer_capture]) h

theorem abandonByLoss (est : Nat × Nat) (h : P s) : P (s.abandonByLoss n sl cl est) :=
  k.keepLeg hs hsl hcl (.inl ⟨rfl, rfl⟩) (.inl rfl) (by simp [State.captureBridge, State.setBearer])
    (by simp [State.captureBridge, State.setBearer])
    (fun c j => by rw [bearer_setBearer, State.captureBridge, bearer_capture]) h

theorem abandonByExpiry (h : P s) : P (s.abandonByExpiry n sl cl) :=
  k.keepLeg hs hsl hcl (.inl ⟨rfl, rfl⟩) (.inr rfl) (by simp [State.captureBridge, State.releaseLeg, State.setBearer])
    (by simp [State.captureBridge, State.releaseLeg, State.setBearer])
    (fun c j => by rw [bearer_releaseLeg, State.captureBridge, bearer_capture]) h

theorem loseBoth (est : Nat × Nat) (h : P s) : P (s.loseBoth n sl cl est) := by
  have hbearer (c : CellId) (j : SlotId) :
      ((s.setBearer sl.cell sl.slot .free).setBearer cl.cell cl.slot .free).bearer c j =
        if c = cl.cell ∧ j = cl.slot then .free else if c = sl.cell ∧ j = sl.slot then .free else s.bearer c j := by
    rw [bearer_setBearer, bearer_setBearer]
  refine k.enterHolding (v := (s.setBearer sl.cell sl.slot .free).setBearer cl.cell cl.slot .free) (g := sl)
    (alters_hold (.inr hs) rfl rfl (fun c j => ?_) fun ht c j => ?_) _ _ _ h
  · rw [hbearer]
    by_cases h1 : c = cl.cell ∧ j = cl.slot <;> by_cases h2 : c = sl.cell ∧ j = sl.slot <;> simp [h1, h2]
  · have := bearer_cases ht.bearers n c j
    rw [hsl, hcl, legOn_some, legOn_some] at this
    rw [hbearer]
    rcases this with ⟨e, hl, hn⟩ | ⟨e, hl, -⟩ | ⟨e1, e2, hn1, hn2⟩
    · exact .inr ⟨by rw [e]; exact Bearer.only_serving n, by rw [if_neg hn, if_pos hl]⟩
    · exact .inr ⟨by rw [e]; exact Bearer.only_candidate n, if_pos hl⟩
    · exact .inl ⟨by rw [if_neg hn2, if_neg hn1], e1, e2⟩

end

/-- R72: the loss of the serving leg of an ACTIVE call. -/
theorem loseServing {sl : Leg} (hs : (s.callOf n).state = .active) (hsl : (s.callOf n).serving = some sl) (b : CallState)
    (q : Nat) (qc : Option Nat) (h : P s) : P ((s.setBearer sl.cell sl.slot .free).enterHolding n sl b q qc) := by
  refine k.enterHolding (v := s.setBearer sl.cell sl.slot .free) (g := sl)
    (alters_hold (.inl hs) rfl rfl (fun c j => ?_) fun ht c j => ?_) _ _ _ h
  · rw [bearer_setBearer]; split
    · exact .inr rfl
    · exact .inl rfl
  · have hcl : (s.callOf n).candidate = none := by
      have := (ht.calls n).1
      simp_all [CallRecord.shapeOk]
    have := bearer_cases ht.bearers n c j
    rw [hsl, hcl, legOn_some] at this
    rw [bearer_setBearer]
    rcases this with ⟨e, hl, -⟩ | ⟨-, hl, -⟩ | ⟨e1, e2, hn, -⟩
    · exact .inr ⟨by rw [e]; exact Bearer.only_serving n, if_pos hl⟩
    · exact absurd hl (not_legOn_none c j)
    · exact .inl ⟨if_neg hn, e1, e2⟩

theorem loseLegs (n : Circuit) (a b : Bool) (h : P s) : P (s.loseLegs n a b) := by
  simp only [State.loseLegs]
  split
  · next hs hsl =>
    split
    · exact k.loseServing hs hsl _ _ _ h
    · exact h
  · next hs hsl hcl =>
    split
    · exact k.loseBoth hs hsl hcl _ h
    · exact k.commitByLoss hs hsl hcl _ h
    · exact k.abandonByLoss hs hsl hcl _ h
    · exact h
  · exact h

theorem freeBearer (c : CellId) (j : SlotId) (h : P s) : P (s.freeBearer c j) := by
  simp only [State.freeBearer]
  split
  · exact h
  · exact k.loseLegs _ _ _ h
  · exact k.loseLegs _ _ _ h
  · next hb => exact k.leaveClearing _ (k.letsGo (letsGo_setBearer hb) h)

theorem bridgeExpired (hs : (s.callOf n).state = .bridged) (h : P s) : P (s.bridgeExpired n) := by
  simp only [State.bridgeExpired]
  split
  · next hsl hcl =>
    split
    · exact k.commit hs hsl hcl h
    · exact k.abandonByExpiry hs hsl hcl h
  · exact h

theorem vacated (c : CellId) (j : SlotId) (h : P s) : P (s.vacated c j) := by
  simp only [State.vacated]
  split
  · exact k.same (by simp) h
  · exact k.freeBearer _ _ h

theorem reported (c : CellId) (r : CellReport) (h : P s) : P (s.reported c r) := by
  have hm : P (s.modCell c fun u => { u with marks := u.marks.remark u.report r, report := r }) := k.same (s := s) rfl h
  simp only [State.reported]
  split
  · exact hm
  · exact foldl (fun n => k.loseLegs n _ _) _ hm

/-- R71: the calls of a cell whose link has left UP, before the circuits freed stand in ascending order. -/
theorem cellLegs (c : CellId) (h : P s) : P ((ascending 192).foldl State.leaveClearing
    (((ascending 192).foldl (State.loseLegsAt c) s).freeReleasingAt c)) :=
  foldl (fun n => k.leaveClearing n) _ (k.letsGo (letsGo_freeReleasingAt _ c) (foldl (fun n => k.loseLegs n _ _) _ h))

theorem exchLost (h : P s) : P s.exchLost := by
  have he : P ((ascending 192).foldl State.endCircuit s) := foldl (fun n => k.endCircuit n) _ h
  simp only [State.exchLost]
  split
  · exact k.same (by simp) he
  · exact he

theorem clearExpired (hs : (s.callOf n).state = .clearing) (h : P s) : P ((s.freeReleasing n).toFree n) := by
  refine k.toFree (.inr (.inr ⟨hs, releasing_eq_false.2 fun c j => ?_⟩)) (k.letsGo (letsGo_freeReleasing s n) h)
  rw [bearer_freeReleasing]
  split
  · simp
  · assumption

/-! ### Pages -/

theorem pageUnanswered (hs : (s.callOf n).state = .paging) (h : P s) : P (s.pageUnanswered n) :=
  k.toFree (.inl (by simpa using hs)) (k.same (by simp) h)

theorem beginStage (hs : (s.callOf n).state = .paging) (g : PageStage) (l : List CellId) (ms : Nat) {o : State} (ho : P o)
    (h : P s) : P (s.beginStage n g l ms o) := by
  simp only [State.beginStage]
  split
  · exact ho
  · next chosen _ =>
    have hcall : (s.summon n (s.chooseCells (s.callOf n).summoned l)).call = s.call := summon_call ..
    refine k.modCall ?_ ⟨rfl, rfl, rfl, rfl, rfl, rfl, rfl, rfl⟩ rfl (k.same hcall h)
    rw [State.callOf, hcall]
    exact ne_of_eq_of_ne hs CallState.noConfusion

theorem stage3 (hs : (s.callOf n).state = .paging) (h : P s) : P (s.stage3 n) :=
  k.beginStage hs _ _ _ (k.pageUnanswered hs h) h
theorem stage2 (hs : (s.callOf n).state = .paging) (h : P s) : P (s.stage2 n) :=
  k.beginStage hs _ _ _ (k.stage3 hs h) h
theorem stage1 (hs : (s.callOf n).state = .paging) (h : P s) : P (s.stage1 n) :=
  k.beginStage hs _ _ _ (k.stage2 hs h) h

theorem stageExpired (hs : (s.callOf n).state = .paging) (h : P s) : P (s.stageExpired n) := by
  simp only [State.stageExpired]
  split
  · exact k.stage2 hs h
  · exact k.stage3 hs h
  · exact k.pageUnanswered hs h
  · exact h

end Moves

end Sys2Proof.Machine
end

section
/-! Voice (R120 to R132), SEIZE (R59 to R64, R100 to R103) and OFFER (R62), as changes of the Call Table. -/

namespace Sys2Proof.Machine

open Sys2Proof

/-! ### Voice -/

namespace Moves

variable {P : State → Prop} (k : Moves P) {s : State} {n : Circuit}

include k

theorem restartSilence (hl : (s.callOf n).state ≠ .free) (role : LegRole) (h : P s) : P (s.restartSilence n role) := by
  have place (x : Time) (g : Option Leg) : (g.map fun g => { g with silence := x }).map Leg.place = g.map Leg.place := by
    cases g <;> rfl
  refine k.modCall hl (f := (·.modLeg role fun g => { g with silence := _ })) ?_ (by cases role <;> rfl) h
  cases role with
  | serving => exact ⟨rfl, rfl, rfl, rfl, place _ _, rfl, rfl, rfl⟩
  | candidate => exact ⟨rfl, rfl, rfl, rfl, rfl, place _ _, rfl, rfl⟩

/-- R124, R125: only the estimate and the expected sequence of the serving leg change. -/
theorem activeFrame (hl : (s.callOf n).state ≠ .free) (c : CellId) (v : Voice) (h : P s) : P (s.activeFrame n c v) := by
  have leg {g : Leg} (hg : (s.callOf n).serving = some g) (q : Nat) (e : Option Seq) :
      P ((s.modCall n fun r => { r with serving := some { g with q, expected := e } }).forward n v) :=
    k.same (State.placeExch_call ..)
      (k.modCall hl (f := fun r => { r with serving := some { g with q, expected := e } })
        ⟨rfl, rfl, rfl, rfl, by rw [hg]; rfl, rfl, rfl, rfl⟩ rfl h)
  simp only [State.activeFrame]
  split
  · exact h
  · next g hg =>
    split
    · exact leg hg _ _
    · split
      · exact k.same (by simp) h
      · exact leg hg _ _

end Moves

/-- A property of the Call Table that every change of one call keeps, whatever becomes of its merge window. -/
structure Emits (P : State → Prop) : Prop extends Moves P where
  rewindow : ∀ {s t : State} {n : Circuit}, Alters True s t n → P s → P t

/-- R131: the frame that slot 0 gives is placed for the exchange. -/
def State.forwardSlot (s : State) (n : Circuit) (m : MergeSlot) : State :=
  match m.better with
  | some f => s.forward n f.voice
  | none => s

/-- R131, steps 2 to 4: both legs moved by an emission of slot 0 of the window `win`, and the window shifted. -/
def CallRecord.emittedBy (r : CallRecord) (sl cl : Leg) (win : Window) : CallRecord :=
  { r with
    serving := some (sl.emitted r.profile.w (win.slots.at 0).serving)
    candidate := some (cl.emitted r.profile.w (win.slots.at 0).candidate), window := some win.shift }

/-- R131, steps 1 to 4: slot 0 of the window of call `n` emitted, before the losses and the evaluation. -/
def State.emitted (s : State) (n : Circuit) (sl cl : Leg) (win : Window) : State :=
  (s.forwardSlot n (win.slots.at 0)).modCall n fun _ => (s.callOf n).emittedBy sl cl win

@[simp] theorem forwardSlot_call (s : State) (n : Circuit) (m : MergeSlot) : (s.forwardSlot n m).call = s.call := by
  simp only [State.forwardSlot, State.forward]
  split <;> simp

@[simp] theorem callOf_forwardSlot (s : State) (n m : Circuit) (x : MergeSlot) :
    (s.forwardSlot n x).callOf m = s.callOf m := by simp [State.callOf]

theorem callOf_emitted (s : State) (n : Circuit) (sl cl : Leg) (win : Window) :
    (s.emitted n sl cl win).callOf n = (s.callOf n).emittedBy sl cl win := callOf_modCall_same ..

@[simp] theorem place_emitted (g : Leg) (w : Nat) (f : Option StoredFrame) : (g.emitted w f).place = g.place := by
  cases f <;> rfl

section

variable {s : State} {n : Circuit} {sl cl : Leg} {win : Window} (hsl : (s.callOf n).serving = some sl)
  (hcl : (s.callOf n).candidate = some cl) (hw : (s.callOf n).window = some win)

include hsl hcl hw

/-- R131, steps 5 and 6: an emission by which of the two miss runs have reached L. -/
theorem emit_eq (est : Nat × Nat) :
    let w := (s.callOf n).profile.w
    let sl' := sl.emitted w (win.slots.at 0).serving
    let cl' := cl.emitted w (win.slots.at 0).candidate
    let u := s.emitted n sl cl win
    s.emit n est = match decide ((s.callOf n).profile.l ≤ sl'.miss), decide ((s.callOf n).profile.l ≤ cl'.miss) with
      | true, true => u.loseBoth n sl' cl' est
      | true, false => u.commitByLoss n sl' cl' est
      | false, true => u.abandonByLoss n sl' cl' est
      | false, false => u.evaluate n := by
  have hu : (s.forwardSlot n (win.slots.at 0)).modCall n (fun r => { r with
      serving := some (sl.emitted (s.callOf n).profile.w (win.slots.at 0).serving)
      candidate := some (cl.emitted (s.callOf n).profile.w (win.slots.at 0).candidate)
      window := some win.shift }) = s.emitted n sl cl win := by
    simp only [State.emitted, State.modCall, callOf_forwardSlot, CallRecord.emittedBy]
  intro w sl' cl' u
  simp only [u, ← hu]
  simp only [State.emit, hsl, hcl, hw]
  rfl

theorem emittedBy_like : (s.callOf n).Like ((s.emitted n sl cl win).callOf n) := by
  rw [callOf_emitted]
  refine ⟨rfl, rfl, rfl, rfl, ?_, ?_, rfl, by rw [hw]; rfl⟩
  · rw [hsl]; exact congrArg some (place_emitted ..)
  · rw [hcl]; exact congrArg some (place_emitted ..)

theorem alters_emitted (ok : Prop) (hs : (s.callOf n).state = .bridged) : Alters ok s (s.emitted n sl cl win) n := by
  refine alters_like (by simp [hs]) (fun m hm => ?_) ?_ ?_ (emittedBy_like hsl hcl hw)
  · exact (callOf_modCall_other _ _ hm).trans (callOf_forwardSlot ..)
  · show (s.forwardSlot n _).call.freeQueue = _
    rw [forwardSlot_call]
  · show (s.forwardSlot n _).call.bearers = _
    rw [forwardSlot_call]

end

/-- R105: the dwell count after an evaluation of the legs `sl` and `cl`. -/
def CallRecord.lead (r : CallRecord) (sl cl : Leg) : Nat := if sl.q + r.profile.h ≤ cl.q then r.dwell + 1 else 0

theorem evaluate_eq {s : State} {n : Circuit} {sl cl : Leg} (hsl : (s.callOf n).serving = some sl)
    (hcl : (s.callOf n).candidate = some cl) : s.evaluate n =
      if (sl.q < (s.callOf n).profile.f ∧ (s.callOf n).profile.f ≤ cl.q) ∨
          (s.callOf n).lead sl cl = (s.callOf n).profile.t then s.commit n sl cl
      else s.modCall n fun r => { r with dwell := (s.callOf n).lead sl cl } := by
  simp only [State.evaluate, hsl, hcl]
  by_cases hf : sl.q < (s.callOf n).profile.f ∧ (s.callOf n).profile.f ≤ cl.q
  · rw [if_pos hf, if_pos (.inl hf)]
  · rw [if_neg hf]
    simp only [hf, false_or]
    rfl

/-- R128: the window of call `n` has a base. -/
def State.basedOn (s : State) (n : Circuit) (q : Seq) : State :=
  s.modCall n fun r => { r with window := r.window.map (Window.based · q) }

theorem callOf_basedOn (s : State) (n : Circuit) (q : Seq) : (s.basedOn n q).callOf n =
    { s.callOf n with window := (s.callOf n).window.map (Window.based · q) } := callOf_modCall_same ..

/-- R128, R129: a frame from a leg of a BRIDGED call is late, a duplicate, placed in the window, or past it. -/
theorem windowFrame_cases (s : State) (n : Circuit) (role : LegRole) (c : CellId) (k : SlotId) (v : Voice) :
    let u := s.basedOn n v.seq
    let est := (s.callOf n).estimates
    s.windowFrame n role c k v = u.lateDiscard c ∨ s.windowFrame n role c k v = u ∨
      (∃ o : Fin 4, s.windowFrame n role c k v = u.placeFrame n role o v est) ∨
      4 ≤ (u.callOf n).offset v.seq ∧ (u.callOf n).offset v.seq < 128 ∧ s.windowFrame n role c k v =
        (State.emitUntil n est (v.seq - 3) emitFuel u).afterAdvance n role c k v est := by
  generalize hx : s.windowFrame n role c k v = x
  simp only [State.windowFrame] at hx
  split at hx
  · exact .inl hx.symm
  · next hlate =>
    split at hx
    · rcases (ite_eq_or_eq _ _ _).imp hx.symm.trans hx.symm.trans with h | h
      · exact .inr (.inl h)
      · exact .inr (.inr (.inl ⟨_, h⟩))
    · next hpast => exact .inr (.inr (.inr ⟨Nat.le_of_not_lt hpast, Nat.lt_of_not_le hlate, hx.symm⟩))

namespace Emits

variable {P : State → Prop} (k : Emits P) {s : State} {n : Circuit}

include k

theorem evaluate (hs : (s.callOf n).state = .bridged) (h : P s) : P (s.evaluate n) := by
  cases hsl : (s.callOf n).serving with
  | none => simpa [State.evaluate, hsl] using h
  | some sl =>
    cases hcl : (s.callOf n).candidate with
    | none => simpa [State.evaluate, hsl, hcl] using h
    | some cl =>
      rw [evaluate_eq hsl hcl]
      split
      · exact k.commit hs hsl hcl h
      · exact k.modCall (by simp [hs]) ⟨rfl, rfl, rfl, rfl, rfl, rfl, rfl, rfl⟩ rfl h

theorem emit (est : Nat × Nat) (hs : (s.callOf n).state = .bridged) (h : P s) : P (s.emit n est) := by
  cases hsl : (s.callOf n).serving with
  | none => simpa [State.emit, hsl] using h
  | some sl =>
    cases hcl : (s.callOf n).candidate with
    | none => simpa [State.emit, hsl, hcl] using h
    | some cl =>
      cases hw : (s.callOf n).window with
      | none => simpa [State.emit, hsl, hcl, hw] using h
      | some win =>
        have hu := k.rewindow (alters_emitted hsl hcl hw True hs) h
        have hn := callOf_emitted s n sl cl win
        have hs' : ((s.emitted n sl cl win).callOf n).state = .bridged := by rw [hn]; exact hs
        have hsl' := congrArg CallRecord.serving hn
        have hcl' := congrArg CallRecord.candidate hn
        rw [emit_eq hsl hcl hw]
        split
        · exact k.loseBoth hs' hsl' hcl' _ hu
        · exact k.commitByLoss hs' hsl' hcl' _ hu
        · exact k.abandonByLoss hs' hsl' hcl' _ hu
        · exact k.evaluate hs' hu

theorem emitUntil (est : Nat × Nat) (goal : Seq) (fuel : Nat) :
    ∀ {s : State}, P s → P (State.emitUntil n est goal fuel s) := by
  induction fuel with
  | zero => exact id
  | succ fuel ih =>
    intro s h
    simp only [State.emitUntil]
    split
    · next he =>
      have hs : (s.callOf n).state = .bridged := by
        simp only [CallRecord.emits, Bool.and_eq_true, beq_iff_eq] at he; exact he.1
      exact ih (k.emit est hs h)
    · exact h

theorem setWindow (hs : (s.callOf n).state = .bridged) {f : CallRecord → CallRecord}
    (hf : (s.callOf n).Like (f (s.callOf n))) (h : P s) : P (s.modCall n f) :=
  k.rewindow (alters_modCall (by simp [hs]) hf) h

theorem placeFrame (hs : (s.callOf n).state = .bridged) (role : LegRole) (o : Fin 4) (v : Voice) (est : Nat × Nat)
    (h : P s) : P (s.placeFrame n role o v est) := by
  simp only [State.placeFrame]
  split
  · exact h
  · next win hw =>
    refine k.emitUntil _ _ _ (k.setWindow hs (f := fun r => { r with
      window := some { win with slots := Table.put win.slots o _ } }) ?_ h)
    exact ⟨rfl, rfl, rfl, rfl, rfl, rfl, rfl, by rw [hw]; rfl⟩

theorem afterAdvance (role : LegRole) (c : CellId) (j : SlotId) (v : Voice) (est : Nat × Nat) (h : P s) :
    P (s.afterAdvance n role c j v est) := by
  simp only [State.afterAdvance]
  split
  · next hs =>
    split
    · exact k.placeFrame hs _ _ _ _ h
    · exact h
  · split
    · next hs => exact k.activeFrame (by simp [hs.1]) _ _ h
    · exact k.same (by simp) h

theorem windowFrame (hs : (s.callOf n).state = .bridged) (role : LegRole) (c : CellId) (j : SlotId) (v : Voice)
    (h : P s) : P (s.windowFrame n role c j v) := by
  have hw : P (s.basedOn n v.seq) := k.setWindow hs ⟨rfl, rfl, rfl, rfl, rfl, rfl, rfl, Option.isSome_map⟩ h
  have hs' : ((s.basedOn n v.seq).callOf n).state = .bridged := by rw [callOf_basedOn]; exact hs
  rcases windowFrame_cases s n role c j v with e | e | ⟨o, e⟩ | ⟨-, -, e⟩ <;> rw [e]
  · exact k.same (State.modUnit_call ..) hw
  · exact hw
  · exact k.placeFrame hs' _ _ _ _ hw
  · exact k.afterAdvance _ _ _ _ _ (k.emitUntil _ _ _ hw)

theorem deadlineExpired (j : Fin 4) (h : P s) : P (s.deadlineExpired n j) := k.emitUntil _ _ _ h

end Emits

/-! ### SEIZE -/

theorem windowOk_new (b : Option Seq) : (Window.new b).Ok := by
  constructor <;> simp [Window.new, MergeSlot.vacant, MergeSlot.full]

section

variable {s : State} {n : Circuit} {z : Seize}

theorem bearer_bind (s : State) (n : Circuit) (f : CallRecord → CallRecord) (z : Seize) (b : Bearer) (d : CellId)
    (j : SlotId) : (((s.modCall n f).setBearer z.cell z.slot b).grantSeize z).bearer d j =
      if d = z.cell ∧ j = z.slot then b else s.bearer d j := by
  simp only [State.grantSeize, bearer_placeSig, bearer_setBearer, bearer_modCall]

theorem callOf_bind (s : State) (n : Circuit) (f : CallRecord → CallRecord) (z : Seize) (b : Bearer) :
    (((s.modCall n f).setBearer z.cell z.slot b).grantSeize z).callOf n = f (s.callOf n) := by
  simp only [State.grantSeize, callOf_placeSig, callOf_setBearer, callOf_modCall_same]

theorem callOf_bind_other (s : State) {n m : Circuit} (f : CallRecord → CallRecord) (z : Seize) (b : Bearer) (h : m ≠ n) :
    (((s.modCall n f).setBearer z.cell z.slot b).grantSeize z).callOf m = s.callOf m := by
  simp only [State.grantSeize, callOf_placeSig, callOf_setBearer, callOf_modCall_other s f h]

theorem freeQueue_bind (s : State) (n : Circuit) (f : CallRecord → CallRecord) (z : Seize) (b : Bearer) :
    (((s.modCall n f).setBearer z.cell z.slot b).grantSeize z).call.freeQueue = s.call.freeQueue := by
  simp [State.grantSeize, State.setBearer, State.modCall]

/-- R60: `q` is `r` made ACTIVE on the leg `g`. -/
structure CallRecord.ActiveOn (r q : CallRecord) (g : Leg) : Prop where
  state : q.state = .active
  serving : q.serving = some g
  candidate : q.candidate = r.candidate
  lastServing : q.lastServing = none ∨ r.state = .paging ∧ q.lastServing = r.lastServing
  window : q.window = r.window
  hid : q.hid = r.hid
  direction : q.direction = r.direction
  mclass : q.mclass = r.mclass

/-- R60: a call that holds a HID and no leg is bound to the bearer of the SEIZE as ACTIVE. -/
theorem alters_activate {f : CallRecord → CallRecord} {g : Leg} (hg : g.place = (z.cell, z.slot))
    (hs : (s.callOf n).state = .paging ∨ (s.callOf n).state = .holding)
    (hf : (s.callOf n).ActiveOn (f (s.callOf n)) g) :
    Alters (s.bearer z.cell z.slot = .free) s
      (((s.modCall n f).setBearer z.cell z.slot (.serving n)).grantSeize z) n := by
  have hn := callOf_bind s n f z (.serving n)
  have none (hok : (s.callOf n).shapeOk = true) :
      (s.callOf n).serving = none ∧ (s.callOf n).candidate = none ∧ (s.callOf n).window = none := by
    rcases hs with h | h <;> simp_all [CallRecord.shapeOk]
  refine alters_bind (fun m hm => callOf_bind_other s f z _ hm)
    (.inl ⟨by rcases hs with h | h <;> simp [h], freeQueue_bind ..⟩) (.inl (by rw [hn, hf.state]))
    (.inl ⟨by rcases hs with h | h <;> simp [h, CallState.inCall], by rw [hn, hf.hid]⟩) (fun h1 h2 => ?_)
    (fun d j => bearer_bind s n f z _ d j) (.inl rfl) (fun ht d j => ?_) fun ht d j => ?_
  · obtain ⟨-, hc, hw⟩ := none h1
    have hlast : (f (s.callOf n)).lastServing = Option.none := by
      rcases hf.lastServing with e | ⟨hp, e⟩
      · exact e
      · rw [e]; simp_all [CallRecord.shapeOk]
    rw [hn]
    constructor
    · simp [CallRecord.shapeOk, hf.state, hf.serving, hf.candidate, hlast, hf.window, hc, hw]
    · rcases hs with h | h <;> simpa [CallRecord.claimOk, hf.state, hf.hid, hf.direction, hf.mclass, h] using h2
  · rw [hn, hf.serving, (none (ht.calls n).1).1]
    show some g.place = _ ↔ _
    simp [hg, eq_comm]
  · rw [hn, hf.candidate, (none (ht.calls n).1).2.1]
    simp

/-- R102: an ACTIVE call is bound to the bearer of the SEIZE as BRIDGED, by its candidate leg. -/
theorem alters_bridge {f : CallRecord → CallRecord} {g : Leg} {p : Profile} {x : Option Time} {w : Window}
    (hg : g.place = (z.cell, z.slot)) (hs : (s.callOf n).state = .active)
    (hf : f (s.callOf n) = { s.callOf n with
      state := .bridged, serving := (s.callOf n).serving.map fun g => { g with miss := 0 }
      candidate := some g, profile := p, dwell := 0, bridgeTimer := x, window := some w }) :
    Alters (s.bearer z.cell z.slot = .free) s
      (((s.modCall n f).setBearer z.cell z.slot (.candidate n)).grantSeize z) n := by
  have hn := callOf_bind s n f z (.candidate n)
  rw [hf] at hn
  refine alters_bind (fun m hm => callOf_bind_other s f z _ hm) (.inl ⟨by simp [hs], freeQueue_bind ..⟩)
    (.inr (by rw [hn])) (.inl ⟨by simp [hs, CallState.inCall], by rw [hn]⟩) (fun h1 h2 => ?_)
    (fun d j => bearer_bind s n f z _ d j) (.inr rfl) (fun ht d j => ?_) fun ht d j => ?_
  · rw [hn]
    simp_all [CallRecord.shapeOk, CallRecord.claimOk]
  · have hplace : ((s.callOf n).serving.map fun g => { g with miss := 0 }).map Leg.place =
        (s.callOf n).serving.map Leg.place := by cases (s.callOf n).serving <;> rfl
    rw [hn]
    exact (legOn_congr hplace d j).trans (by simp)
  · have hnone : (s.callOf n).candidate = none := by
      have := (ht.calls n).1
      simp_all [CallRecord.shapeOk]
    rw [hn, hnone]
    show some g.place = _ ↔ _
    simp [hg, eq_comm]

end

end Sys2Proof.Machine
end

section
/-! Induction over steps for properties of the Call Table: a property that the changes of the Call Table keep is kept by
every step. -/

namespace Sys2Proof.Machine

open Sys2Proof

/-- R80: every call is FREE, every circuit is in the free queue in order, and every bearer is FREE. -/
structure State.Emptied (s : State) : Prop where
  calls : ∀ n, ∃ p, s.callOf n = .free p
  queue : s.call.freeQueue = ascending 192
  bearers : ∀ c k, s.bearer c k = .free

/-- A property of the Call Table that every event keeps: the changes of one call, a leg bound to a bearer that has been
freed, the frames of the merge window, the circuits of a lost link put in order, and the resets. -/
structure StepMoves (P : State → Prop) : Prop extends Moves P where
  bind : ∀ {s t : State} {c : CellId} {k : SlotId} {n : Circuit}, P s → P (s.freeBearer c k) →
    Alters ((s.freeBearer c k).bearer c k = .free) (s.freeBearer c k) t n → KeepsWindow (s.freeBearer c k) t n → P t
  window : ∀ {s : State} {n : Circuit} (role : LegRole) (c : CellId) (k : SlotId) (v : Voice),
    (s.callOf n).state = .bridged → P s → P (s.windowFrame n role c k v)
  deadline : ∀ {s : State} {n : Circuit} (k : Fin 4), (s.callOf n).state = .bridged → P s → P (s.deadlineExpired n k)
  sort : ∀ {s t : State}, s.call.freeQueue <+: t.call.freeQueue → P t → P (t.sortFreed s.call.freeQueue)
  reset : ∀ {s : State}, s.Emptied → P s

/-! ### The free queue grows at its tail -/

section

variable (s : State) (n : Circuit)

theorem queue_toFree : s.call.freeQueue <+: (s.toFree n).call.freeQueue := by
  simp only [State.toFree]
  split
  · exact List.prefix_rfl
  · exact List.prefix_append _ _

theorem queue_leaveClearing : s.call.freeQueue <+: (s.leaveClearing n).call.freeQueue := by
  simp only [State.leaveClearing]
  split
  · exact queue_toFree s n
  · exact List.prefix_rfl

theorem queue_enterHolding (g : Leg) (b : CallState) (q : Nat) (qc : Option Nat) :
    s.call.freeQueue <+: (s.enterHolding n g b q qc).call.freeQueue := by
  simp only [State.enterHolding]
  split
  · refine List.IsPrefix.trans ?_ (queue_toFree _ n)
    simp [State.modCall, State.freeReleasing]
  · simp [State.modCall, State.freeReleasing]

theorem queue_keepLeg (g : Leg) : (s.keepLeg n g).call.freeQueue = s.call.freeQueue := by
  simp [State.keepLeg, State.modCall, State.setBearer]

theorem queue_loseLegs (a b : Bool) : s.call.freeQueue <+: (s.loseLegs n a b).call.freeQueue := by
  simp only [State.loseLegs]
  split
  · split
    · exact queue_enterHolding (s.setBearer ..) n ..
    · exact List.prefix_rfl
  · split
    · exact queue_enterHolding ((s.setBearer ..).setBearer ..) n ..
    · simp [State.commitByLoss, queue_keepLeg, State.setBearer, State.captureBridge]
    · simp [State.abandonByLoss, queue_keepLeg, State.setBearer, State.captureBridge]
    · exact List.prefix_rfl
  · exact List.prefix_rfl

theorem queue_foldl {f : State → Circuit → State} (h : ∀ s n, s.call.freeQueue <+: (f s n).call.freeQueue)
    (l : List Circuit) : ∀ s : State, s.call.freeQueue <+: (l.foldl f s).call.freeQueue := by
  induction l with
  | nil => exact fun _ => List.prefix_rfl
  | cons n l ih => exact fun s => (h s n).trans (ih (f s n))

end

/-! ### Messages that touch no call -/

theorem assignContexts_call (s : State) : s.assignContexts.call = s.call := by
  obtain ⟨_, _, _, h⟩ := assignContexts_eq s
  rw [h]

theorem reportWrite_call (s : State) (hids : List Hid) : (s.reportWrite hids).call = s.call := by
  simp only [State.reportWrite, assignContexts_call]

theorem enrolAt_call (s : State) (c : CellId) (h : Hid) (r : Option Record) : (s.enrolAt c h r).state.call = s.call := by
  simp only [State.enrolAt]
  split
  · exact State.placeSig_call ..
  · split <;> exact State.placeSig_call ..

theorem campAt_call (s : State) (c : CellId) (h : Hid) (r : Option Record) : (s.campAt c h r).state.call = s.call := by
  simp only [State.campAt]
  split
  · exact State.placeSig_call ..
  · split
    · exact State.placeSig_call ..
    · rfl

theorem relayUp_call (s : State) (c : CellId) (k : SlotId) (p : List Byte) : (s.relayUp c k p).call = s.call := by
  simp only [State.relayUp]
  split <;> simp

theorem relayDown_call (s : State) (n : Circuit) (p : List Byte) : (s.relayDown n p).call = s.call := by
  simp only [State.relayDown]
  split <;> simp

theorem copyDown_call (s : State) (v : Voice) (g : Option Leg) : (s.copyDown v g).call = s.call := by
  cases g <;> simp [State.copyDown]

theorem downlink_call (s : State) (n : Circuit) (v : Voice) : (s.downlink n v).call = s.call := by
  simp only [State.downlink]
  split <;> simp [copyDown_call]

/-- A message acted on changes the Call Table by its action alone, or not at all. -/
theorem actWith_call (s : State) (act : Act) (l : LinkId) (m : Msg) (e : CacheEntry) :
    (s.actWith act l m e).call = (act s l m (some e.record)).state.call ∨ (s.actWith act l m e).call = s.call := by
  simp only [State.actWith]
  split
  · exact .inl rfl
  · split
    · exact .inl rfl
    · split
      · exact .inl (State.changeEntry_call ..)
      · exact .inr rfl

/-! ### Completions and requests that touch no call -/

section

variable {s u : State}

theorem setReady_call (s : State) (c : ContextId) (h : Hid) (b : Bool) : (s.searchDone c h b).call = s.call := by
  simp only [State.searchDone, assignContexts_call]

theorem completeSearchRead_call (h : s.completeSearchRead = some u) : u.call = s.call := by
  simp only [State.completeSearchRead] at h
  split at h
  · split at h
    · cases h
      simp only [State.searchRead]
      split
      · rfl
      · split
        · rfl
        · split <;> simp [setReady_call]
    · cases h; rfl
  · cases h

theorem completeWriteThrough_call (h : s.completeWriteThrough = some u) : u.call = s.call := by
  simp only [State.completeWriteThrough] at h
  split at h
  · cases h; simp
  · cases h

theorem mgmtRead_call (s : State) (op : MgmtOp) (scan : Scan) : (s.mgmtRead op scan).call = s.call := by
  simp only [State.mgmtRead, State.mgmtFound, State.mgmtNotFound]
  split
  · split <;> simp [finish_call]
  · rfl
  · split
    · split <;> simp [finish_call]
    all_goals simp [finish_call]
  · rfl

theorem completeMgmtRead_call (h : s.completeMgmtRead = some u) : u.call = s.call := by
  simp only [State.completeMgmtRead] at h
  split at h
  · split at h
    · cases h; exact mgmtRead_call ..
    · cases h; rfl
  · cases h

theorem completeMgmtWrite_call (h : s.completeMgmtWrite = some u) : u.call = s.call := by
  simp only [State.completeMgmtWrite] at h
  split at h
  · cases h
    rw [finish_call, reportWrite_call]
    split <;> simp
  · cases h

theorem completeEmptyWrite_call (h : s.completeEmptyWrite = some u) : u.call = s.call := by
  simp only [State.completeEmptyWrite] at h
  split at h
  · cases h
    rw [finish_call, reportWrite_call]
    simp
  · cases h

theorem completeFormatWrite_call (h : s.completeFormatWrite = some u) : u.call = s.call := by
  simp only [State.completeFormatWrite] at h
  split at h
  · cases h; rfl
  · cases h

theorem sweepWritten_call (s : State) (m : SweepMode) (b l : BucketId) (i : Table Record 4) (todo : List SweepWrite) :
    (s.sweepWritten m b l i todo).call = s.call := (samePort_sweepWritten s m b l i todo).call

theorem completeSweepRead_call (h : s.completeSweepRead = some u) : u.call = s.call := by
  simp only [State.completeSweepRead] at h
  split at h
  · split at h
    · cases h
      simp only [State.sweepRead]
      split
      · rw [sweepWritten_call]; rfl
      · rfl
    · cases h; rfl
  · cases h

theorem completeSweepWrite_call (h : s.completeSweepWrite = some u) : u.call = s.call := by
  simp only [State.completeSweepWrite] at h
  split at h
  · split at h
    · cases h
      rw [sweepWritten_call, reportWrite_call]
      simp
    · cases h; simp
  · cases h

theorem completeOrphan_call (h : s.completeOrphan = some u) : u.call = s.call := by
  simp only [State.completeOrphan] at h
  split at h
  · cases h; rfl
  · cases h; rfl
  · cases h

end

end Sys2Proof.Machine
end

section
/-! Every step, as changes of the Call Table. -/

namespace Sys2Proof.Machine

open Sys2Proof

/-- R62, R85: a FREE call made PAGING by an OFFER, for a HID that no call holds. -/
theorem alters_offer {ok : Prop} {s : State} {n : Circuit} {h : Hid} (r : Record) (hs : (s.callOf n).state = .free)
    (hc : s.findCall h = none) :
    Alters ok s (State.modCall { s with call := { s.call with freeQueue := s.call.freeQueue.filter (· ≠ n) } } n fun rec =>
      { CallRecord.free rec.profile with
        state := .paging, hid := some h, direction := some .incoming, mclass := some r.mclass
        pageCell := r.location }) n := by
  let f : CallRecord → CallRecord := fun rec => { CallRecord.free rec.profile with
    state := .paging, hid := some h, direction := some .incoming, mclass := some r.mclass, pageCell := r.location }
  let t : State := State.modCall { s with call := { s.call with freeQueue := s.call.freeQueue.filter (· ≠ n) } } n f
  show Alters ok s t n
  have hn : t.callOf n = f (s.callOf n) := callOf_modCall_same _ n f
  have hb (c : CellId) (k : SlotId) : t.bearer c k = s.bearer c k := bearer_modCall _ n f c k
  exact {
    others := fun m hm => callOf_modCall_other _ f hm
    queue := .inr (.inr ⟨hs, rfl⟩)
    live := by rw [hn]; exact CallState.noConfusion
    hid := fun _ => .inr ⟨h, by rw [hn], hc⟩
    fields := fun _ _ => by rw [hn]; exact ⟨rfl, rfl⟩
    own := fun _ ht c k => by
      have hshape := (ht.calls n).1
      have := bearer_cases ht.bearers n c k
      simp_all [CallRecord.shapeOk, CallRecord.free, f]
    foreign := fun _ _ c k => .inl (hb c k)
    releasing := fun c k m hm => by
      rw [hb] at hm
      refine .inr ⟨hm, fun _ hr => ?_⟩
      simp [CallState.mayRelease, hs] at hr }

/-- R63: a FREE call made ACTIVE by an origin, for a HID that no call holds. -/
theorem alters_origin {s : State} {n : Circuit} {z : Seize} {rest : List Circuit} (r : Record)
    (hq : s.call.freeQueue = n :: rest) (hc : s.findCall z.hid = none) :
    Alters (s.bearer z.cell z.slot = .free) s (s.acceptOrigin z r n) n := by
  let pg := s.servingFor z r.mclass
  let u : State := { s with call := { s.call with freeQueue := s.call.freeQueue.tail } }
  let f : CallRecord → CallRecord := fun _ => { (CallRecord.free pg.1).activate pg.1 pg.2 with
    hid := some z.hid, direction := some .outgoing, mclass := some r.mclass }
  let t : State := ((u.modCall n f).setBearer z.cell z.slot (.serving n)).grantSeize z
  have ht : s.acceptOrigin z r n = t.placeExch (originFrame n z.hid z.cell) := rfl
  have hcall : (s.acceptOrigin z r n).call = t.call := by rw [ht, State.placeExch_call]
  have hn : (s.acceptOrigin z r n).callOf n = f (s.callOf n) := by
    rw [ht, callOf_placeExch]; exact callOf_bind u n f z _
  have free (hs : s.TableOk) : (s.callOf n).state = .free := (hs.freeQueue.2 n).1 (by simp [hq])
  have none (hs : s.TableOk) : (s.callOf n).serving = none ∧ (s.callOf n).candidate = none := by
    have h1 := free hs
    have h2 := (hs.calls n).1
    simp_all [CallRecord.shapeOk]
  refine alters_bind (c := z.cell) (k := z.slot) (b := .serving n) (fun m hm => ?_) (.inr (.inl ?_)) (.inl (by rw [hn]; rfl))
    (.inr ⟨z.hid, by rw [hn], hc⟩) (fun _ _ => by rw [hn]; exact ⟨rfl, rfl⟩) (fun d j => ?_) (.inl rfl)
    (fun hs d j => ?_) fun hs d j => ?_
  · rw [ht, callOf_placeExch]; exact callOf_bind_other u f z _ hm
  · rw [hcall, freeQueue_bind]; simp [u, hq]
  · rw [ht, bearer_placeExch]; exact bearer_bind u n f z _ d j
  · rw [hn, (none hs).1]
    show some (z.cell, z.slot) = _ ↔ _
    simp [eq_comm]
  · rw [hn, (none hs).2]
    show (Option.none : Option (CellId × SlotId)) = some (d, j) ↔ _
    simp

namespace StepMoves

variable {P : State → Prop} (k : StepMoves P) {s : State}

include k

/-! ### Voice -/

theorem legFrame (n : Circuit) (role : LegRole) (c : CellId) (j : SlotId) (v : Voice) (h : P s) :
    P (s.legFrame n role c j v) := by
  have hr (hl : (s.callOf n).state ≠ .free) := k.restartSilence hl role h
  have hstate : ((s.restartSilence n role).callOf n).state = (s.callOf n).state := by
    rw [State.restartSilence, callOf_modCall_same]; cases role <;> rfl
  simp only [State.legFrame]
  split
  · next hs => exact k.activeFrame (by rw [hstate, hs]; exact CallState.noConfusion) _ _ (hr (by simp [hs]))
  · next hs => exact k.window _ _ _ _ (hstate.trans hs) (hr (by simp [hs]))
  · exact k.same (by simp) h

theorem uplinkFrame (c : CellId) (j : SlotId) (v : Voice) (h : P s) : P (s.uplinkFrame c j v) := by
  simp only [State.uplinkFrame]
  split
  · exact k.legFrame _ _ _ _ _ h
  · exact k.legFrame _ _ _ _ _ h
  all_goals exact k.same (by simp) h

/-! ### SEIZE -/

section

variable {z : Seize} (h : P s) (hv : P (s.freeBearer z.cell z.slot))

include hv

theorem deny (x : DenyReason) : P ((s.freeBearer z.cell z.slot).deny z x).state :=
  k.same (State.placeSig_call ..) hv

include h

theorem seizeForOrigin (r : Option Record) : P ((s.freeBearer z.cell z.slot).seizeForOrigin z r).state := by
  simp only [State.seizeForOrigin]
  split
  · exact k.deny hv _
  · next r =>
    split
    · exact k.deny hv _
    · split
      · exact k.deny hv _
      · split
        · exact k.deny hv _
        · next hc =>
          split
          · split
            · next hq =>
              refine k.bind h hv (alters_origin r hq (by simpa using hc)) (keepsWindow_none ?_)
              rw [State.acceptOrigin, callOf_placeExch, callOf_bind]
              rfl
            · exact k.deny hv _
          · exact k.deny hv _

/-- R60: a call without a leg made ACTIVE on the bearer that has been freed. -/
theorem activate {n : Circuit} {f : CallRecord → CallRecord} {g : Leg} (hg : g.place = (z.cell, z.slot))
    (hs : ((s.freeBearer z.cell z.slot).callOf n).state = .paging ∨
      ((s.freeBearer z.cell z.slot).callOf n).state = .holding)
    (hf : ((s.freeBearer z.cell z.slot).callOf n).ActiveOn (f ((s.freeBearer z.cell z.slot).callOf n)) g) :
    P ((((s.freeBearer z.cell z.slot).modCall n f).setBearer z.cell z.slot (.serving n)).grantSeize z) :=
  k.bind h hv (alters_activate hg hs hf) (keepsWindow_same (by rw [callOf_bind, hf.window]))

theorem seizeForAnswer : P ((s.freeBearer z.cell z.slot).seizeForAnswer z).state := by
  simp only [State.seizeForAnswer]
  split
  · split
    · next n _ hs =>
      exact k.same (State.placeExch_call ..)
        (k.activate h hv rfl (.inl hs) ⟨rfl, rfl, rfl, .inr ⟨hs, rfl⟩, rfl, rfl, rfl, rfl⟩)
    · exact k.deny hv _
  · exact k.deny hv _

theorem seizeForMoveIn : P ((s.freeBearer z.cell z.slot).seizeForMoveIn z).state := by
  simp only [State.seizeForMoveIn]
  split
  · exact k.deny hv _
  · next n _ =>
    split
    · exact k.deny hv _
    · next hs =>
      simp only [State.reenter]
      split
      · exact k.deny hv _
      · exact k.activate h hv rfl (.inr hs) ⟨rfl, rfl, rfl, .inl rfl, rfl, rfl, rfl, rfl⟩
    · next g hs _ =>
      simp only [State.testMoveIn]
      split
      · exact k.deny hv _
      · split
        · refine k.bind h hv (n := n) (alters_bridge rfl hs rfl) fun w hw => .inr ?_
          simp only [State.enterBridge, callOf_bind] at hw
          cases hw
          exact windowOk_new _
        · exact k.deny hv _
    · exact k.deny hv _

end

theorem seizeWith (z : Seize) (r : Option Record) {purpose : State → Handled}
    (hp : P s → P (s.freeBearer z.cell z.slot) → P (purpose (s.freeBearer z.cell z.slot)).state) (h : P s) :
    P (s.seizeWith z r purpose).state := by
  simp only [State.seizeWith]
  split
  · exact hp h (k.freeBearer _ _ h)
  · exact k.same (s := s) (by simp) h

/-! ### Messages -/

theorem acceptOffer {n : Circuit} {g : Hid} (r : Record) (hs : (s.callOf n).state = .free) (hc : s.findCall g = none)
    (h : P s) : P (s.acceptOffer n g r) := by
  refine k.stage1 (by rw [callOf_modCall_same]) (k.alters (alters_offer r hs hc) (keepsWindow_none ?_) h)
  rw [callOf_modCall_same]
  rfl

theorem offered (n : Circuit) (g : Hid) (r : Option Record) (h : P s) : P (s.offered n g r) := by
  have refuse (x : EndedCause) : P (s.placeExch (endedFrame n x)) := k.same (by simp) h
  simp only [State.offered]
  split
  · split
    · exact refuse _
    · next hs =>
      split
      · exact refuse _
      · split
        · exact refuse _
        · next hc =>
          split
          · exact refuse _
          · exact k.acceptOffer _ (by simpa using hs) (by simpa using hc) h
  · exact h

/-- Acting on any message, before its record is changed. -/
theorem actOf (m : Msg) (l : LinkId) (x : Msg) (r : Option Record) (h : P s) : P (Machine.actOf m s l x r).state := by
  unfold Machine.actOf
  split
  · simp only [actEnrol]; split
    · exact k.same (enrolAt_call ..) h
    · exact h
  · simp only [actCamp]; split
    · exact k.same (campAt_call ..) h
    · exact h
  · exact h
  · simp only [actSeizeOrigin]; split
    · exact k.seizeWith _ _ (fun h hv => k.seizeForOrigin h hv _) h
    · exact h
  · simp only [actSeizeAnswer]; split
    · exact k.seizeWith _ _ (fun h hv => k.seizeForAnswer h hv) h
    · exact h
  · simp only [actSeizeMoveIn]; split
    · exact k.seizeWith _ _ (fun h hv => k.seizeForMoveIn h hv) h
    · exact h
  · simp only [actOffer]; split
    · exact k.offered _ _ _ h
    · exact h
  · simp only [actVacate]; split
    · exact k.vacated _ _ h
    · exact h
  · simp only [actState]; split
    · exact k.reported _ _ h
    · exact h
  · simp only [actRelayFromCell]; split
    · exact k.same (relayUp_call ..) h
    · exact h
  · simp only [actEnd]; split
    · exact k.endCircuit _ h
    · exact h
  · simp only [actRelayFromExchange]; split
    · exact k.same (relayDown_call ..) h
    · exact h

/-! ### Intake -/

theorem actWith (m x : Msg) (l : LinkId) (e : CacheEntry) (h : P s) : P (s.actWith (Machine.actOf m) l x e) := by
  rcases actWith_call s (Machine.actOf m) l x e with he | he
  · exact k.same he (k.actOf m l x _ h)
  · exact k.same he h

theorem actWithout (m x : Msg) (l : LinkId) (h : P s) : P (s.actWithout (Machine.actOf m) l x) := k.actOf m l x _ h

theorem lookup (m x : Msg) (l : LinkId) (g : Hid) (h : P s) : P (s.lookup (Machine.actOf m) l x g) := by
  simp only [State.lookup]
  split
  · exact k.same (s := s) rfl h
  · split
    · exact k.actWithout m x l h
    · split
      · exact k.actWith m x l _ (k.same (State.touch_call ..) h)
      · exact k.same (s := s) (assignContexts_call _) h

theorem dispatch (m x : Msg) (l : LinkId) (h : P s) : P (s.dispatch (Machine.actOf m) l x) := by
  simp only [State.dispatch]
  split
  · exact k.lookup m x l _ h
  · exact k.actWithout m x l h

theorem takeParked (m : Msg) (g : Group) (p : Parked) (h : P s) : P (s.takeParked (Machine.actOf m) g p) := by
  simp only [State.takeParked]
  split
  · split
    · exact k.actWith m _ _ _ (k.same (State.touch_call ..) (k.same (s := s) rfl h))
    · exact k.same (s := s) (assignContexts_call _) h
  · exact k.actWithout m _ _ (k.same (s := s) rfl h)

theorem turn {u : State} {mine : Msg → Bool} {act : Act} (hp : Picks mine act) (ht : s.turn mine act = some u) (h : P s) :
    P u := by
  simp only [State.turn] at ht
  split at ht
  · split at ht
    · next hm => cases ht; rw [hp _ hm]; exact k.takeParked _ _ _ h
    · cases ht
  · split at ht
    · split at ht
      · next hm => cases ht; rw [hp _ hm]; exact k.dispatch _ _ _ (k.same (takeFrame_call ..) h)
      · cases ht
    · cases ht
  · cases ht

theorem tryRelease {u : State} (ht : s.tryRelease = some u) (h : P s) : P u := by
  simp only [State.tryRelease] at ht
  split at ht
  · next m _ =>
    split at ht
    · cases ht
      simp only [State.release]
      have h' : P { s with sig := { s.sig with held := none } } := k.same (s := s) rfl h
      split
      · exact k.actWithout _ _ _ h'
      · split
        · exact k.actWith _ _ _ _ h'
        · exact k.lookup _ _ _ _ h'
    · cases ht
  · cases ht

theorem settle (before : State) (h : P s) : P (s.settle before) := by
  have hr (v : State) (hv : P v) : P (v.tryRelease.getD v) := by
    cases ht : v.tryRelease with
    | none => exact hv
    | some w => exact k.tryRelease ht hv
  have hp {v : State} (hv : P v) : P (v.settlePort before) := k.same (samePort_settlePort v before).call hv
  have h1 := hp (hr s h)
  simp only [State.settle]
  refine k.same (State.judgeAttention_call ..) ?_
  split
  · next hw => exact hp (k.tryRelease hw h1)
  · exact h1

end StepMoves

end Sys2Proof.Machine
end

section
/-! Every command, and so every step, as changes of the Call Table. -/

namespace Sys2Proof.Machine

open Sys2Proof

theorem sendQueued_call (s : State) (l : LinkId) : (s.sendQueued l).call = s.call := by
  simp only [State.sendQueued]
  split
  · cases l <;> rfl
  · rfl

theorem sendFill_call (s : State) (l : LinkId) : (s.sendFill l).call = s.call := by
  simp only [State.sendFill]
  split
  · exact State.modUnit_call ..
  · rfl

theorem flagRun_call {s u : State} {l : LinkId} {run : List Byte} (h : s.flagRun l run = some u) : u.call = s.call := by
  simp only [State.flagRun] at h
  split at h <;> cases h <;> exact State.modUnit_call ..

theorem looped_call (s : State) (c : CellId) (run : List Byte) : (s.looped c run).call = s.call := by
  simp only [State.looped]
  split
  · simp
  · simp
  · split <;> simp

theorem readHeader_call (s : State) (body : List Byte) : (s.readHeader body).call = s.call := by
  simp only [State.readHeader, State.offerRequest]
  split
  · split
    · rfl
    · exact State.placeExch_call ..
  · exact State.protocolError_call ..

theorem voiceFromExchange_call (s : State) (v : Voice) : (s.voiceFromExchange v).call = s.call := by
  simp only [State.voiceFromExchange]
  split
  · exact downlink_call ..
  · exact State.protocolError_call ..

theorem discardMalformed_call {s u : State} (h : s.discardMalformed = some u) : u.call = s.call := by
  simp only [State.discardMalformed] at h
  split at h
  · split at h
    · cases h
    · cases h; simp
  · cases h

theorem emptied_restart (s : State) : s.restart.Emptied where
  calls n := ⟨(s.callOf n).profile, Table.at_map ..⟩
  queue := rfl
  bearers c k := by simp [State.bearer, State.restart, CallTable.restart, CallTable.reset]

theorem emptied_reset (p : List Instr) (o : Option PortOp) (m : List Host.Cell) : (State.pinReset p o m).Emptied where
  calls n := ⟨.default, Table.at_all ..⟩
  queue := rfl
  bearers c k := by simp [State.bearer, State.pinReset, CallTable.reset]

/-- R57: the loss of a cell's legs appends circuits to the free queue. -/
theorem queue_cellLegs (s : State) (c : CellId) (l m : List Circuit) : s.call.freeQueue <+:
    (m.foldl State.leaveClearing ((l.foldl (State.loseLegsAt c) s).freeReleasingAt c)).call.freeQueue :=
  (queue_foldl (fun s n => queue_loseLegs s n (legAt c (s.callOf n).serving) (legAt c (s.callOf n).candidate)) l s).trans
    (queue_foldl queue_leaveClearing m (State.freeReleasingAt _ c))

theorem Emptied.congr {s t : State} (h : t.call = s.call) (hs : s.Emptied) : t.Emptied where
  calls n := by simpa only [State.callOf, h] using hs.calls n
  queue := by rw [h]; exact hs.queue
  bearers c k := by simpa only [State.bearer, h] using hs.bearers c k

namespace StepMoves

variable {P : State → Prop} (k : StepMoves P) {s : State}

include k

/-! ### The ends of events -/

theorem judged {o : Option State} (ho : ∀ u, o = some u → P u) (h : P s) : P (s.judged o) := by
  cases o with
  | none => exact h
  | some u => exact k.same (State.judgeAttention_call ..) (ho u rfl)

theorem settled {o : Option State} (ho : ∀ u, o = some u → P u) (h : P s) : P (s.settled o) := by
  cases o with
  | none => exact h
  | some u => exact k.settle s (ho u rfl)

/-! ### Links and timers -/

theorem voiceFromCell (c : CellId) (v : Voice) (h : P s) : P (s.voiceFromCell c v) := by
  simp only [State.voiceFromCell]
  split
  · split
    · exact k.uplinkFrame _ _ _ h
    · exact k.same (State.protocolError_call ..) h
  · exact k.same (State.protocolError_call ..) h

/-- R71: a cell whose link has left UP. -/
theorem cellLost (c : CellId) (h : P s) : P (s.cellLost c) := by
  rw [State.cellLost]
  exact k.sort (queue_cellLegs s c _ _) (k.cellLegs c h)

theorem moveCell (c : CellId) (st : LinkState) (h : P s) : P (s.moveCell c st) := by
  have hm : P (s.modCell c fun u => u.enter st s.timeBase) := k.same (State.modCell_call ..) h
  simp only [State.moveCell]
  split
  · exact k.cellLost c hm
  · exact hm

theorem linkSilent (l : LinkId) (h : P s) : P (match l with
    | .cell c => s.cellSilent c
    | .exchange => s.exchSilent) := by
  cases l with
  | cell c => exact k.moveCell c .down (k.same (State.modUnit_call ..) h)
  | exchange => exact k.exchLost (k.same (State.modExch_call ..) h)

theorem control (a : CellAction) : ∀ u, P s → s.control a = some u → P u := by
  intro u h hu
  simp only [State.control] at hu
  split at hu
  · split at hu
    · cases hu
      simp only [State.withOperands]
      split
      · next x _ =>
        refine k.same (State.reply_call ..) ?_
        simp only [State.controlCell]
        split
        · exact k.moveCell _ _ h
        · exact h
      · exact k.same (State.reply_call ..) h
    · cases hu
  · cases hu

/-! ### Requests -/

theorem withOperands {α : Type} {q : MgmtRequest} {ops : Option α} {run : α → State} (hr : ∀ x, P (run x)) (h : P s) :
    P (s.withOperands q ops run) := by
  simp only [State.withOperands]
  split
  · exact hr _
  · exact k.same (State.reply_call ..) h

theorem whenFormatted {q : MgmtRequest} {run : State} (hr : P run) (h : P s) : P (s.whenFormatted q run) := by
  simp only [State.whenFormatted]
  split
  · exact k.same (State.reply_call ..) h
  · exact hr

theorem unlessSweeping {q : MgmtRequest} {run : State} (hr : P run) (h : P s) : P (s.unlessSweeping q run) := by
  simp only [State.unlessSweeping]
  split
  · exact k.same (State.reply_call ..) h
  · exact hr

theorem readRecord (q : MgmtRequest) (h : P s) : P (s.runReadRecord q) := by
  have hw : P (s.setWatch none) := k.same (State.setWatch_call ..) h
  refine k.withOperands (fun x => k.whenFormatted ?_ hw) hw
  simp only [State.readHid]
  split
  · exact k.same (by simp) h
  · exact k.same (by simp) h

theorem writeIfUnchanged (q : MgmtRequest) (h : P s) : P (s.runWriteIfUnchanged q) := by
  have hw : P (s.setWatch none) := k.same (State.setWatch_call ..) h
  refine k.withOperands (fun x => k.whenFormatted ?_ hw) hw
  split
  · exact k.same (by simp) h
  · exact k.same (by simp) h

theorem format (q : MgmtRequest) (h : P s) : P (s.runFormat q) := by
  refine k.withOperands (fun x => ?_) h
  split
  · exact k.same (State.reply_call ..) h
  · refine k.unlessSweeping (k.same (s := s) ?_ h) h
    rw [State.reply_call, State.startFormat, State.setWatch_call, assignContexts_call]

theorem linkTest (q : MgmtRequest) (h : P s) : P (s.runLinkTest q) := by
  refine k.withOperands (fun x => ?_) h
  split
  · exact k.same (by simp) h
  · exact k.same (by simp) h

/-- A request whose execution touches no call. -/
theorem request {α : Type} {ops : Option α} {run : α → State} {q : MgmtRequest} (hr : ∀ x, (run x).call = s.call)
    (h : P s) : P (s.withOperands q ops run) :=
  k.withOperands (fun x => k.same (hr x) h) h

end StepMoves

/-- An event for a frame or a request, or none. -/
theorem mapped {P : State → Prop} {α : Type} {o : Option α} {f : α → State} (hf : ∀ x, P (f x)) :
    ∀ u, o.map f = some u → P u := by
  intro u hu
  obtain ⟨x, -, rfl⟩ := Option.map_eq_some_iff.1 hu
  exact hf x

/-- An event that takes place under a condition. -/
theorem guarded {P : State → Prop} {t : State} {b : Bool} (h : b = true → P t) :
    ∀ u, (if b = true then some t else none) = some u → P u := by
  intro u hu
  split at hu
  · next hb => cases hu; exact h hb
  · cases hu

/-- Every command keeps the property. -/
theorem StepMoves.exec {P : State → Prop} (k : StepMoves P) {s t : State} (i : Instr) (h : P s)
    (he : Machine.exec i s = .next t) : P t := by
  have judged {o : Option State} (ho : ∀ u, o = some u → P u)
      (e : (Host.Outcome.next (s.judged o) : Host.Outcome State Fault Refusal) = .next t) : P t := by
    cases e; exact k.judged ho h
  have settled {o : Option State} (ho : ∀ u, o = some u → P u)
      (e : (Host.Outcome.next (s.settled o) : Host.Outcome State Fault Refusal) = .next t) : P t := by
    cases e; exact k.settled ho h
  have same {u : State} (hu : u.call = s.call) (e : (Host.Outcome.next u : Host.Outcome State Fault Refusal) = .next t) :
      P t := by
    cases e; exact k.same hu h
  have quiet {o : Option State} (ho : ∀ u, o = some u → u.call = s.call) : ∀ u, o = some u → P u :=
    fun u hu => k.same (ho u hu) h
  cases i with
  | pinReset => cases he; exact k.reset (emptied_reset ..)
  | fillFrameReceived l run => exact judged (mapped fun _ => k.same (State.heard_call ..) h) he
  | invalidFrameReceived l run =>
    refine judged (fun u hu => ?_) he
    split at hu
    · exact k.same (flagRun_call hu) h
    · cases hu
  | signallingArrival l run => exact judged (mapped fun _ => k.same (by simp) h) he
  | mgmtArrival run => exact judged (mapped fun _ => k.same (by rw [readHeader_call, State.received_call]) h) he
  | uplinkVoiceFrame c run => exact judged (mapped fun _ => k.voiceFromCell _ _ (k.same (State.received_call ..) h)) he
  | downlinkVoiceFrame run =>
    exact judged (mapped fun _ => k.same (by rw [voiceFromExchange_call, State.received_call]) h) he
  | loopedFrameReturn c run => exact judged (guarded fun _ => k.same (looped_call ..) h) he
  | frameSend l => exact same (sendQueued_call ..) he
  | frameSendEnd l => exact same (State.sent_call ..) he
  | fillFrameSend l => exact same (sendFill_call ..) he
  | testFrameSend c => exact same (State.modCell_call ..) he
  | linkSilenceExpiry l => exact judged (guarded fun _ => k.linkSilent l h) he
  | malformedMessage => exact judged (quiet fun _ => discardMalformed_call) he
  | enrol => exact settled (fun _ hu => k.turn (fun | .enrol _ _, _ => rfl) hu h) he
  | camp => exact settled (fun _ hu => k.turn (fun | .camp _, _ => rfl) hu h) he
  | retire => exact settled (fun _ hu => k.turn (fun | .retire _, _ => rfl) hu h) he
  | seizeOrigin => exact settled (fun _ hu => k.turn picks_seize_origin hu h) he
  | seizeAnswer => exact settled (fun _ hu => k.turn picks_seize_answer hu h) he
  | seizeMoveIn => exact settled (fun _ hu => k.turn picks_seize_moveIn hu h) he
  | vacate => exact judged (fun _ hu => k.turn (fun | .vacate _, _ => rfl) hu h) he
  | stateReport => exact judged (fun _ hu => k.turn (fun | .stateReport _, _ => rfl) hu h) he
  | relayFromCell => exact judged (fun _ hu => k.turn (fun | .relayFromCell _ _, _ => rfl) hu h) he
  | offer => exact settled (fun _ hu => k.turn (fun | .offer _ _, _ => rfl) hu h) he
  | endCall => exact judged (fun _ hu => k.turn (fun | .endCall _, _ => rfl) hu h) he
  | relayFromExchange => exact judged (fun _ hu => k.turn (fun | .relayFromExchange _ _, _ => rfl) hu h) he
  | holdTimerExpiry n =>
    refine judged (guarded fun hd => k.loseCall ?_ h) he
    simp only [State.holdDue, Bool.and_eq_true, beq_iff_eq] at hd; exact hd.1
  | clearTimerExpiry n =>
    refine judged (guarded fun hd => k.clearExpired ?_ h) he
    simp only [State.clearDue, Bool.and_eq_true, beq_iff_eq] at hd; exact hd.1
  | stageTimerExpiry n =>
    refine judged (guarded fun hd => k.stageExpired ?_ h) he
    simp only [State.stageDue, Bool.and_eq_true, beq_iff_eq] at hd; exact hd.1
  | bridgeTimerExpiry n =>
    refine judged (guarded fun hd => k.bridgeExpired ?_ h) he
    simp only [State.bridgeDue, Bool.and_eq_true, beq_iff_eq] at hd; exact hd.1
  | legSilenceExpiry n leg => exact judged (guarded fun _ => k.loseLegs _ _ _ h) he
  | holdDeadlineExpiry n j =>
    refine judged (guarded fun hd => k.deadline _ ?_ h) he
    simp only [State.deadlineDue, Bool.and_eq_true, beq_iff_eq] at hd; exact hd.1
  | searchReadComplete => exact settled (quiet fun _ => completeSearchRead_call) he
  | writeThroughComplete => exact settled (quiet fun _ => completeWriteThrough_call) he
  | mgmtReadComplete => exact settled (quiet fun _ => completeMgmtRead_call) he
  | mgmtWriteComplete => exact settled (quiet fun _ => completeMgmtWrite_call) he
  | emptyWriteComplete => exact settled (quiet fun _ => completeEmptyWrite_call) he
  | formatWriteComplete => exact settled (quiet fun _ => completeFormatWrite_call) he
  | sweepReadComplete => exact settled (quiet fun _ => completeSweepRead_call) he
  | sweepWriteComplete => exact settled (quiet fun _ => completeSweepWrite_call) he
  | readRecord => exact settled (mapped fun q => k.readRecord q h) he
  | writeRecord =>
    exact settled (mapped fun q => k.withOperands (fun _ => k.whenFormatted (k.same (State.setOp_call ..) h) h) h) he
  | writeIfUnchanged => exact settled (mapped fun q => k.writeIfUnchanged q h) he
  | deleteRecord =>
    exact settled (mapped fun q => k.withOperands (fun _ => k.whenFormatted (k.same (State.setOp_call ..) h) h) h) he
  | clearSlot =>
    exact settled (mapped fun q => k.withOperands (fun _ => k.whenFormatted (k.same (State.setOp_call ..) h) h) h) he
  | formatRegistry => exact settled (mapped fun q => k.format q h) he
  | sweep =>
    exact settled (mapped fun q => k.withOperands (fun _ => k.whenFormatted (k.unlessSweeping
      (k.same (s := s) (by rw [State.reply_call]; rfl) h) h) h) h) he
  | readSweep => exact judged (mapped fun q => k.request (fun _ => by simp) h) he
  | loadProfile => exact judged (mapped fun q => k.request (fun _ => by simp) h) he
  | loadNeighbourRow => exact judged (mapped fun q => k.request (fun _ => by simp) h) he
  | loadZone => exact judged (mapped fun q => k.request (fun _ => by simp) h) he
  | loadCell => exact judged (mapped fun q => k.request (fun _ => by simp) h) he
  | loadTiming => exact judged (mapped fun q => k.request (fun _ => by simp) h) he
  | readTable => exact judged (mapped fun q => k.request (fun _ => by simp) h) he
  | cellControlEnable => exact judged (fun u hu => k.control _ u h hu) he
  | cellControlDisable => exact judged (fun u hu => k.control _ u h hu) he
  | cellControlLoop => exact judged (fun u hu => k.control _ u h hu) he
  | linkTest => exact judged (mapped fun q => k.linkTest q h) he
  | readLink => exact judged (mapped fun q => k.request (fun _ => by simp) h) he
  | readCell => exact judged (mapped fun q => k.request (fun _ => by simp) h) he
  | readCall => exact judged (mapped fun q => k.request (fun _ => by simp) h) he
  | forceClear =>
    exact judged (mapped fun q => k.withOperands (fun _ => k.same (State.reply_call ..) (k.forceClear _ h)) h) he
  | readCause => exact judged (mapped fun q => k.request (fun _ => by simp) h) he
  | setAttention => exact judged (mapped fun q => k.request (fun _ => by simp) h) he
  | readCapture => exact judged (mapped fun q => k.request (fun _ => by simp) h) he
  | setCapture => exact judged (mapped fun q => k.request (fun _ => by simp) h) he
  | restart =>
    exact judged (mapped fun q => k.withOperands
      (fun _ => k.reset (Emptied.congr (State.reply_call ..) (emptied_restart s))) h) he
  | unknownCommand => exact judged (mapped fun q => k.same (State.reply_call ..) h) he
  | portOperationCompletesIntoNothing => exact settled (quiet fun _ => completeOrphan_call) he

/-- Every step keeps the property. -/
theorem StepMoves.step {P : State → Prop} (k : StepMoves P) {s t : State} (h : P s) (ht : Machine.step s = .next t) :
    P t := by
  simp only [Machine.step] at ht
  split at ht
  · next i rest _ => exact k.exec i (s := { s with pending := rest }) (k.same (s := s) rfl h) ht
  · cases ht
    exact k.same (s := s) rfl h

end Sys2Proof.Machine
end

section
/-! What the loss of legs, the ends of bridges and an emission leave of the calls and the bearers (R72, R74, R106 to R112,
R131). -/

namespace Sys2Proof.Machine

open Sys2Proof

/-! ### Calls of other circuits -/

section

variable (s : State) {n m : Circuit} (h : m ≠ n)

@[simp] theorem callOf_freeReleasing (s : State) (n m : Circuit) : (s.freeReleasing n).callOf m = s.callOf m := rfl

@[simp] theorem callOf_captureBridge (s : State) (kind : CaptureKind) (n m : Circuit) (g : Leg) (est : Nat × Nat) :
    (s.captureBridge kind n g est).callOf m = s.callOf m := callOf_capture ..

include h

theorem callOf_leaveClearing_other : (s.leaveClearing n).callOf m = s.callOf m := by
  simp only [State.leaveClearing]
  split
  · exact callOf_toFree_other s h
  · rfl

theorem callOf_loseCall_other : (s.loseCall n).callOf m = s.callOf m := by
  rw [State.loseCall, callOf_toFree_other _ h, callOf_capture, callOf_placeExch]

theorem callOf_enterHolding_other (g : Leg) (b : CallState) (q : Nat) (qc : Option Nat) :
    (s.enterHolding n g b q qc).callOf m = s.callOf m := by
  simp only [State.enterHolding]
  split
  · rw [callOf_loseCall_other _ h, callOf_capture, callOf_modCall_other _ _ h, callOf_freeReleasing]
  · rw [callOf_modCall_other _ _ h, callOf_capture, callOf_modCall_other _ _ h, callOf_freeReleasing]

theorem callOf_commit_other (sl cl : Leg) : (s.commit n sl cl).callOf m = s.callOf m := by
  rw [State.commit, callOf_keepLeg_other _ _ h, callOf_releaseLeg]

theorem callOf_commitByLoss_other (sl cl : Leg) (est : Nat × Nat) :
    (s.commitByLoss n sl cl est).callOf m = s.callOf m := by
  rw [State.commitByLoss, callOf_keepLeg_other _ _ h, callOf_setBearer, callOf_captureBridge]

theorem callOf_abandonByLoss_other (sl cl : Leg) (est : Nat × Nat) :
    (s.abandonByLoss n sl cl est).callOf m = s.callOf m := by
  rw [State.abandonByLoss, callOf_keepLeg_other _ _ h, callOf_setBearer, callOf_captureBridge]

theorem callOf_loseBoth_other (sl cl : Leg) (est : Nat × Nat) : (s.loseBoth n sl cl est).callOf m = s.callOf m := by
  rw [State.loseBoth, callOf_enterHolding_other _ h, callOf_setBearer, callOf_setBearer]

theorem callOf_loseLegs_other (a b : Bool) : (s.loseLegs n a b).callOf m = s.callOf m := by
  simp only [State.loseLegs]
  split
  · split
    · rw [callOf_enterHolding_other _ h, callOf_setBearer]
    · rfl
  · split
    · exact callOf_loseBoth_other s h ..
    · exact callOf_commitByLoss_other s h ..
    · exact callOf_abandonByLoss_other s h ..
    · rfl
  · rfl

theorem callOf_evaluate_other : (s.evaluate n).callOf m = s.callOf m := by
  cases hsl : (s.callOf n).serving with
  | none => simp [State.evaluate, hsl]
  | some sl =>
    cases hcl : (s.callOf n).candidate with
    | none => simp [State.evaluate, hsl, hcl]
    | some cl =>
      rw [evaluate_eq hsl hcl]
      split
      · exact callOf_commit_other s h ..
      · exact callOf_modCall_other s _ h

theorem callOf_emit_other (est : Nat × Nat) : (s.emit n est).callOf m = s.callOf m := by
  cases hsl : (s.callOf n).serving with
  | none => simp [State.emit, hsl]
  | some sl =>
    cases hcl : (s.callOf n).candidate with
    | none => simp [State.emit, hsl, hcl]
    | some cl =>
      cases hw : (s.callOf n).window with
      | none => simp [State.emit, hsl, hcl, hw]
      | some win =>
        have hu : (s.emitted n sl cl win).callOf m = s.callOf m :=
          (callOf_modCall_other _ _ h).trans (callOf_forwardSlot ..)
        rw [emit_eq hsl hcl hw]
        split
        · rw [callOf_loseBoth_other _ h, hu]
        · rw [callOf_commitByLoss_other _ h, hu]
        · rw [callOf_abandonByLoss_other _ h, hu]
        · rw [callOf_evaluate_other _ h, hu]

theorem callOf_emitUntil_other (est : Nat × Nat) (goal : Seq) (fuel : Nat) :
    ∀ s : State, (State.emitUntil n est goal fuel s).callOf m = s.callOf m := by
  induction fuel with
  | zero => exact fun _ => rfl
  | succ fuel ih =>
    intro s
    simp only [State.emitUntil]
    split
    · rw [ih, callOf_emit_other s h]
    · rfl

theorem callOf_activeFrame_other (c : CellId) (v : Voice) : (s.activeFrame n c v).callOf m = s.callOf m := by
  simp only [State.activeFrame, State.forward]
  split
  · rfl
  · split
    · rw [callOf_placeExch, callOf_modCall_other s _ h]
    · split
      · exact callOf_modUnit ..
      · rw [callOf_placeExch, callOf_modCall_other s _ h]

theorem callOf_placeFrame_other (role : LegRole) (o : Fin 4) (v : Voice) (est : Nat × Nat) :
    (s.placeFrame n role o v est).callOf m = s.callOf m := by
  simp only [State.placeFrame]
  split
  · rfl
  · rw [callOf_emitUntil_other h, callOf_modCall_other s _ h]

theorem callOf_afterAdvance_other (role : LegRole) (c : CellId) (k : SlotId) (v : Voice) (est : Nat × Nat) :
    (s.afterAdvance n role c k v est).callOf m = s.callOf m := by
  simp only [State.afterAdvance]
  split
  · split
    · exact callOf_placeFrame_other s h ..
    · rfl
  · split
    · exact callOf_activeFrame_other s h c v
    · exact callOf_modUnit ..

end

/-! ### The call itself -/

section

variable (s : State) (n : Circuit)

/-- R74: a HOLDING call lost. -/
theorem callOf_loseCall (h : (s.callOf n).state ≠ .free) : (s.loseCall n).callOf n = .free (s.callOf n).profile := by
  rw [State.loseCall, callOf_toFree (by simpa using h)]
  simp

/-- R74: with a hold time of 0 the call that enters HOLDING is lost. -/
theorem enterHolding_zero (hh : s.tables.timing.hold = 0) (g : Leg) (b : CallState) (q : Nat) (qc : Option Nat) :
    s.enterHolding n g b q qc = (((s.freeReleasing n).modCall n (CallRecord.heldBare · g)).capture .legLost
      { circuit := some n, hid := (s.callOf n).hid, cell := some g.cell, slot := some g.slot.val, callState := some b
        qServing := some q, qCandidate := qc }).loseCall n := by
  have hh' : (s.freeReleasing n).tables.timing.hold = 0 := hh
  simp only [State.enterHolding, State.capture_tables, State.modCall_tables, if_pos hh']
  rfl

theorem callOf_enterHolding_zero (hh : s.tables.timing.hold = 0) (g : Leg) (b : CallState) (q : Nat) (qc : Option Nat) :
    (s.enterHolding n g b q qc).callOf n = .free (s.callOf n).profile := by
  have hn : ((s.freeReleasing n).modCall n (CallRecord.heldBare · g)).callOf n = (s.callOf n).heldBare g :=
    callOf_modCall_same ..
  rw [enterHolding_zero s n hh, callOf_loseCall _ _ (by rw [callOf_capture, hn]; exact CallState.noConfusion),
    callOf_capture, hn]
  rfl

theorem callOf_enterHolding_pos (hh : s.tables.timing.hold ≠ 0) (g : Leg) (b : CallState) (q : Nat) (qc : Option Nat) :
    (s.enterHolding n g b q qc).callOf n =
      (s.callOf n).heldFrom g (s.timeBase + BitVec.ofNat 32 s.tables.timing.hold) := by
  rw [enterHolding_eq hh, callOf_capture, callOf_modCall_same, callOf_freeReleasing]

/-- R72, R74: the call that enters HOLDING has no merge window. -/
theorem window_enterHolding (g : Leg) (b : CallState) (q : Nat) (qc : Option Nat) :
    ((s.enterHolding n g b q qc).callOf n).window = none := by
  by_cases hh : s.tables.timing.hold = 0
  · rw [callOf_enterHolding_zero s n hh]; rfl
  · rw [callOf_enterHolding_pos s n hh]; rfl

theorem callOf_commit (sl cl : Leg) : (s.commit n sl cl).callOf n =
    (s.callOf n).closedOn cl ((s.callOf n).window.bind Window.base)
      (s.tables.activeProfile cl.cell (s.callOf n).classOr) := by
  rw [State.commit, callOf_keepLeg_same, callOf_releaseLeg]
  simp [State.releaseLeg]

theorem callOf_commitByLoss (sl cl : Leg) (est : Nat × Nat) : (s.commitByLoss n sl cl est).callOf n =
    (s.callOf n).closedOn cl ((s.callOf n).window.bind Window.base)
      (s.tables.activeProfile cl.cell (s.callOf n).classOr) := by
  rw [State.commitByLoss, callOf_keepLeg_same, callOf_setBearer, callOf_captureBridge]
  simp [State.captureBridge]

theorem callOf_abandonByLoss (sl cl : Leg) (est : Nat × Nat) : (s.abandonByLoss n sl cl est).callOf n =
    (s.callOf n).closedOn sl ((s.callOf n).window.bind Window.base)
      (s.tables.activeProfile sl.cell (s.callOf n).classOr) := by
  rw [State.abandonByLoss, callOf_keepLeg_same, callOf_setBearer, callOf_captureBridge]
  simp [State.captureBridge]

end

/-! ### Bearers -/

section

variable (s : State) (n : Circuit) (c : CellId) (k : SlotId)

@[simp] theorem bearer_leaveClearing : (s.leaveClearing n).bearer c k = s.bearer c k := by
  simp only [State.leaveClearing]
  split
  · exact bearer_toFree s n c k
  · rfl

@[simp] theorem bearer_loseCall : (s.loseCall n).bearer c k = s.bearer c k := by
  rw [State.loseCall, bearer_toFree, bearer_capture, bearer_placeExch]

/-- R107: a call enters HOLDING with no RELEASING bearer. -/
theorem bearer_enterHolding (g : Leg) (b : CallState) (q : Nat) (qc : Option Nat) :
    (s.enterHolding n g b q qc).bearer c k = if s.bearer c k = .releasing n then .free else s.bearer c k := by
  by_cases hh : s.tables.timing.hold = 0
  · rw [enterHolding_zero s n hh, bearer_loseCall, bearer_capture, bearer_modCall, bearer_freeReleasing]
  · rw [enterHolding_eq hh, bearer_capture, bearer_modCall, bearer_freeReleasing]

theorem bearer_commit (sl cl : Leg) : (s.commit n sl cl).bearer c k = if c = cl.cell ∧ k = cl.slot then .serving n else
    if c = sl.cell ∧ k = sl.slot then .releasing n else s.bearer c k := by
  rw [State.commit, bearer_keepLeg, bearer_releaseLeg]

theorem bearer_commitByLoss (sl cl : Leg) (est : Nat × Nat) : (s.commitByLoss n sl cl est).bearer c k =
    if c = cl.cell ∧ k = cl.slot then .serving n else if c = sl.cell ∧ k = sl.slot then .free else s.bearer c k := by
  rw [State.commitByLoss, bearer_keepLeg, bearer_setBearer, State.captureBridge, bearer_capture]

theorem bearer_abandonByLoss (sl cl : Leg) (est : Nat × Nat) : (s.abandonByLoss n sl cl est).bearer c k =
    if c = sl.cell ∧ k = sl.slot then .serving n else if c = cl.cell ∧ k = cl.slot then .free else s.bearer c k := by
  rw [State.abandonByLoss, bearer_keepLeg, bearer_setBearer, State.captureBridge, bearer_capture]

theorem bearer_loseBoth (sl cl : Leg) (est : Nat × Nat) : (s.loseBoth n sl cl est).bearer c k =
    if c = cl.cell ∧ k = cl.slot then .free else if c = sl.cell ∧ k = sl.slot then .free
    else if s.bearer c k = .releasing n then .free else s.bearer c k := by
  rw [State.loseBoth, bearer_enterHolding, bearer_setBearer, bearer_setBearer]
  by_cases h1 : c = cl.cell ∧ k = cl.slot
  · simp [h1]
  · by_cases h2 : c = sl.cell ∧ k = sl.slot <;> simp [h1, h2]

end

/-! ### The loss of legs by the state of the call (R70) -/

section

variable {s : State} {n : Circuit}

theorem loseLegs_active {sl : Leg} (hs : (s.callOf n).state = .active) (hsl : (s.callOf n).serving = some sl) (b : Bool) :
    s.loseLegs n true b = (s.setBearer sl.cell sl.slot .free).enterHolding n sl .active sl.q none := by
  simp [State.loseLegs, hs, hsl]

theorem loseLegs_none : s.loseLegs n false false = s := by
  simp only [State.loseLegs]
  split <;> rfl

section

variable {sl cl : Leg} (hs : (s.callOf n).state = .bridged) (hsl : (s.callOf n).serving = some sl)
  (hcl : (s.callOf n).candidate = some cl)

include hs hsl hcl

theorem loseLegs_both : s.loseLegs n true true = s.loseBoth n sl cl (sl.q, cl.q) := by
  simp [State.loseLegs, hs, hsl, hcl]

theorem loseLegs_serving : s.loseLegs n true false = s.commitByLoss n sl cl (sl.q, cl.q) := by
  simp [State.loseLegs, hs, hsl, hcl]

theorem loseLegs_candidate : s.loseLegs n false true = s.abandonByLoss n sl cl (sl.q, cl.q) := by
  simp [State.loseLegs, hs, hsl, hcl]

end

variable {c : CellId} {k : SlotId}

theorem freeBearer_of_serving (h : s.bearer c k = .serving n) : s.freeBearer c k = s.loseLegs n true false := by
  rw [State.freeBearer, h]; rfl

theorem freeBearer_of_candidate (h : s.bearer c k = .candidate n) : s.freeBearer c k = s.loseLegs n false true := by
  rw [State.freeBearer, h]; rfl

end

/-! ### Legs by the state of the call -/

section

variable {s : State} (hc : s.CallsOk) {n : Circuit}

include hc

/-- R55: a call with a candidate leg is BRIDGED. -/
theorem bridged_of_candidate {cl : Leg} (h : (s.callOf n).candidate = some cl) :
    (s.callOf n).state = .bridged ∧ ∃ sl, (s.callOf n).serving = some sl := by
  have := (hc n).1
  cases hs : (s.callOf n).state <;> simp [CallRecord.shapeOk, hs, h] at this
  exact ⟨rfl, Option.isSome_iff_exists.1 this.1.1⟩

/-- R55: a call with a serving leg is ACTIVE without a candidate, or BRIDGED with one. -/
theorem active_or_bridged {sl : Leg} (h : (s.callOf n).serving = some sl) :
    ((s.callOf n).state = .active ∧ (s.callOf n).candidate = none) ∨
      (s.callOf n).state = .bridged ∧ ∃ cl, (s.callOf n).candidate = some cl := by
  have := (hc n).1
  cases hs : (s.callOf n).state <;> simp [CallRecord.shapeOk, hs, h] at this
  · exact .inl ⟨rfl, this.1.1⟩
  · exact .inr ⟨rfl, Option.isSome_iff_exists.1 this.1.1⟩

/-- R59: a bearer that has been freed is FREE. -/
theorem freeBearer_frees (hb : s.BearersOk) (c : CellId) (k : SlotId) : (s.freeBearer c k).bearer c k = .free := by
  cases hx : s.bearer c k with
  | free => rw [freeBearer_free hx, hx]
  | releasing m => simp only [State.freeBearer, hx, bearer_leaveClearing, bearer_setBearer, and_self, if_true]
  | serving m =>
    rw [freeBearer_of_serving hx]
    have hl := (hb c k m).1.1 hx
    cases hsl : (s.callOf m).serving with
    | none => rw [hsl] at hl; exact absurd hl (not_legOn_none c k)
    | some sl =>
      rw [hsl, legOn_some] at hl
      obtain ⟨rfl, rfl⟩ := hl
      rcases active_or_bridged hc hsl with ⟨hs, -⟩ | ⟨hs, cl, hcl⟩
      · simp [loseLegs_active hs hsl, bearer_enterHolding]
      · rw [loseLegs_serving hs hsl hcl, bearer_commitByLoss, if_neg (legs_apart hb hsl hcl), if_pos ⟨rfl, rfl⟩]
  | candidate m =>
    rw [freeBearer_of_candidate hx]
    have hl := (hb c k m).2.1 hx
    cases hcl : (s.callOf m).candidate with
    | none => rw [hcl] at hl; exact absurd hl (not_legOn_none c k)
    | some cl =>
      rw [hcl, legOn_some] at hl
      obtain ⟨rfl, rfl⟩ := hl
      obtain ⟨hs, sl, hsl⟩ := bridged_of_candidate hc hcl
      rw [loseLegs_candidate hs hsl hcl, bearer_abandonByLoss,
        if_neg fun e => legs_apart hb hsl hcl ⟨e.1.symm, e.2.symm⟩, if_pos ⟨rfl, rfl⟩]

end

end Sys2Proof.Machine
end

section
/-! The invariants of the Call Table (R55, R57, R58, R107, R127), each kept by every step. -/

namespace Sys2Proof.Machine

open Sys2Proof

/-! ### The windows of an event of the voice path (R127 to R131) -/

/-- R127: a slot of the window has a hold deadline exactly when it holds a frame. -/
def Window.Timed (w : Window) : Prop :=
  ∀ k, (w.slots.at k).deadline.isSome = ((w.slots.at k).serving.isSome || (w.slots.at k).candidate.isSome)

/-- R129, R131: at most `e` emissions bring the base of the window to four past `goal`, and by then no slot that holds
frames from both legs is left. -/
structure Window.Nearing (goal : Seq) (e : Nat) (w : Window) : Prop where
  base : ∀ b, w.base = some b → (goal + 4 - b).toNat = e
  bound : e ≤ 128
  full : ∀ i : Fin 4, e ≤ i.val → (w.slots.at i).full = false

theorem slots_shift (w : Window) :
    w.shift.slots = #v[w.slots.at 1, w.slots.at 2, w.slots.at 3, ⟨none, none, none⟩] := by
  refine Table.ext fun i => ?_
  simp only [Window.shift, Table.at_put]
  fin_cases i <;> rfl

theorem at_shift (w : Window) (i : Fin 4) : w.shift.slots.at i = ⟨none, none, none⟩ ∨
    ∃ j : Fin 4, j.val = i.val + 1 ∧ w.shift.slots.at i = w.slots.at j := by
  rw [slots_shift]
  fin_cases i
  · exact .inr ⟨1, rfl, rfl⟩
  · exact .inr ⟨2, rfl, rfl⟩
  · exact .inr ⟨3, rfl, rfl⟩
  · exact .inl rfl

theorem Window.Timed.shift {w : Window} (h : w.Timed) : w.shift.Timed := by
  intro i
  rcases at_shift w i with e | ⟨j, -, e⟩
  · rw [e]; rfl
  · rw [e]; exact h j

theorem Window.Nearing.shift {goal : Seq} {e : Nat} {w : Window} (h : w.Nearing goal (e + 1)) :
    w.shift.Nearing goal e where
  base b hb := by
    obtain ⟨a, ha, rfl⟩ := Option.map_eq_some_iff.1 hb
    have := h.base a ha
    bv_omega
  bound := by have := h.bound; omega
  full i hi := by
    rcases at_shift w i with e | ⟨j, hj, e⟩
    · rw [e]; rfl
    · rw [e]; exact h.full j (by omega)

/-- R129, R131: once the base stands four past the goal, slot 0 is not to be emitted. -/
theorem Window.Nearing.rests {goal : Seq} {r : CallRecord} {w : Window} (hw : r.window = some w) (h : w.Nearing goal 0) :
    r.emits goal = false := by
  have hfull := h.full 0 (Nat.le_refl _)
  have hbase := h.base
  simp only [CallRecord.emits, hw, hfull, Bool.or_false, Bool.and_eq_false_iff]
  right
  cases hb : w.base with
  | none => rfl
  | some b =>
    have := hbase b hb
    simp only [Bool.and_eq_false_iff, decide_eq_false_iff_not]
    right
    bv_omega

/-- R127: a BRIDGED call in the course of an event: its window is timed, with at most `e` emissions ahead. -/
structure Emitting (goal : Seq) (e : Nat) (r : CallRecord) (w : Window) : Prop where
  state : r.state = .bridged
  serving : r.serving.isSome = true
  candidate : r.candidate.isSome = true
  timed : w.Timed
  nearing : w.Nearing goal e

/-- R131: an emission ends the bridge, and the window with it, or shifts the window. -/
theorem window_emit {s : State} {n : Circuit} {w : Window} (hw : (s.callOf n).window = some w)
    (hs : (s.callOf n).state = .bridged) (hsl : (s.callOf n).serving.isSome = true)
    (hcl : (s.callOf n).candidate.isSome = true) (est : Nat × Nat) {v : Window}
    (hv : ((s.emit n est).callOf n).window = some v) : v = w.shift ∧ ((s.emit n est).callOf n).state = .bridged ∧
      ((s.emit n est).callOf n).serving.isSome = true ∧ ((s.emit n est).callOf n).candidate.isSome = true := by
  obtain ⟨sl, hsl⟩ := Option.isSome_iff_exists.1 hsl
  obtain ⟨cl, hcl⟩ := Option.isSome_iff_exists.1 hcl
  have hn := callOf_emitted s n sl cl w
  rw [emit_eq hsl hcl hw] at hv ⊢
  split at hv
  · rw [State.loseBoth, window_enterHolding] at hv; cases hv
  · rw [callOf_commitByLoss] at hv; cases hv
  · rw [callOf_abandonByLoss] at hv; cases hv
  · have heval := evaluate_eq (congrArg CallRecord.serving hn) (congrArg CallRecord.candidate hn)
    rw [heval] at hv ⊢
    split at hv
    · rw [callOf_commit] at hv; cases hv
    · next hno =>
      rw [callOf_modCall_same, hn] at hv
      rw [if_neg hno, callOf_modCall_same, hn]
      cases hv
      exact ⟨rfl, hs, rfl, rfl⟩

/-- R127, R129, R131: when the emissions of an event are done, the window that is left is as between events. -/
theorem windowOk_emitUntil {n : Circuit} (est : Nat × Nat) (goal : Seq) (fuel : Nat) :
    ∀ {e : Nat} {s : State}, e ≤ fuel → (∀ w, (s.callOf n).window = some w → Emitting goal e (s.callOf n) w) →
      ∀ w, ((State.emitUntil n est goal fuel s).callOf n).window = some w → w.Ok := by
  have done {s : State} {w : Window} {e : Nat} (hw : (s.callOf n).window = some w) (h : Emitting goal e (s.callOf n) w)
      (hno : (s.callOf n).emits goal = false) : w.Ok := by
    refine ⟨?_, h.timed⟩
    simp only [CallRecord.emits, hw, h.state, beq_self_eq_true, Bool.true_and, Bool.or_eq_false_iff] at hno
    exact hno.2
  induction fuel with
  | zero =>
    intro e s he h w hw
    obtain rfl : e = 0 := Nat.le_zero.1 he
    exact done hw (h w hw) ((h w hw).nearing.rests hw)
  | succ fuel ih =>
    intro e s he h w hw
    simp only [State.emitUntil] at hw
    split at hw
    · next hemits =>
      refine ih (e := e - 1) (by omega) (fun v hv => ?_) w hw
      cases hx : (s.callOf n).window with
      | none => simp [CallRecord.emits, hx] at hemits
      | some x =>
        have hemitting := h x hx
        obtain ⟨rfl, h1, h2, h3⟩ := window_emit hx hemitting.state hemitting.serving hemitting.candidate est hv
        cases e with
        | zero => simp [hemitting.nearing.rests hx] at hemits
        | succ e => exact ⟨h1, h2, h3, hemitting.timed.shift, hemitting.nearing.shift⟩
    · next hno => exact done hw (h w hw) (by simpa using hno)

/-- R55: what an event finds of a BRIDGED call. -/
theorem emitting_of {s : State} {n : Circuit} (hc : (s.callOf n).shapeOk = true) (hs : (s.callOf n).state = .bridged)
    {goal : Seq} {e : Nat} {w : Window} (ht : w.Timed) (hn : w.Nearing goal e) : Emitting goal e (s.callOf n) w := by
  simp only [CallRecord.shapeOk, hs, Bool.and_eq_true] at hc
  exact ⟨hs, hc.1.1.1, hc.1.1.2, ht, hn⟩

theorem nearing_four {goal : Seq} {w : Window} (h : ∀ b, w.base = some b → goal = b) : w.Nearing goal 4 where
  base b hb := by rw [h b hb]; bv_omega
  bound := by decide
  full i hi := by omega

theorem timed_store {w : Window} (h : w.Timed) (o : Fin 4) (role : LegRole) (f : StoredFrame) (x : Time) :
    Window.Timed { w with slots := Table.put w.slots o ((w.slots.at o).store role f x) } := by
  intro k
  simp only [Table.at_put]
  split
  · cases role <;> simp [MergeSlot.store]
  · exact h k

section

variable {s : State} {n : Circuit} (hs : (s.callOf n).state = .bridged) (hc : (s.callOf n).shapeOk = true)

include hs hc

theorem windowOk_placeFrame (hw : ∀ w, (s.callOf n).window = some w → w.Timed) (role : LegRole) (o : Fin 4) (v : Voice)
    (est : Nat × Nat) : ∀ w, ((s.placeFrame n role o v est).callOf n).window = some w → w.Ok := by
  cases hx : (s.callOf n).window with
  | none => simp [State.placeFrame, hx]
  | some x =>
    simp only [State.placeFrame, hx]
    refine windowOk_emitUntil est _ emitFuel (e := 4) (by decide) fun w h => ?_
    rw [callOf_modCall_same] at h
    cases h
    refine emitting_of ?_ (by rw [callOf_modCall_same]; exact hs) (timed_store (hw x hx) o role _ _)
      (nearing_four fun b hb => ?_)
    · rw [callOf_modCall_same]
      simp_all [CallRecord.shapeOk]
    · have hb : x.base = some b := hb
      simp [hb]

end

section

variable {s : State} {n : Circuit} (hw : s.WindowsOk)

include hw

theorem windowOk_activeFrame (c : CellId) (v : Voice) :
    ∀ w, ((s.activeFrame n c v).callOf n).window = some w → w.Ok := by
  intro w h
  refine hw n w ?_
  rw [← h]
  simp only [State.activeFrame]
  split
  · rfl
  · split
    · simp [State.forward]
    · split
      · simp [State.lateDiscard]
      · simp [State.forward]

variable (hc : (s.callOf n).shapeOk = true)

include hc

theorem windowOk_afterAdvance (role : LegRole) (c : CellId) (k : SlotId) (v : Voice) (est : Nat × Nat) :
    ∀ w, ((s.afterAdvance n role c k v est).callOf n).window = some w → w.Ok := by
  simp only [State.afterAdvance]
  split
  · next hs =>
    split
    · exact windowOk_placeFrame hs hc (fun w h => (hw n w h).deadline) role _ v est
    · exact hw n
  · split
    · exact windowOk_activeFrame hw c v
    · simpa [State.stray] using hw n

variable (hs : (s.callOf n).state = .bridged)

include hs

theorem windowOk_deadlineExpired (k : Fin 4) :
    ∀ w, ((s.deadlineExpired n k).callOf n).window = some w → w.Ok := by
  refine windowOk_emitUntil _ _ emitFuel (e := k.val + 5) (by have := k.isLt; simp only [emitFuel]; omega)
    fun w h => emitting_of hc hs (hw n w h).deadline ⟨fun b hb => ?_, by omega, fun i hi => by omega⟩
  have := k.isLt
  simp only [h, Option.bind_some, hb, Option.getD_some]
  bv_omega

end

/-- R128: a window given a base holds what it held. -/
theorem windowsOk_basedOn {s : State} (hw : s.WindowsOk) (n : Circuit) (q : Seq) : (s.basedOn n q).WindowsOk := by
  intro m w h
  by_cases hm : m = n
  · subst hm
    rw [callOf_basedOn] at h
    obtain ⟨x, hx, rfl⟩ := Option.map_eq_some_iff.1 h
    exact ⟨(hw m x hx).first, (hw m x hx).deadline⟩
  · rw [State.basedOn, callOf_modCall_other s _ hm] at h
    exact hw m w h

theorem windowsOk_emitUntil {s : State} (hw : s.WindowsOk) {n : Circuit} {est : Nat × Nat} {goal : Seq} {fuel : Nat}
    (h : ∀ w, ((State.emitUntil n est goal fuel s).callOf n).window = some w → w.Ok) :
    (State.emitUntil n est goal fuel s).WindowsOk := by
  intro m w hm
  by_cases hmn : m = n
  · subst hmn; exact h w hm
  · rw [callOf_emitUntil_other hmn] at hm; exact hw m w hm

/-! ### Each invariant -/

theorem freeQueueOk_emits : Emits State.FreeQueueOk where
  same h hs := by simpa only [State.FreeQueueOk, State.callOf, h] using hs
  letsGo h := h.freeQueueOk
  toFree h := h.freeQueueOk
  alters h _ := h.freeQueueOk
  rewindow h := h.freeQueueOk

theorem callsOk_emits : Emits State.CallsOk where
  same h hs := by simpa only [State.CallsOk, State.callOf, h] using hs
  letsGo h := h.callsOk
  toFree h := h.callsOk
  alters h _ := h.callsOk
  rewindow h := h.callsOk

theorem hidsOk_emits : Emits State.HidsOk where
  same h hs := by simpa only [State.HidsOk, State.callOf, h] using hs
  letsGo h := h.hidsOk
  toFree h := h.hidsOk
  alters h _ := h.hidsOk
  rewindow h := h.hidsOk

theorem tableOk_emits : Emits State.TableOk where
  same h hs := ⟨freeQueueOk_emits.same h hs.freeQueue, callsOk_emits.same h hs.calls, by
    simpa only [State.BearersOk, State.callOf, State.bearer, h] using hs.bearers⟩
  letsGo h hs := ⟨h.freeQueueOk hs.freeQueue, h.callsOk hs.calls, h.bearersOk hs.bearers⟩
  toFree h hs := ⟨h.freeQueueOk hs.freeQueue, h.callsOk hs.calls, h.bearersOk hs.calls hs.bearers⟩
  alters h _ := h.tableOk trivial
  rewindow h := h.tableOk trivial

theorem releasingOk_emits : Emits fun s => s.TableOk ∧ s.ReleasingOk where
  same h hs := ⟨tableOk_emits.same h hs.1, by
    simpa only [State.ReleasingOk, State.callOf, State.bearer, h] using hs.2⟩
  letsGo h hs := ⟨tableOk_emits.letsGo h hs.1, h.releasingOk hs.2⟩
  toFree h hs := ⟨tableOk_emits.toFree h hs.1, h.releasingOk hs.2⟩
  alters h _ hs := ⟨h.tableOk trivial hs.1, h.releasingOk hs.2⟩
  rewindow h hs := ⟨h.tableOk trivial hs.1, h.releasingOk hs.2⟩

/-- What is left to prove of a property that every change of one call keeps. -/
theorem Emits.stepMoves {P : State → Prop} (k : Emits P)
    (hbind : ∀ {s t : State} {c : CellId} {j : SlotId} {n : Circuit}, P s → P (s.freeBearer c j) →
      Alters ((s.freeBearer c j).bearer c j = .free) (s.freeBearer c j) t n → P t)
    (hsort : ∀ {s t : State}, s.call.freeQueue <+: t.call.freeQueue → P t → P (t.sortFreed s.call.freeQueue))
    (hreset : ∀ {s : State}, s.Emptied → P s) : StepMoves P where
  toMoves := k.toMoves
  bind hs hv h _ := hbind hs hv h
  window role c j v hs h := k.windowFrame hs role c j v h
  deadline j _ h := k.deadlineExpired j h
  sort := hsort
  reset := hreset

/-- R128, R129: a frame from a leg of a BRIDGED call. -/
theorem windowsOk_windowFrame {s : State} {n : Circuit} (hc : s.CallsOk) (hw : s.WindowsOk)
    (hs : (s.callOf n).state = .bridged) (role : LegRole) (c : CellId) (k : SlotId) (v : Voice) :
    (s.windowFrame n role c k v).WindowsOk := by
  have hwu := windowsOk_basedOn hw n v.seq
  have hsu : ((s.basedOn n v.seq).callOf n).state = .bridged := by rw [callOf_basedOn]; exact hs
  have hcu : (s.basedOn n v.seq).CallsOk :=
    callsOk_emits.setWindow hs ⟨rfl, rfl, rfl, rfl, rfl, rfl, rfl, Option.isSome_map⟩ hc
  have only {u t : State} (hu : u.WindowsOk) (ho : ∀ m, m ≠ n → t.callOf m = u.callOf m)
      (hn : ∀ w, (t.callOf n).window = some w → w.Ok) : t.WindowsOk := by
    intro m w h
    by_cases hm : m = n
    · subst hm; exact hn w h
    · rw [ho m hm] at h; exact hu m w h
  rcases windowFrame_cases s n role c k v with e | e | ⟨o, e⟩ | ⟨hge, hlt, e⟩ <;> rw [e]
  · exact only hwu (fun m _ => callOf_modUnit ..) fun w h => hwu n w (by rwa [State.lateDiscard, callOf_modUnit] at h)
  · exact hwu
  · exact only hwu (fun m hm => callOf_placeFrame_other _ hm ..)
      (windowOk_placeFrame hsu (hcu n).1 (fun w h => (hwu n w h).deadline) role o v _)
  · have hx := windowOk_emitUntil (s.callOf n).estimates (v.seq - 3) emitFuel (n := n)
      (e := ((s.basedOn n v.seq).callOf n).offset v.seq + 1) (by simp only [emitFuel]; omega)
      fun w h => emitting_of (hcu n).1 hsu (hwu n w h).deadline ⟨fun b hb => ?_, by omega, fun i hi => by omega⟩
    · have hxw := windowsOk_emitUntil hwu hx
      exact only hxw (fun m hm => callOf_afterAdvance_other _ hm ..)
        (windowOk_afterAdvance hxw (callsOk_emits.emitUntil _ _ _ hcu n).1 role c k v _)
    · have ho : ((s.basedOn n v.seq).callOf n).offset v.seq = (v.seq - b).toNat := by
        simp only [CallRecord.offset, h, Option.bind_some, hb, Option.getD_some]
      rw [ho] at hlt ⊢
      bv_omega

/-! ### Circuits of one link loss in order -/

/-- R57: the circuits appended in one event, put in ascending order. -/
theorem freeQueueOk_sortFreed {s t : State} (hp : s.call.freeQueue <+: t.call.freeQueue) (ht : t.FreeQueueOk) :
    (t.sortFreed s.call.freeQueue).FreeQueueOk := by
  obtain ⟨l, hl⟩ := hp
  obtain ⟨hnodup, hmem⟩ := ht
  rw [← hl] at hnodup
  obtain ⟨hbefore, -, hapart⟩ := List.nodup_append.1 hnodup
  have hq : (t.sortFreed s.call.freeQueue).call.freeQueue =
      s.call.freeQueue ++ (ascending 192).filter (l.contains ·) := by
    simp only [State.sortFreed, ← hl, List.drop_left]
  have hin (n : Circuit) : n ∈ (ascending 192).filter (l.contains ·) ↔ n ∈ l := by
    rw [List.mem_filter]; simp
  refine ⟨?_, fun n => ?_⟩
  · rw [hq]
    exact List.nodup_append.2 ⟨hbefore, nodup_ascending.filter _, fun a ha b hb => hapart a ha b ((hin b).1 hb)⟩
  · show _ ↔ (t.callOf n).state = .free
    rw [hq, ← hmem, ← hl, List.mem_append, List.mem_append, hin]

theorem tableOk_sortFreed {s t : State} (hp : s.call.freeQueue <+: t.call.freeQueue) (ht : t.TableOk) :
    (t.sortFreed s.call.freeQueue).TableOk :=
  ⟨freeQueueOk_sortFreed hp ht.freeQueue, ht.calls, ht.bearers⟩

/-! ### After a reset -/

namespace State.Emptied

variable {s : State} (h : s.Emptied)

include h

theorem freeQueueOk : s.FreeQueueOk := by
  refine ⟨by rw [h.queue]; exact nodup_ascending, fun n => ?_⟩
  obtain ⟨p, hp⟩ := h.calls n
  rw [h.queue, hp]
  simp [CallRecord.free]

theorem callsOk : s.CallsOk := by
  intro n
  obtain ⟨p, hp⟩ := h.calls n
  rw [hp]
  exact ⟨rfl, rfl⟩

theorem hidsOk : s.HidsOk := by
  intro n m hn
  obtain ⟨p, hp⟩ := h.calls n
  rw [hp] at hn
  cases hn

theorem tableOk : s.TableOk := by
  refine ⟨h.freeQueueOk, h.callsOk, fun c k n => ?_⟩
  obtain ⟨p, hp⟩ := h.calls n
  rw [h.bearers, hp]
  simp [CallRecord.free]

theorem releasingOk : s.ReleasingOk := by
  intro c k n hb
  rw [h.bearers] at hb
  cases hb

theorem windowsOk : s.WindowsOk := by
  intro n w hw
  obtain ⟨p, hp⟩ := h.calls n
  rw [hp] at hw
  cases hw

end State.Emptied

/-! ### Every step -/

theorem windowsOk_alters {s t : State} {n : Circuit} (ho : ∀ m, m ≠ n → t.callOf m = s.callOf m)
    (hk : KeepsWindow s t n) (hs : s.WindowsOk) : t.WindowsOk := by
  intro m w hw
  by_cases hm : m = n
  · subst hm
    rcases hk w hw with h | h
    · exact hs m w h
    · exact h
  · rw [ho m hm] at hw; exact hs m w hw

theorem callsOk_moves : StepMoves State.CallsOk :=
  callsOk_emits.stepMoves (fun _ hv h => h.callsOk hv) (fun _ ht => ht) State.Emptied.callsOk

/-- R127: the merge windows, with the call fields on which they rest. -/
theorem windowsOk_moves : StepMoves fun s => s.CallsOk ∧ s.WindowsOk where
  same h hs := ⟨callsOk_emits.same h hs.1, by simpa only [State.WindowsOk, State.callOf, h] using hs.2⟩
  letsGo h hs := ⟨h.callsOk hs.1, by simpa only [State.WindowsOk, h.callOf] using hs.2⟩
  toFree {s n} h hs := by
    refine ⟨h.callsOk hs.1, fun m w hw => ?_⟩
    by_cases hm : m = n
    · subst hm; rw [callOf_toFree h.live] at hw; cases hw
    · rw [callOf_toFree_other s hm] at hw; exact hs.2 m w hw
  alters {s t n} h hk hs := ⟨h.callsOk hs.1, windowsOk_alters h.others hk hs.2⟩
  bind {s t c k n} _ hv h hk := ⟨h.callsOk hv.1, windowsOk_alters h.others hk hv.2⟩
  window {s n} role c k v hs h := by
    exact ⟨callsOk_emits.windowFrame hs role c k v h.1, windowsOk_windowFrame h.1 h.2 hs role c k v⟩
  deadline {s n} k hs h := ⟨callsOk_emits.deadlineExpired k h.1,
    windowsOk_emitUntil h.2 (windowOk_deadlineExpired h.2 (h.1 n).1 hs k)⟩
  sort _ ht := ht
  reset h := ⟨h.callsOk, h.windowsOk⟩

end Sys2Proof.Machine
end

section
namespace Sys2Proof.Machine
open Sys2Proof

/-- Settles O8: by the changes of the Call Table of which every step is made. -/
theorem freeQueueHoldsTheFreeCircuits : Obligations.FreeQueueHoldsTheFreeCircuits := by
  unfold Obligations.FreeQueueHoldsTheFreeCircuits
  intro s t hs ht
  exact (freeQueueOk_emits.stepMoves (fun _ hv h => h.freeQueueOk hv) freeQueueOk_sortFreed
    State.Emptied.freeQueueOk).step hs ht

/-- Settles O9: the call fields, the HIDs and the merge windows, each by the changes of which every step is made. -/
theorem callRecordsStayConsistent : Obligations.CallRecordsStayConsistent := by
  unfold Obligations.CallRecordsStayConsistent
  refine ⟨fun s t => callsOk_moves.step, fun s t => ?_, fun s t hs ht => (windowsOk_moves.step hs ht).2⟩
  exact (hidsOk_emits.stepMoves (fun _ hv h => h.hidsOk hv) (fun _ ht => ht) State.Emptied.hidsOk).step

/-- Settles O10: the bearers rest on the free queue and the call fields, and a bearer that a SEIZE takes has been freed. -/
theorem bearersMatchLegs : Obligations.BearersMatchLegs := by
  unfold Obligations.BearersMatchLegs
  have free {s : State} (hs : s.TableOk) (c : CellId) (k : SlotId) := freeBearer_frees hs.calls hs.bearers c k
  constructor
  · rintro s t ⟨hq, hc, hb⟩ ht
    exact ((tableOk_emits.stepMoves (fun hs hv h => h.tableOk (free hs _ _) hv) tableOk_sortFreed
      State.Emptied.tableOk).step ⟨hq, hc, hb⟩ ht).bearers
  · rintro s t ⟨hq, hc, hb, hr⟩ ht
    exact ((releasingOk_emits.stepMoves
      (fun hs hv h => ⟨h.tableOk (free hs.1 _ _) hv.1, h.releasingOk hv.2⟩)
      (fun hp ht => ⟨tableOk_sortFreed hp ht.1, ht.2⟩) fun h => ⟨h.tableOk, h.releasingOk⟩).step
        ⟨⟨hq, hc, hb⟩, hr⟩ ht).2

end Sys2Proof.Machine
end

section
/-! What an event leaves: the calls, bearers, frames and captures that the judgement of the attention set keeps, and the
frames and captures that the ends of calls make (R144, R184). -/

namespace Sys2Proof.Machine

open Sys2Proof

/-! ### The end of an event -/

theorem Ends.callOf {s u t : State} (h : Ends s u t) (n : Circuit) : t.callOf n = u.callOf n := by
  rw [State.callOf, h.call]; rfl

theorem Ends.bearer {s u t : State} (h : Ends s u t) (c : CellId) (k : SlotId) : t.bearer c k = u.bearer c k := by
  rw [State.bearer, h.call]; rfl

theorem Ends.captures {s u t : State} (h : Ends s u t) : t.attn.captures = u.attn.captures := by rw [h.attn]

/-- A command whose event takes place under a condition. -/
theorem ends_guarded {s u : State} {b : Bool} (h : b = true) :
    ∃ t, (Host.Outcome.next (s.judged (if b = true then some u else none)) : Host.Outcome State Fault Refusal) = .next t ∧
      Ends s u t := ends_of (if_pos h)

theorem judged_guarded {s u : State} {b : Bool} (h : b = false) :
    (Host.Outcome.next (s.judged (if b = true then some u else none)) : Host.Outcome State Fault Refusal) = .next s := by
  rw [if_neg (by simp [h])]; rfl

/-! ### Frames for the exchange -/

/-- R144: the frames `l` have been placed for the exchange, where they have room. -/
def State.Sends (s t : State) (l : List Frame) : Prop :=
  s.exchUp = true → s.exch.txQueue.length + l.length ≤ 64 → t.exch = { s.exch with txQueue := s.exch.txQueue ++ l }

theorem sends_nil {s t : State} (h : t.exch = s.exch) : s.Sends t [] := fun _ _ => by simp [h]

theorem State.Sends.congr {s t s' t' : State} {l : List Frame} (h : s.Sends t l) (hs : s'.exch = s.exch)
    (ht : t'.exch = t.exch) : s'.Sends t' l := by
  simpa only [State.Sends, State.exchUp, hs, ht] using h

theorem sends_placeExch (s : State) (f : Frame) : s.Sends (s.placeExch f) [f] := by
  intro hu hr
  have hup : s.exch.link.state = .up := by simpa [State.exchUp] using hu
  have hr : s.exch.txQueue.length < Config.exchQueueSize := hr
  rw [placeExch_exch, if_pos (by simp [hup, LinkState.queues]), if_pos hr]

theorem State.Sends.trans {s t u : State} {l m : List Frame} (h : s.Sends t l) (k : t.Sends u m) : s.Sends u (l ++ m) := by
  intro hu hr
  rw [List.length_append] at hr
  have ht := h hu (by omega)
  have := k (by simpa [State.exchUp, ht] using hu) (by rw [ht, List.length_append]; omega)
  rw [this, ht, List.append_assoc]

/-- R183: the frames of an event, and behind them the ATTENTION frame that its end owes. -/
theorem Ends.sends {s r u t : State} {l : List Frame} (h : Ends s u t) (hl : r.Sends u l) (hu : r.exchUp = true)
    (hr : r.exch.txQueue.length + l.length + 1 ≤ 64) :
    t.exch.txQueue = r.exch.txQueue ++ l ++ owed s.attentionSet t.attentionSet := by
  have hx := hl hu (by omega)
  have hroom : u.exch.txQueue.length < Config.exchQueueSize := by
    rw [hx, List.length_append, Config.exchQueueSize]; omega
  rw [h.placed (by simpa [State.exchUp, hx] using hu) hroom, hx]

/-! ### What a frame taken from a FIFO leaves -/

section

variable (s : State) (l : LinkId)

@[simp] theorem takeFrame_callOf (n : Circuit) : (s.takeFrame l).callOf n = s.callOf n := by simp [State.callOf]
@[simp] theorem takeFrame_bearer (c : CellId) (k : SlotId) : (s.takeFrame l).bearer c k = s.bearer c k := by
  simp [State.bearer]

end

/-! ### Ends of calls: links, frames and captures -/

section

variable (s : State) (n : Circuit)

@[simp] theorem loseCall_cells : (s.loseCall n).cells = s.cells := by simp [State.loseCall]

@[simp] theorem enterHolding_cells (g : Leg) (b : CallState) (q : Nat) (qc : Option Nat) :
    (s.enterHolding n g b q qc).cells = s.cells := by
  by_cases hh : s.tables.timing.hold = 0
  · rw [enterHolding_zero s n hh, loseCall_cells, State.capture_cells]; rfl
  · rw [enterHolding_eq hh, State.capture_cells]; rfl

@[simp] theorem keepLeg_cells (g : Leg) : (s.keepLeg n g).cells = s.cells := by simp [State.keepLeg]
@[simp] theorem keepLeg_exch (g : Leg) : (s.keepLeg n g).exch = s.exch := by simp [State.keepLeg]
@[simp] theorem keepLeg_attn (g : Leg) : (s.keepLeg n g).attn = s.attn := by simp [State.keepLeg]

@[simp] theorem commitByLoss_cells (sl cl : Leg) (est : Nat × Nat) : (s.commitByLoss n sl cl est).cells = s.cells := by
  simp [State.commitByLoss, State.captureBridge]

@[simp] theorem abandonByLoss_cells (sl cl : Leg) (est : Nat × Nat) : (s.abandonByLoss n sl cl est).cells = s.cells := by
  simp [State.abandonByLoss, State.captureBridge]

@[simp] theorem commitByLoss_exch (sl cl : Leg) (est : Nat × Nat) : (s.commitByLoss n sl cl est).exch = s.exch := by
  simp [State.commitByLoss, State.captureBridge]

@[simp] theorem abandonByLoss_exch (sl cl : Leg) (est : Nat × Nat) : (s.abandonByLoss n sl cl est).exch = s.exch := by
  simp [State.abandonByLoss, State.captureBridge]

@[simp] theorem loseBoth_cells (sl cl : Leg) (est : Nat × Nat) : (s.loseBoth n sl cl est).cells = s.cells := by
  simp [State.loseBoth]

/-- R74: ENDED(LOST) is placed for a call that is lost. -/
theorem sends_loseCall : s.Sends (s.loseCall n) [endedFrame n .lost] :=
  (sends_placeExch s _).congr rfl (by simp [State.loseCall])

theorem loseCall_captures (he : s.attn.captureEnables.callLost = true) (hl : s.attn.captures.length < 4) :
    (s.loseCall n).attn.captures = s.attn.captures ++ [⟨.callLost, s.timeBase, false,
      { circuit := some n, hid := (s.callOf n).hid, cell := (s.callOf n).lastServing, callState := some .holding }⟩] := by
  rw [State.loseCall, State.toFree_attn, capture_joins _ (by simpa [CaptureEnables.of] using he) (by simpa using hl)]
  simp

theorem freesCall_loseCall (h : (s.callOf n).state ≠ .free) : FreesCall s (s.loseCall n) n := by
  refine ⟨callOf_loseCall s n h, ?_, fun m hm => callOf_loseCall_other s hm⟩
  rw [State.loseCall, freeQueue_toFree (by simpa using h)]
  simp

variable {s n}

/-- R72, R74: the call that enters HOLDING with a hold time of 0 is lost: what becomes of the Call Table. -/
theorem freesCall_enterHolding (hh : s.tables.timing.hold = 0) (g : Leg) (b : CallState) (q : Nat) (qc : Option Nat) :
    FreesCall s (s.enterHolding n g b q qc) n := by
  refine ⟨callOf_enterHolding_zero s n hh g b q qc, ?_, fun m hm => callOf_enterHolding_other s hm g b q qc⟩
  rw [enterHolding_zero s n hh, (freesCall_loseCall _ n ?_).queue]
  · simp [State.modCall, State.freeReleasing]
  · rw [callOf_capture, callOf_modCall_same]; exact CallState.noConfusion

theorem sends_enterHolding (hh : s.tables.timing.hold = 0) (g : Leg) (b : CallState) (q : Nat) (qc : Option Nat) :
    s.Sends (s.enterHolding n g b q qc) [endedFrame n .lost] := by
  rw [enterHolding_zero s n hh]
  exact (sends_loseCall _ n).congr (by simp [State.freeReleasing]) rfl

/-- R72, R110: the LEG_LOST capture of the leg `g`, with the state and the estimates that its loss shows. -/
def CallRecord.lostLeg (r : CallRecord) (n : Circuit) (g : Leg) (b : CallState) (q : Nat) (qc : Option Nat) (now : Time) :
    Capture :=
  ⟨.legLost, now, false,
    { circuit := some n, hid := r.hid, cell := some g.cell, slot := some g.slot.val, callState := some b
      qServing := some q, qCandidate := qc }⟩

theorem lostLeg_eq_legLostOf (r : CallRecord) (n : Circuit) (g : Leg) (qc : Option Nat) (now : Time) :
    r.lostLeg n g r.state g.q qc now = legLostOf r n g qc now := rfl

@[simp] theorem capture_captureEnables (s : State) (k : CaptureKind) (d : CaptureDetail) :
    (s.capture k d).attn.captureEnables = s.attn.captureEnables := by rw [State.capture]; split <;> rfl

/-- R72: LEG_LOST of a call that enters HOLDING. -/
theorem enterHolding_report (hh : s.tables.timing.hold ≠ 0) (g : Leg) (b : CallState) (q : Nat) (qc : Option Nat)
    (hl : s.attn.captureEnables.legLost = true) (hr : s.attn.captures.length < 4) :
    (s.enterHolding n g b q qc).attn.captures =
      s.attn.captures ++ [(s.callOf n).lostLeg n g b q qc s.timeBase] := by
  rw [enterHolding_eq hh, capture_joins (kind := .legLost) _ (by exact hl) (by exact hr)]
  rfl

/-- R184: LEG_LOST and CALL_LOST of a call that enters HOLDING with a hold time of 0. -/
theorem enterHolding_captures (hh : s.tables.timing.hold = 0) (g : Leg) (b : CallState) (q : Nat) (qc : Option Nat)
    (hl : s.attn.captureEnables.legLost = true) (hc : s.attn.captureEnables.callLost = true)
    (hr : s.attn.captures.length + 2 ≤ 4) : (s.enterHolding n g b q qc).attn.captures = s.attn.captures ++
      [(s.callOf n).lostLeg n g b q qc s.timeBase, ⟨.callLost, s.timeBase, false,
        { circuit := some n, hid := (s.callOf n).hid, cell := some g.cell, callState := some .holding }⟩] := by
  rw [enterHolding_zero s n hh]
  have hleg := capture_joins (s := (s.freeReleasing n).modCall n (CallRecord.heldBare · g)) (kind := .legLost)
    ((s.callOf n).lostLeg n g b q qc s.timeBase).detail hl (by show s.attn.captures.length < 4; omega)
  have hroom := congrArg List.length hleg
  rw [List.length_append] at hroom
  have hcall := loseCall_captures _ n (by simpa using hc) (hroom.trans_lt (by show s.attn.captures.length + 1 < 4; omega))
  rw [hleg, callOf_capture, callOf_modCall_same, State.capture_timeBase, List.append_assoc] at hcall
  exact hcall

end

end Sys2Proof.Machine
end

section
/-! RELAY in both directions (R75, R76). -/

namespace Sys2Proof.Machine

open Sys2Proof

/-- R75: on a bearer that carries a leg. -/
theorem relayUp_bound {s : State} {c : CellId} {k : SlotId} {n : Circuit} (p : List Byte)
    (h : s.bearer c k = .serving n ∨ s.bearer c k = .candidate n) :
    s.relayUp c k p = s.placeExch (relayToExchFrame n p) := by
  rcases h with h | h <;> rw [State.relayUp, h]

theorem relayUp_unbound {s : State} {c : CellId} {k : SlotId} (p : List Byte)
    (h : s.bearer c k = .free ∨ ∃ n, s.bearer c k = .releasing n) : s.relayUp c k p = s.stray (.cell c) := by
  rcases h with h | ⟨n, h⟩ <;> rw [State.relayUp, h]

/-- R76: to the serving leg of a call in ACTIVE or BRIDGED. -/
theorem relayDown_leg {s : State} {n : Circuit} {g : Leg} (p : List Byte)
    (h : (s.callOf n).state = .active ∨ (s.callOf n).state = .bridged) (hg : (s.callOf n).serving = some g) :
    s.relayDown n p = s.placeSig g.cell (relayToCellFrame g.slot p) := by
  rcases h with h | h <;> simp only [State.relayDown, h, hg]

theorem relayDown_stray {s : State} {n : Circuit} (p : List Byte) (ha : (s.callOf n).state ≠ .active)
    (hb : (s.callOf n).state ≠ .bridged) : s.relayDown n p = s.stray .exchange := by
  rw [State.relayDown]
  split
  · next h _ => exact absurd h ha
  · next h _ => exact absurd h hb
  · rfl

/-- Settles O42: the two rules for each direction, in the state that the RELAY has left its FIFO in. -/
theorem relaysAreForwarded : Obligations.RelaysAreForwarded := by
  refine ⟨fun s c f k p ht => ?_, fun s f n p ht => ?_⟩
  · have hturn := turn_direct ht rfl Msg.isRelayFromCell actRelayFromCell rfl
    have hbearer : (s.takeFrame (.cell c)).bearer c k = s.bearer c k := takeFrame_bearer ..
    refine ⟨fun n h => ends_of (hturn.trans (congrArg some ?_)), fun h => ends_of (hturn.trans (congrArg some ?_))⟩
    · exact relayUp_bound p (by rwa [hbearer])
    · exact relayUp_unbound p (by rwa [hbearer])
  · have hturn := turn_direct ht rfl Msg.isRelayFromExchange actRelayFromExchange rfl
    have hcall : (s.takeFrame .exchange).callOf n = s.callOf n := takeFrame_callOf ..
    refine ⟨fun g h hg => ends_of (hturn.trans (congrArg some ?_)), fun ha hb => ends_of (hturn.trans (congrArg some ?_))⟩
    · exact relayDown_leg p (by rwa [hcall]) (by rwa [hcall])
    · exact relayDown_stray p (by rwa [hcall]) (by rwa [hcall])

end Sys2Proof.Machine
end

section
/-! The expiries of the hold, clear and stage 3 timers (R74, R67, R89). -/

namespace Sys2Proof.Machine

open Sys2Proof

variable {s t : State} {n : Circuit} {x : Time}

theorem FreesCall.ends {r u : State} (h : FreesCall s u n) (ht : Ends r u t) : FreesCall s t n :=
  ⟨(ht.callOf n).trans h.call, (congrArg CallTable.freeQueue ht.call).trans h.queue,
    fun m hm => (ht.callOf m).trans (h.others m hm)⟩

theorem FreesCall.congr {r u : State} (h : FreesCall r u n) (hr : r.call = s.call) : FreesCall s u n := by
  have hcall (m : Circuit) : r.callOf m = s.callOf m := by rw [State.callOf, hr]; rfl
  exact ⟨by rw [← hcall]; exact h.call, by rw [← hr]; exact h.queue, fun m hm => by rw [← hcall]; exact h.others m hm⟩

@[simp] theorem toFree_bearers (s : State) (n : Circuit) : (s.toFree n).call.bearers = s.call.bearers := by
  rw [State.toFree]; split <;> rfl

/-- R67: the circuit's RELEASING bearers are freed and the call with them. -/
theorem freesCall_clearExpired (h : (s.callOf n).state ≠ .free) : FreesCall s ((s.freeReleasing n).toFree n) n :=
  have k := freesCall_toFree (s := s.freeReleasing n) h
  ⟨k.call, k.queue, k.others⟩

theorem freesCall_pageUnanswered (h : (s.callOf n).state ≠ .free) : FreesCall s (s.pageUnanswered n) n :=
  (freesCall_toFree (by rwa [callOf_placeExch])).congr (by simp)

/-- R89: ENDED(UNREACHABLE) is placed for a page that ends unanswered. -/
theorem sends_pageUnanswered (s : State) (n : Circuit) : s.Sends (s.pageUnanswered n) [endedFrame n .unreachable] :=
  (sends_placeExch s _).congr rfl (by simp [State.pageUnanswered])

theorem stageExpired_stage3 (h : (s.callOf n).pageStage = some .stage3) : s.stageExpired n = s.pageUnanswered n := by
  rw [State.stageExpired, h]

/-- Settles O44: each expiry is the end of the call that its rule names; a timer that is not due changes nothing. -/
theorem callTimersFreeTheCall : Obligations.CallTimersFreeTheCall := by
  intro s n x
  refine ⟨fun hs hx hd => ?_, fun hs hx hd => ?_, fun hs hx hd h3 => ?_, fun hx hd => ?_, fun hx hd => ?_,
    fun hx hd => ?_⟩
  · obtain ⟨t, ht, he⟩ := ends_guarded (s := s) (u := s.loseCall n) (b := s.holdDue n)
      (by simp [State.holdDue, State.dueTimer, hs, hx, hd])
    have hf := (freesCall_loseCall s n (by simp [hs])).ends he
    refine ⟨t, ht, hf.call, hf.queue, hf.others, ?_, he.cells.trans (loseCall_cells s n), fun hu hr => ?_,
      fun hen hr => ?_⟩
    · rw [he.call]; simp [State.loseCall]
    · simpa using he.sends (sends_loseCall s n) hu hr
    · rw [he.captures, loseCall_captures s n hen hr]
  · obtain ⟨t, ht, he⟩ := ends_guarded (s := s) (u := (s.freeReleasing n).toFree n) (b := s.clearDue n)
      (by simp [State.clearDue, State.dueTimer, hs, hx, hd])
    have hf := (freesCall_clearExpired (s := s) (n := n) (by simp [hs])).ends he
    refine ⟨t, ht, hf.call, hf.queue, hf.others, fun c k => ?_, he.cells.trans (by simp [State.freeReleasing])⟩
    rw [he.bearer, bearer_toFree, bearer_freeReleasing]
  · obtain ⟨t, ht, he⟩ := ends_guarded (s := s) (u := s.stageExpired n) (b := s.stageDue n)
      (by simp [State.stageDue, State.dueTimer, hs, hx, hd])
    rw [stageExpired_stage3 h3] at he
    have hf := (freesCall_pageUnanswered (s := s) (n := n) (by simp [hs])).ends he
    refine ⟨t, ht, hf.call, hf.queue, hf.others, ?_, he.cells.trans (by simp [State.pageUnanswered]), fun hu hr => ?_⟩
    · rw [he.call]; simp [State.pageUnanswered]
    · simpa using he.sends (sends_pageUnanswered s n) hu hr
  · exact judged_guarded (b := s.holdDue n) (by simp [State.holdDue, State.dueTimer, hx, hd])
  · exact judged_guarded (b := s.clearDue n) (by simp [State.clearDue, State.dueTimer, hx, hd])
  · exact judged_guarded (b := s.stageDue n) (by simp [State.stageDue, State.dueTimer, hx, hd])

end Sys2Proof.Machine
end

section
/-! END and FORCE-CLEAR on a circuit (R65, R66, R67, R69). -/

namespace Sys2Proof.Machine

open Sys2Proof

variable {s t : State} {n : Circuit}

/-! ### CLEARING -/

/-- R66: the legs of a call let go, and the call in CLEARING. -/
def State.cleared (s : State) (n : Circuit) : State :=
  ((s.releaseLeg? n (s.callOf n).serving).releaseLeg? n (s.callOf n).candidate).modCall n
    (CallRecord.clearingFrom · (s.timeBase + BitVec.ofNat 32 s.tables.timing.clear))

@[simp] theorem releaseLeg?_timeBase (s : State) (n : Circuit) (g : Option Leg) :
    (s.releaseLeg? n g).timeBase = s.timeBase := (base_releaseLeg? s n g).timeBase

@[simp] theorem releaseLeg?_tables (s : State) (n : Circuit) (g : Option Leg) :
    (s.releaseLeg? n g).tables = s.tables := (base_releaseLeg? s n g).tables

/-- R66, R67: the call goes into CLEARING and, with no RELEASING bearer, out of it. -/
theorem enterClearing_eq (s : State) (n : Circuit) : s.enterClearing n = (s.cleared n).leaveClearing n := by
  rw [State.enterClearing, State.cleared]
  simp only [State.after, releaseLeg?_timeBase, releaseLeg?_tables]
  rfl

theorem callOf_cleared (s : State) (n : Circuit) : (s.cleared n).callOf n =
    (s.callOf n).clearingFrom (s.timeBase + BitVec.ofNat 32 s.tables.timing.clear) := by
  rw [State.cleared, callOf_modCall_same, callOf_releaseLeg?, callOf_releaseLeg?]

theorem callOf_cleared_other (s : State) {m : Circuit} (hm : m ≠ n) : (s.cleared n).callOf m = s.callOf m := by
  rw [State.cleared, callOf_modCall_other _ _ hm, callOf_releaseLeg?, callOf_releaseLeg?]

theorem freeQueue_cleared (s : State) (n : Circuit) : (s.cleared n).call.freeQueue = s.call.freeQueue :=
  (freeQueue_releaseLeg? ..).trans (freeQueue_releaseLeg? ..)

theorem bearer_cleared (s : State) (n : Circuit) (c : CellId) (k : SlotId)
    [Decidable (legOn c k (s.callOf n).serving ∨ legOn c k (s.callOf n).candidate)] : (s.cleared n).bearer c k =
      if legOn c k (s.callOf n).serving ∨ legOn c k (s.callOf n).candidate then .releasing n else s.bearer c k := by
  rw [State.cleared, bearer_modCall, bearer_releaseLegs]

theorem cells_cleared (s : State) (n : Circuit) : (s.cleared n).cells =
    ((s.releaseLeg? n (s.callOf n).serving).releaseLeg? n (s.callOf n).candidate).cells := rfl

/-- R67: a call in CLEARING waits for a RELEASING bearer. -/
theorem leaveClearing_waits {c : CellId} {k : SlotId} (h : s.bearer c k = .releasing n) : s.leaveClearing n = s :=
  if_neg fun hn => releasing_eq_false.1 hn.2 c k h

/-- R66: a call with a leg goes into CLEARING and stays there. -/
theorem enterClearing_leg {g : Leg} (h : (s.callOf n).serving = some g ∨ (s.callOf n).candidate = some g) :
    s.enterClearing n = s.cleared n := by
  classical
  have hb : (s.cleared n).bearer g.cell g.slot = .releasing n := by
    rw [bearer_cleared]
    exact if_pos (h.imp (fun h => by simp [h, legOn_some]) fun h => by simp [h, legOn_some])
  rw [enterClearing_eq, leaveClearing_waits hb]

/-- R66, R67: a call with no leg and no RELEASING bearer goes to FREE at once. -/
theorem enterClearing_bare (hs : (s.callOf n).serving = none) (hc : (s.callOf n).candidate = none)
    (h : ∀ c k, s.bearer c k ≠ .releasing n) : s.enterClearing n = (s.cleared n).toFree n := by
  classical
  rw [enterClearing_eq, State.leaveClearing, if_pos]
  refine ⟨by rw [callOf_cleared]; rfl, releasing_eq_false.2 fun c k => ?_⟩
  rw [bearer_cleared, if_neg (by simp [hs, hc])]
  exact h c k

/-! ### END by the state of the call -/

theorem endCircuit_ended (h : (s.callOf n).state = .free ∨ (s.callOf n).state = .clearing) : s.endCircuit n = s := by
  rcases h with h | h <;> rw [State.endCircuit, h]

theorem endCircuit_paging (h : (s.callOf n).state = .paging) : s.endCircuit n = s.toFree n := by
  rw [State.endCircuit, h]

theorem endCircuit_clears (h : (s.callOf n).state = .active ∨ (s.callOf n).state = .bridged ∨
    (s.callOf n).state = .holding) : s.endCircuit n = s.enterClearing n := by
  rcases h with h | h | h <;> rw [State.endCircuit, h]

/-- R66, R67: a call gone through CLEARING to FREE. -/
theorem freesCall_clearedFree (s : State) (n : Circuit) : FreesCall s ((s.cleared n).toFree n) n := by
  have h : FreesCall (s.cleared n) ((s.cleared n).toFree n) n :=
    freesCall_toFree (by rw [callOf_cleared]; exact CallState.noConfusion)
  exact {
    call := by rw [h.call, callOf_cleared]; rfl
    queue := by rw [h.queue, freeQueue_cleared]
    others := fun m hm => by rw [h.others m hm, callOf_cleared_other s hm] }

theorem cleared_bare (hsl : (s.callOf n).serving = none) (hcl : (s.callOf n).candidate = none) :
    s.cleared n = s.modCall n (CallRecord.clearingFrom · (s.timeBase + BitVec.ofNat 32 s.tables.timing.clear)) := by
  rw [State.cleared, hsl, hcl]; rfl

/-- R65, R66: what END leaves of the Call Table and the cell links. -/
theorem endsCall_endCircuit (s : State) (n : Circuit) : EndsCall s (s.endCircuit n) n := by
  classical
  refine ⟨fun h => ?_, fun h => ?_, fun g h hg hc => ?_, fun g d h hg hd => ?_, fun h hg hc hb => ?_⟩
  · rw [endCircuit_ended h]; exact ⟨rfl, rfl⟩
  · rw [endCircuit_paging h]
    exact ⟨freesCall_toFree (by rw [h]; exact CallState.noConfusion), toFree_bearers s n, by simp⟩
  · have hbearer (c : CellId) (k : SlotId) := bearer_cleared s n c k
    simp only [hg, hc, legOn_some, not_legOn_none, or_false] at hbearer
    rw [endCircuit_clears (.inl h), enterClearing_leg (.inl hg)]
    refine ⟨callOf_cleared s n, ?_, ⟨fun m hm => callOf_cleared_other s hm, fun c k hck => ?_⟩, freeQueue_cleared s n, ?_⟩
    · rw [hbearer, if_pos ⟨rfl, rfl⟩]
    · exact (hbearer c k).trans (if_neg hck)
    · rw [cells_cleared, hg, hc]; rfl
  · have hbearer (c : CellId) (k : SlotId) := bearer_cleared s n c k
    simp only [hg, hd, legOn_some] at hbearer
    rw [endCircuit_clears (.inr (.inl h)), enterClearing_leg (.inl hg)]
    refine ⟨callOf_cleared s n, ?_, ?_, fun m hm => callOf_cleared_other s hm, fun c k hg hd => ?_,
      freeQueue_cleared s n, ?_⟩
    · rw [hbearer, if_pos (.inl ⟨rfl, rfl⟩)]
    · rw [hbearer, if_pos (.inr ⟨rfl, rfl⟩)]
    · rw [hbearer, if_neg (by simp [hg, hd])]
    · rw [cells_cleared, hg, hd]
      exact placeSig_cells (s := s.placeSig g.cell (clearFrame g.slot)) (by rfl) d.cell (clearFrame d.slot)
  · rw [endCircuit_clears (.inr (.inr h)), enterClearing_bare hg hc hb]
    refine ⟨freesCall_clearedFree s n, ?_, ?_⟩
    · rw [toFree_bearers, cleared_bare hg hc]; rfl
    · rw [State.toFree_cells, cleared_bare hg hc]; rfl

/-- An event that agrees with END on the Call Table and the cell links. -/
theorem EndsCall.congr {u : State} (h : EndsCall s u n) (hcall : t.call = u.call) (hcells : t.cells = u.cells) :
    EndsCall s t n := by
  have hc (m : Circuit) : t.callOf m = u.callOf m := by rw [State.callOf, hcall]; rfl
  have hb (c : CellId) (k : SlotId) : t.bearer c k = u.bearer c k := by rw [State.bearer, hcall]; rfl
  have hf (hu : FreesCall s u n) : FreesCall s t n :=
    ⟨(hc n).trans hu.call, by rw [hcall]; exact hu.queue, fun m hm => (hc m).trans (hu.others m hm)⟩
  refine ⟨?_, ?_, ?_, ?_, ?_⟩
  · simpa only [hcall, hcells] using h.ended
  · exact fun hs => ⟨hf (h.paging hs).1, by simpa only [hcall, hcells] using (h.paging hs).2⟩
  · simpa only [hc, hb, hcall, hcells] using h.active
  · simpa only [hc, hb, hcall, hcells] using h.bridged
  · exact fun hs hg hd hr =>
      ⟨hf (h.holding hs hg hd hr).1, by simpa only [hcall, hcells] using (h.holding hs hg hd hr).2⟩

/-- Settles O43: the END that has left its FIFO acts on its circuit, and the event ends. -/
theorem endClearsTheCall : Obligations.EndClearsTheCall := by
  intro s f n ht u
  obtain ⟨t, hexec, he⟩ := ends_of (turn_direct ht rfl Msg.isEnd actEnd rfl)
  have hact : (actEnd u .exchange (.endCall n) none).state = u.endCircuit n := rfl
  rw [hact] at he
  refine ⟨fun h => ⟨t, hexec, ?_⟩, t, hexec, (endsCall_endCircuit u n).congr he.call he.cells⟩
  rwa [endCircuit_ended (by simpa [u] using h)] at he

end Sys2Proof.Machine
end

section
/-! The loss of one leg of a call, by a VACATE and by the leg's silence (R68, R70, R72, R74, R110, R111, R126). -/

namespace Sys2Proof.Machine

open Sys2Proof

variable {s t u : State} {n : Circuit}

/-! ### The serving leg of an ACTIVE call -/

/-- R72: with a hold time the call is in HOLDING. -/
theorem callOf_loseLegs_held {g : Leg} (hs : (s.callOf n).state = .active) (hg : (s.callOf n).serving = some g)
    (hh : 0 < s.tables.timing.hold) (b : Bool) : (s.loseLegs n true b).callOf n =
      (s.callOf n).heldFrom g (s.timeBase + BitVec.ofNat 32 s.tables.timing.hold) := by
  rw [loseLegs_active hs hg, callOf_enterHolding_pos _ _ (by exact hh.ne'), callOf_setBearer]
  rfl

theorem bearer_loseLegs_active {g : Leg} (hs : (s.callOf n).state = .active) (hg : (s.callOf n).serving = some g)
    (b : Bool) : (s.loseLegs n true b).bearer g.cell g.slot = .free := by
  rw [loseLegs_active hs hg, bearer_enterHolding, State.bearer_setBearer]
  rfl

theorem cells_loseLegs_active {g : Leg} (hs : (s.callOf n).state = .active) (hg : (s.callOf n).serving = some g)
    (b : Bool) : (s.loseLegs n true b).cells = s.cells := by
  rw [loseLegs_active hs hg, enterHolding_cells]; rfl

theorem captures_loseLegs_held {g : Leg} (hs : (s.callOf n).state = .active) (hg : (s.callOf n).serving = some g)
    (hh : 0 < s.tables.timing.hold) (b : Bool) (hl : s.attn.captureEnables.legLost = true)
    (hr : s.attn.captures.length < 4) : (s.loseLegs n true b).attn.captures =
      s.attn.captures ++ [legLostOf (s.callOf n) n g none s.timeBase] := by
  rw [loseLegs_active hs hg, enterHolding_report (s := s.setBearer g.cell g.slot .free) (by exact hh.ne') g .active g.q none
    hl hr, callOf_setBearer, ← hs, lostLeg_eq_legLostOf]
  rfl

/-- R72, R74: with a hold time of 0 the call is lost in the same event. -/
theorem losesCall_loseLegs {g : Leg} (hs : (u.callOf n).state = .active) (hg : (u.callOf n).serving = some g)
    (hh : u.tables.timing.hold = 0) (b : Bool) (h : Ends s (u.loseLegs n true b) t) : LosesCall s u t n g := by
  have hbearer := bearer_loseLegs_active hs hg b
  rw [loseLegs_active hs hg] at h hbearer
  have hfrees := freesCall_enterHolding (s := u.setBearer g.cell g.slot .free) (n := n) hh g .active g.q none
  have hsends := sends_enterHolding (s := u.setBearer g.cell g.slot .free) (n := n) hh g .active g.q none
  refine ⟨?_, (h.bearer _ _).trans hbearer, fun hu hr => ?_, fun hl hc hr => ?_⟩
  · have he := hfrees.ends h
    exact ⟨by rw [he.call, callOf_setBearer], he.queue, fun m hm => by rw [he.others m hm, callOf_setBearer]⟩
  · simpa using h.sends hsends hu (by exact hr)
  · rw [h.captures, enterHolding_captures (s := u.setBearer g.cell g.slot .free) hh g .active g.q none hl hc hr,
      callOf_setBearer, ← hs, lostLeg_eq_legLostOf]
    rfl

/-! ### A leg of a BRIDGED call -/

theorem captures_commitByLoss (n : Circuit) (sl cl : Leg) (est : Nat × Nat) (hl : s.attn.captureEnables.legLost = true)
    (hr : s.attn.captures.length < 4) : (s.commitByLoss n sl cl est).attn.captures =
      s.attn.captures ++ [(s.callOf n).lostLeg n sl .bridged est.1 (some est.2) s.timeBase] := by
  rw [State.commitByLoss, keepLeg_attn]
  exact capture_joins (kind := .legLost) _ hl hr

theorem captures_abandonByLoss (n : Circuit) (sl cl : Leg) (est : Nat × Nat)
    (hl : s.attn.captureEnables.handoverAbandoned = true) (hr : s.attn.captures.length < 4) :
    (s.abandonByLoss n sl cl est).attn.captures = s.attn.captures ++ [⟨.handoverAbandoned, s.timeBase, false,
      { circuit := some n, hid := (s.callOf n).hid, cell := some cl.cell, slot := some cl.slot.val
        callState := some .bridged, qServing := some est.1, qCandidate := some est.2 }⟩] := by
  rw [State.abandonByLoss, keepLeg_attn]
  exact capture_joins (kind := .handoverAbandoned) _ hl hr

/-- Settles O46: the leg's silence loses it, in ACTIVE and in BRIDGED. -/
theorem silentLegIsLost : Obligations.SilentLegIsLost := by
  intro s n sl hsl
  have silent (r : LegRole) (g : Leg) (hg : (s.callOf n).leg r = some g) (hd : s.due g.silence = true) :
      ∃ t, exec (.legSilenceExpiry n r) s = .next t ∧ Ends s (s.loseLeg n r) t :=
    ends_guarded (by simp [State.legSilent, State.dueTimer, hg, hd])
  refine ⟨fun hs hd hh => ?_, fun hs hd hh => ?_, fun cl hs hcl ha => ⟨fun hd => ?_, fun hd => ?_⟩⟩
  · obtain ⟨t, ht, he⟩ := silent .serving sl hsl hd
    exact ⟨t, ht, (he.callOf n).trans (callOf_loseLegs_held hs hsl hh false),
      (he.bearer _ _).trans (bearer_loseLegs_active hs hsl false), he.cells.trans (cells_loseLegs_active hs hsl false),
      fun m hm => (he.callOf m).trans (callOf_loseLegs_other s hm true false)⟩
  · obtain ⟨t, ht, he⟩ := silent .serving sl hsl hd
    exact ⟨t, ht, losesCall_loseLegs hs hsl hh false he, he.cells.trans (cells_loseLegs_active hs hsl false)⟩
  · obtain ⟨t, ht, he⟩ := silent .serving sl hsl hd
    rw [show s.loseLeg n .serving = s.commitByLoss n sl cl (sl.q, cl.q) from
      loseLegs_serving hs hsl hcl] at he
    refine ⟨t, ht, (he.callOf n).trans (callOf_commitByLoss ..), ?_, ?_, he.cells.trans (commitByLoss_cells ..)⟩
    · rw [he.bearer, bearer_commitByLoss, if_pos ⟨rfl, rfl⟩]
    · rw [he.bearer, bearer_commitByLoss, if_neg ha, if_pos ⟨rfl, rfl⟩]
  · obtain ⟨t, ht, he⟩ := silent .candidate cl hcl hd
    rw [show s.loseLeg n .candidate = s.abandonByLoss n sl cl (sl.q, cl.q) from
      loseLegs_candidate hs hsl hcl] at he
    refine ⟨t, ht, (he.callOf n).trans (callOf_abandonByLoss ..), ?_, ?_, he.cells.trans (abandonByLoss_cells ..)⟩
    · rw [he.bearer, bearer_abandonByLoss, if_pos ⟨rfl, rfl⟩]
    · rw [he.bearer, bearer_abandonByLoss, if_neg fun h => ha ⟨h.1.symm, h.2.symm⟩, if_pos ⟨rfl, rfl⟩]

/-! ### VACATE -/

/-- R67, R68: the last RELEASING bearer of a CLEARING call. -/
theorem freesCall_freeBearer {c : CellId} {k : SlotId} (hb : s.bearer c k = .releasing n) (hl : s.lastReleasing c k n) :
    FreesCall s (s.freeBearer c k) n := by
  have h : s.freeBearer c k = (s.setBearer c k .free).toFree n := by
    rw [State.freeBearer, hb]
    exact if_pos (lastReleasing_iff.1 hl)
  have hf := freesCall_toFree (s := s.setBearer c k .free) (n := n)
    (by rw [callOf_setBearer, hl.1]; exact CallState.noConfusion)
  rw [h]
  exact ⟨by rw [hf.call, callOf_setBearer], hf.queue, fun m hm => by rw [hf.others m hm, callOf_setBearer]⟩

/-- R59, R68: what freeing a RELEASING bearer leaves of the bearers. -/
theorem bearer_freeBearer_releasing {c : CellId} {k : SlotId} (hb : s.bearer c k = .releasing n) (d : CellId)
    (j : SlotId) : (s.freeBearer c k).bearer d j = if d = c ∧ j = k then .free else s.bearer d j := by
  simp only [State.freeBearer, hb, bearer_leaveClearing, bearer_setBearer]

theorem vacated_bound {c : CellId} {k : SlotId} (h : s.bearer c k ≠ .free) : s.vacated c k = s.freeBearer c k := by
  rw [State.vacated]
  split
  · next hb => exact absurd hb h
  · rfl

/-- Settles O40: VACATE frees its bearer, by the bearer's use and the call's state. -/
theorem vacateFreesTheBearer : Obligations.VacateFreesTheBearer := by
  intro s c f k ht u
  have hcall (m : Circuit) : s.callOf m = u.callOf m := (takeFrame_callOf ..).symm
  have hbear (d : CellId) (j : SlotId) : s.bearer d j = u.bearer d j := (takeFrame_bearer ..).symm
  have htables : s.tables = u.tables := (State.takeFrame_tables ..).symm
  have htime : s.timeBase = u.timeBase := (State.takeFrame_timeBase ..).symm
  have hattn : s.attn = u.attn := (State.takeFrame_attn ..).symm
  have hqueue : s.call.freeQueue = u.call.freeQueue := by simp [u]
  obtain ⟨t, hexec, he⟩ : ∃ t, exec .vacate s = .next t ∧ Ends s (u.vacated c k) t :=
    ends_of (turn_direct ht rfl Msg.isVacate actVacate rfl)
  simp only [hcall, hbear, htables, htime, hattn, hqueue]
  refine ⟨fun hb => ⟨t, hexec, ?_⟩, fun n hb => ?_, fun n g hb hs hg hc hk => ?_, fun n sl cl hs hsl hcl hapart => ?_⟩
  · rwa [State.vacated, hb] at he
  · rw [vacated_bound (by simp [hb])] at he
    refine ⟨fun hn => ⟨t, hexec, ?_⟩, fun hs hn => ⟨t, hexec, ?_⟩⟩
    · rwa [freeBearer_releasing_waits hb fun hl => hn.elim (absurd hl.1) fun ⟨d, j, hd, hr⟩ => hl.2 d j hd hr] at he
    · have hf := (freesCall_freeBearer hb ⟨hs, hn⟩).ends he
      refine ⟨⟨by rw [hf.call, hcall], by rw [hf.queue, hqueue], fun m hm => by rw [hf.others m hm, hcall]⟩, ?_,
        fun d j hd => ?_, he.cells.trans (by simp [freeBearer_releasing_last hb ⟨hs, hn⟩, State.setBearer])⟩
      · rw [he.bearer, bearer_freeBearer_releasing hb, if_pos ⟨rfl, rfl⟩]
      · rw [he.bearer, bearer_freeBearer_releasing hb, if_neg hd]
  · subst hc hk
    rw [vacated_bound (by simp [hb]), freeBearer_of_serving hb] at he
    refine ⟨fun hh => ⟨t, hexec, (he.callOf n).trans (callOf_loseLegs_held hs hg hh false),
      (he.bearer _ _).trans (bearer_loseLegs_active hs hg false), fun m hm => ?_, ?_, fun hl hr => ?_⟩,
      fun hh => ⟨t, hexec, losesCall_loseLegs hs hg hh false he, he.cells.trans (cells_loseLegs_active hs hg false)⟩⟩
    · rw [he.callOf, callOf_loseLegs_other _ hm]
    · rw [he.call, loseLegs_active hs hg, enterHolding_eq (by exact hh.ne')]
      simp [State.freeReleasing, State.setBearer, State.modCall]
    · rw [he.captures, captures_loseLegs_held hs hg hh false hl hr, legLostOf, hs]
  · refine ⟨fun hb hc hk => ⟨t, hexec, ?_⟩, fun hb hc hk => ⟨t, hexec, ?_⟩⟩ <;> subst hc hk
    · rw [vacated_bound (by simp [hb]), freeBearer_of_serving hb, loseLegs_serving hs hsl hcl] at he
      refine ⟨(he.callOf n).trans (callOf_commitByLoss ..), ?_, ?_,
        fun m hm => (he.callOf m).trans (callOf_commitByLoss_other _ hm ..), he.cells.trans (commitByLoss_cells ..),
        fun hl hr => ?_⟩
      · rw [he.bearer, bearer_commitByLoss, if_pos ⟨rfl, rfl⟩]
      · rw [he.bearer, bearer_commitByLoss, if_neg hapart, if_pos ⟨rfl, rfl⟩]
      · rw [he.captures, captures_commitByLoss n sl cl _ hl hr, ← hs, lostLeg_eq_legLostOf]
    · rw [vacated_bound (by simp [hb]), freeBearer_of_candidate hb, loseLegs_candidate hs hsl hcl] at he
      refine ⟨(he.callOf n).trans (callOf_abandonByLoss ..), ?_, ?_,
        fun m hm => (he.callOf m).trans (callOf_abandonByLoss_other _ hm ..), he.cells.trans (abandonByLoss_cells ..),
        fun hl hr => ?_⟩
      · rw [he.bearer, bearer_abandonByLoss, if_pos ⟨rfl, rfl⟩]
      · rw [he.bearer, bearer_abandonByLoss, if_neg fun h => hapart ⟨h.1.symm, h.2.symm⟩, if_pos ⟨rfl, rfl⟩]
      · rw [he.captures, captures_abandonByLoss n sl cl _ hl hr, abandonedOf, hs]

end Sys2Proof.Machine
end

section
/-! A SEIZE for origin on a FREE bearer (R63). -/

namespace Sys2Proof.Machine

open Sys2Proof

section

variable {v : State} {z : Seize} {r : Record}

theorem seizeForOrigin_barred (h : r.standing = .barred) : v.seizeForOrigin z (some r) = v.deny z .barred := if_pos h

variable (hst : r.standing ≠ .barred)

include hst

theorem seizeForOrigin_detached (h : r.attach = .detached) : v.seizeForOrigin z (some r) = v.deny z .notEnrolled :=
  (if_neg hst).trans (if_pos h)

/-- R63: an accepted origin needs the exchange link UP and a circuit in the free queue. -/
theorem seizeForOrigin_noCircuit (hat : r.attach ≠ .detached) (hc : (v.findCall z.hid).isSome = false)
    (hx : v.exchUp = false ∨ v.call.freeQueue = []) : v.seizeForOrigin z (some r) = v.deny z .noCircuit := by
  simp only [State.seizeForOrigin, if_neg hst, if_neg hat, hc, Bool.false_eq_true, if_false]
  rcases hx with hx | hx
  · rw [hx, if_neg Bool.false_ne_true]
  · rw [hx, ite_self]

end

/-- The cell links but that of the message are as they were. -/
theorem takenFor_cells_other {s : State} {c d : CellId} (h : Hid) (found : Option CacheEntry) (hd : d ≠ c) :
    (s.takenFor (.cell c) h found).cells.at d = s.cells.at d := by
  rw [takenFor_cells, Table.at_put_other _ _ hd]

/-- Settles O34: the tests of an origin in their order, and the call of an accepted one bound to its bearer. -/
theorem originMakesACallOrIsDenied : Obligations.OriginMakesACallOrIsDenied := by
  intro s c f k h level ht hu hb
  have handled {found : Option CacheEntry} {a : Handled}
      (ha : (s.takenFor (.cell c) h found).seizeForOrigin ⟨c, k, h, level⟩ (found.map CacheEntry.record) = a) :
      ((s.takenFor (.cell c) h found).freeBearer c k).handle ⟨c, k, h, level⟩ (found.map CacheEntry.record) .origin =
        a := by
    rw [freeBearer_free (by rw [takenFor_bearer, hb])]; exact ha
  refine ⟨fun hf => seize_denied ht hf hu (handled rfl), ?_⟩
  intro e hf u denied
  have refused {reason : DenyReason}
      (ha : u.seizeForOrigin ⟨c, k, h, level⟩ (some e.record) = u.deny ⟨c, k, h, level⟩ reason) : denied reason :=
    seize_denied ht hf hu (handled ha)
  have hfind : u.findCall h = s.findCall h := takenFor_findCall ..
  split
  · next hst => exact refused (seizeForOrigin_barred hst)
  next hst =>
  split
  · next hat => exact refused (seizeForOrigin_detached hst hat)
  next hat =>
  have hst' : e.record.standing = .permitted := by cases hx : e.record.standing <;> simp_all
  have hat' : e.record.attach = .attached := by cases hx : e.record.attach <;> simp_all
  split
  · next hc => exact refused (seizeForOrigin_busy hst' hat' (by rwa [hfind]))
  next hc =>
  have hc : (u.findCall h).isSome = false := by rw [hfind]; simpa using hc
  split
  · next hx => exact refused (seizeForOrigin_noCircuit hst hat hc (.inl ((takenFor_exchUp ..).trans hx)))
  next hx =>
  have hx : s.exchUp = true := by simpa using hx
  split
  · next hq => exact refused (seizeForOrigin_noCircuit hst hat hc (.inr (by rw [takenFor_call, hq])))
  next n rest hq =>
  intro p hfit
  have ha := seizeForOrigin_accepts (v := u) (z := ⟨c, k, h, level⟩) hst' hat' (by simpa using hc)
    ((takenFor_exchUp ..).trans hx) (by rw [takenFor_call, hq])
  obtain ⟨t, hexec, hs⟩ := seize_accepted ht hf hu (fun x hx => by cases hx; exact hfit) (handled ha)
  obtain ⟨hcall, hbearer, hqueue, hsame⟩ := boundIn (hs.call.trans (State.placeExch_call ..))
  have hcells : t.cells = (u.placeSig c (grantFrame k h)).cells := by
    rw [hs.cells, State.placeExch_cells, bound_cells]
    exact placeSig_cells (by rfl) ..
  refine ⟨t, hexec, ?_, hbearer, hqueue, ?_, hs.located e rfl, hs.queued e rfl, fun hroom => ?_, fun hroom => ?_,
    fun d hd => ?_, ?_, ?_⟩
  · rw [hcall, takenFor_tables, takenFor_timeBase]
  · rwa [State.withCalls, takenFor_call] at hsame
  · exact takenFor_joins hcells rfl hu hroom
  · obtain ⟨w, hw, hsettles⟩ := hs.settles
    have := hsettles.placed_after hw
    rw [State.exchUp, bound_exch] at this
    have hexch : (u.withCalls { u.call with freeQueue := rest }).exch = s.exch := takenFor_exch ..
    rw [hexch] at this
    exact this hx hroom
  · rw [hcells, placeSig_at_other u _ hd]
    exact takenFor_cells_other h (some e) hd
  · rw [hs.tables, State.placeExch_tables, bound_tables]
    exact takenFor_tables ..
  · rw [hs.mem, State.placeExch_reg, bound_reg]
    exact congrArg Registry.mem (takenFor_reg ..)

end Sys2Proof.Machine
end

section
/-! The Paging Unit: the cells that a stage chooses, the stage that begins, and the page that ends unanswered
(R85 to R89). -/

namespace Sys2Proof.Machine

open Sys2Proof

/-! ### The cells of a stage -/

theorem foldl_choose (p : CellId → Bool) (list chosen : List CellId) :
    list.foldl (fun chosen c => if p c && !chosen.contains c then chosen ++ [c] else chosen) chosen =
      chosen ++ ((list.filter p).filter (!chosen.contains ·)).eraseDups := by
  induction list generalizing chosen with
  | nil => simp
  | cons c list ih =>
    rw [List.foldl_cons, ih]
    cases hp : p c with
    | false => simp [hp]
    | true =>
      rw [List.filter_cons_of_pos hp]
      by_cases hm : c ∈ chosen
      · simp [hm]
      · rw [if_pos (by simp [hm]), List.filter_cons_of_pos (by simp [hm]), List.eraseDups_cons, List.append_assoc,
          List.singleton_append]
        have hsame : (fun d => (!decide (d ∈ chosen) && !decide (d = c)) && p d) =
            fun d => !decide (d = c) && (!decide (d ∈ chosen) && p d) := by
          funext d; rw [Bool.and_comm (!decide (d ∈ chosen)), Bool.and_assoc]
        simp [List.filter_filter, hsame, beq_eq_decide]

/-- R86, R87, R88: each cell of the list that is UP and not yet summoned, once, in the order of the list. -/
theorem chooseCells_eq (s : State) (summoned list : List CellId) : s.chooseCells summoned list =
    (list.filter fun c => s.cellUp c && !summoned.contains c).eraseDups := by
  rw [State.chooseCells, foldl_choose fun c => s.cellUp c && !summoned.contains c]
  simp

theorem chooseCells_congr {s t : State} (h : ∀ c, t.cellUp c = s.cellUp c) (summoned list : List CellId) :
    t.chooseCells summoned list = s.chooseCells summoned list := by
  simp only [State.chooseCells, h]

/-! ### A page in progress -/

theorem put_put {α : Type} {k : Nat} (t : Table α k) (i : Fin k) (x y : α) : (t.put i x).put i y = t.put i y := by
  simp [Table.put]

/-- A state with the call of circuit `n` replaced by `r` and the free queue by `q`. -/
def State.paged (u : State) (r : CallRecord) (n : Circuit) (q : List Circuit) : State :=
  u.withCalls { u.call with freeQueue := q, calls := u.call.calls.put n r }

/-- R85: SUMMON placed for each chosen cell. -/
def State.summonAll (u : State) (n : Circuit) (h : Hid) (chosen : List CellId) : State :=
  chosen.foldl (fun v d => v.placeSig d (summonFrame h n)) u

/-- R85: the call `r` on circuit `n`, once a stage has begun with the chosen cells, its timer set to `expiry`. -/
def CallRecord.summoning (r : CallRecord) (stage : PageStage) (chosen : List CellId) (expiry : Time) : CallRecord :=
  { r with pageStage := some stage, summoned := r.summoned ++ chosen, stageTimer := some expiry }

section

variable (u : State) (r : CallRecord) (n : Circuit) (q : List Circuit)

@[simp] theorem callOf_paged : (u.paged r n q).callOf n = r := Table.at_put_same ..

theorem callOf_paged_other {m : Circuit} (hm : m ≠ n) : (u.paged r n q).callOf m = u.callOf m := Table.at_put_other _ _ hm

/-- A state is that of its own page. -/
theorem paged_self : u.paged (u.callOf n) n u.call.freeQueue = u := by
  simp [State.paged, State.withCalls, State.callOf]

theorem summonAll_withCalls (x : CallTable) (h : Hid) (chosen : List CellId) :
    (u.withCalls x).summonAll n h chosen = (u.summonAll n h chosen).withCalls x := by
  induction chosen generalizing u with
  | nil => rfl
  | cons d chosen ih => exact ih (u.placeSig d (summonFrame h n))

@[simp] theorem summonAll_call (h : Hid) (chosen : List CellId) : (u.summonAll n h chosen).call = u.call := by
  induction chosen generalizing u with
  | nil => rfl
  | cons d chosen ih => exact ih (u.placeSig d (summonFrame h n))

variable {u r n q}

/-- R85: a stage that chooses a cell begins. -/
theorem beginStage_chooses {h : Hid} (hr : r.hid = some h) {stage : PageStage} {list chosen : List CellId}
    (hc : u.chooseCells r.summoned list = chosen) (hne : chosen ≠ []) (ms : Nat) (otherwise : State) :
    (u.paged r n q).beginStage n stage list ms otherwise =
      (u.summonAll n h chosen).paged (r.summoning stage chosen (u.timeBase + BitVec.ofNat 32 ms)) n q := by
  rw [State.beginStage]
  simp only [callOf_paged]
  rw [show (u.paged r n q).chooseCells r.summoned list = chosen from hc]
  have hs : (u.paged r n q).summon n chosen = (u.summonAll n h chosen).paged r n q := by
    rw [State.summon]
    simp only [callOf_paged, hr, Option.getD_some]
    rw [State.paged, State.paged, summonAll_call]
    exact summonAll_withCalls ..
  cases chosen with
  | nil => exact absurd rfl hne
  | cons d chosen =>
    simp only [hs, State.modCall, callOf_paged]
    simp [State.paged, State.withCalls, put_put, State.after, CallRecord.summoning]

/-- R85: a stage that chooses no cell is passed over. -/
theorem beginStage_empty {stage : PageStage} {list : List CellId} (hc : u.chooseCells r.summoned list = [])
    (ms : Nat) (otherwise : State) : (u.paged r n q).beginStage n stage list ms otherwise = otherwise := by
  rw [State.beginStage]
  simp only [callOf_paged]
  rw [show (u.paged r n q).chooseCells r.summoned list = [] from hc]

/-- R89: the page that ends unanswered. -/
theorem pageUnanswered_paged (hr : r.state ≠ .free) : (u.paged r n q).pageUnanswered n =
    (u.placeExch (endedFrame n .unreachable)).paged (.free r.profile) n (q ++ [n]) := by
  have hplace : (u.paged r n q).placeExch (endedFrame n .unreachable) =
      (u.placeExch (endedFrame n .unreachable)).paged r n q := rfl
  rw [State.pageUnanswered, hplace, State.toFree, if_neg (by rwa [callOf_paged])]
  simp [State.modCall, State.paged, State.withCalls, put_put, State.callOf]

variable {h : Hid} (hr : r.hid = some h) (hs : r.state ≠ .free)

section

variable {three : List CellId} (hthree : u.chooseCells r.summoned (ascending 24) = three)

include hthree

include hr in
/-- R88: stage 3 begins. -/
theorem stage3_goesOn (hne : three ≠ []) : (u.paged r n q).stage3 n =
    (u.summonAll n h three).paged (r.summoning .stage3 three (u.timeBase + BitVec.ofNat 32 u.tables.timing.stage3)) n q :=
  beginStage_chooses hr hthree hne _ _

include hs in
/-- R89: stage 3 chooses no cell. -/
theorem stage3_ends (he : three = []) : (u.paged r n q).stage3 n =
    (u.placeExch (endedFrame n .unreachable)).paged (.free r.profile) n (q ++ [n]) :=
  (beginStage_empty (by rw [hthree, he]) _ _).trans (pageUnanswered_paged hs)

end

section

variable {c : CellId} (hp : r.pageCell = some c) {two : List CellId}
  (htwo : u.chooseCells r.summoned (u.tables.zoneCells (u.tables.cellConfigs.at c).zone) = two)

include hp htwo

include hr in
/-- R87: stage 2 begins. -/
theorem stage2_goesOn (hne : two ≠ []) : (u.paged r n q).stage2 n =
    (u.summonAll n h two).paged (r.summoning .stage2 two (u.timeBase + BitVec.ofNat 32 u.tables.timing.stage2)) n q := by
  rw [State.stage2]
  simp only [callOf_paged, hp]
  exact beginStage_chooses hr htwo hne _ _

/-- R87: stage 2 chooses no cell. -/
theorem stage2_passes (he : two = []) : (u.paged r n q).stage2 n = (u.paged r n q).stage3 n := by
  rw [State.stage2]
  simp only [callOf_paged, hp]
  exact beginStage_empty (by rw [← he]; exact htwo) _ _

end

end

end Sys2Proof.Machine
end

section
/-! The OFFER (R62) and the page's stages (R85 to R89). -/

namespace Sys2Proof.Machine

open Sys2Proof

/-! ### The state in which a message of the exchange is acted on -/

section

variable (s : State) (h : Hid) (found : Option CacheEntry)

@[simp] theorem takenForExch_call : (s.takenFor .exchange h found).call = s.call := by cases found <;> simp [State.takenFor]

@[simp] theorem takenForExch_callOf (n : Circuit) : (s.takenFor .exchange h found).callOf n = s.callOf n := by
  simp [State.callOf]

@[simp] theorem takenForExch_findCall (x : Hid) : (s.takenFor .exchange h found).findCall x = s.findCall x := by
  simp [State.findCall]

@[simp] theorem takenForExch_cells : (s.takenFor .exchange h found).cells = s.cells := by
  cases found <;> simp [State.takenFor, State.takeFrame, State.modUnit, State.modExch]

@[simp] theorem takenForExch_cellUp (c : CellId) : (s.takenFor .exchange h found).cellUp c = s.cellUp c := by
  simp [State.cellUp]

@[simp] theorem takenForExch_exchUp : (s.takenFor .exchange h found).exchUp = s.exchUp := by
  cases found <;> simp [State.takenFor, State.takeFrame, State.modUnit, State.modExch, State.exchUp]

@[simp] theorem takenForExch_tables : (s.takenFor .exchange h found).tables = s.tables := by
  cases found <;> simp [State.takenFor]

@[simp] theorem takenForExch_timeBase : (s.takenFor .exchange h found).timeBase = s.timeBase := by
  cases found <;> simp [State.takenFor]

end

/-! ### The tests of an OFFER (R62) -/

section

variable {s : State} {n : Circuit} {h : Hid}

/-- The event of an OFFER: it changes no record. -/
theorem offer_settles {f : Frame} {found : Option CacheEntry} (ht : TakesNext s .exchange f (.offer n h))
    (hf : s.Finds h found) : ∃ t, exec .offer s = .next t ∧
      Settles s ((s.takenFor .exchange h found).offered n h (found.map CacheEntry.record)) t := by
  obtain ⟨mine, act, hm, rfl, hexec⟩ := exec_takesHid (takesHid_row (m := .offer n h) rfl)
  have hexec : exec .offer s = _ := hexec s
  rw [hexec]
  cases found with
  | none => exact settles_notFound ht rfl hf hm
  | some e => exact settles_same ht rfl hf hm rfl

theorem offered_discarded (hx : s.exchUp = false) (found : Option Record) : s.offered n h found = s :=
  if_neg (by simp [hx])

variable (hx : s.exchUp = true)

include hx

theorem offered_busy (hn : (s.callOf n).state ≠ .free) (found : Option Record) :
    s.offered n h found = s.placeExch (endedFrame n .circuitBusy) :=
  (if_pos hx).trans (if_pos hn)

variable (hn : (s.callOf n).state = .free)

include hn

theorem offered_unknown : s.offered n h none = s.placeExch (endedFrame n .unknown) := by
  rw [State.offered, if_pos hx, if_neg (not_not.2 hn)]

theorem offered_inCall {r : Record} (hc : (s.findCall h).isSome = true) :
    s.offered n h (some r) = s.placeExch (endedFrame n .handsetBusy) := by
  rw [State.offered, if_pos hx, if_neg (not_not.2 hn)]
  exact if_pos hc

theorem offered_detached {r : Record} (hc : (s.findCall h).isSome ≠ true) (hr : r.attach = .detached) :
    s.offered n h (some r) = s.placeExch (endedFrame n .unreachable) := by
  rw [State.offered, if_pos hx, if_neg (not_not.2 hn)]
  exact (if_neg hc).trans (if_pos hr)

end

/-- R62: the call that an OFFER makes before its first stage. -/
def CallRecord.offeredFor (r : CallRecord) (h : Hid) (rec : Record) : CallRecord :=
  { CallRecord.free r.profile with
    state := .paging, hid := some h, direction := some .incoming, mclass := some rec.mclass, pageCell := rec.location }

/-- R62: an OFFER accepted begins the page at its first stage. -/
theorem offered_accepted {s : State} {n : Circuit} {h : Hid} {r : Record} (hx : s.exchUp = true)
    (hn : (s.callOf n).state = .free) (hc : (s.findCall h).isSome ≠ true) (hr : r.attach ≠ .detached) :
    s.offered n h (some r) =
      (s.paged ((s.callOf n).offeredFor h r) n (s.call.freeQueue.filter (· ≠ n))).stage1 n := by
  rw [State.offered, if_pos hx, if_neg (not_not.2 hn)]
  exact (if_neg hc).trans (if_neg hr)

/-! ### Stage 1 -/

section

variable {u : State} {r : CallRecord} {n : Circuit} {q : List Circuit} {c : CellId} (hp : r.pageCell = some c)

include hp

/-- R86: stage 1 at a page cell that is UP. -/
theorem stage1_goesOn {h : Hid} (hsum : r.summoned = []) (hr : r.hid = some h) (hu : u.cellUp c = true) :
    (u.paged r n q).stage1 n = (u.summonAll n h [c]).paged
      (r.summoning .stage1 [c] (u.timeBase + BitVec.ofNat 32 u.tables.timing.stage1)) n q := by
  rw [State.stage1]
  simp only [callOf_paged, hp]
  refine beginStage_chooses hr ?_ (List.cons_ne_nil _ _) _ _
  simp [State.chooseCells, hu, hsum]

/-- R86: stage 1 at a page cell that is not UP. -/
theorem stage1_passes (hu : u.cellUp c = false) : (u.paged r n q).stage1 n = (u.paged r n q).stage2 n := by
  rw [State.stage1]
  simp only [callOf_paged, hp]
  refine beginStage_empty ?_ _ _
  simp [State.chooseCells, hu]

end

/-- Settles O38: the tests of an OFFER in their order, and stage 1 of an accepted one. -/
theorem offerStartsAPageOrIsRefused : Obligations.OfferStartsAPageOrIsRefused := by
  intro s f n h found ht hx hf u refused
  have hxu : u.exchUp = true := (takenForExch_exchUp ..).trans hx
  have hcall : u.callOf n = s.callOf n := takenForExch_callOf ..
  have hfind : u.findCall h = s.findCall h := takenForExch_findCall ..
  have refuses {cause : EndedCause}
      (ha : u.offered n h (found.map CacheEntry.record) = u.placeExch (endedFrame n cause)) : refused cause := by
    obtain ⟨t, hexec, hs⟩ := offer_settles ht hf
    exact ⟨t, hexec, by rwa [← ha]⟩
  split
  · next hn => exact refuses (offered_busy hxu (by rwa [hcall]) _)
  next hn =>
  have hn : (u.callOf n).state = .free := by rw [hcall]; exact not_not.1 hn
  cases found with
  | none => exact refuses (offered_unknown hxu hn)
  | some e =>
    simp only
    split
    · next hc => exact refuses (offered_inCall hxu hn (by rwa [hfind]))
    next hc =>
    rw [← hfind] at hc
    split
    · next hr => exact refuses (offered_detached hxu hn hc hr)
    next hr =>
    intro c hloc hup
    obtain ⟨t, hexec, hs⟩ := offer_settles ht hf
    rw [show (some e).map CacheEntry.record = some e.record from rfl, offered_accepted hxu hn hc hr,
      stage1_goesOn (r := (u.callOf n).offeredFor h e.record) hloc rfl rfl ((takenForExch_cellUp ..).trans hup)] at hs
    refine ⟨t, hexec, ?_, ?_, ?_, fun m hm => ?_, fun hroom => ?_, fun d hd => ?_, ?_, ?_⟩
    · rw [State.callOf, hs.call]
      refine (callOf_paged ..).trans ?_
      rw [hcall, takenForExch_timeBase, takenForExch_tables, CallRecord.offeredFor, hloc]
      rfl
    · rw [hs.call, ← takenForExch_call s h (some e)]; rfl
    · rw [hs.call, ← takenForExch_call s h (some e)]; rfl
    · rw [State.callOf, hs.call]
      exact (callOf_paged_other _ _ _ _ hm).trans (takenForExch_callOf ..)
    · have hq : (u.cells.at c).sigQueue = (s.cells.at c).sigQueue := by rw [takenForExch_cells]
      rw [hs.cells, ← hq]
      exact placeSig_joins _ ((takenForExch_cellUp ..).trans hup) (by rwa [hq])
    · rw [hs.cells]
      refine (placeSig_at_other u _ hd).trans ?_
      rw [takenForExch_cells]
    · rw [State.entryOf, hs.cache]
      exact (takenFor_entryOf ..).trans hf.2
    · rw [hs.mem]
      exact congrArg Registry.mem (takenFor_reg ..)

/-- R87, R88, R89: a page goes on from stage 1 to the first later stage that chooses a cell, or ends. -/
theorem stage2_cases {u : State} {r : CallRecord} {n : Circuit} (q : List Circuit) {c : CellId} {h : Hid}
    (hh : r.hid = some h) (hc : r.pageCell = some c) (hs : r.state ≠ .free) {two three : List CellId}
    (htwo : u.chooseCells r.summoned (u.tables.zoneCells (u.tables.cellConfigs.at c).zone) = two)
    (hthree : u.chooseCells r.summoned (ascending 24) = three) :
    (two ≠ [] → (u.paged r n q).stage2 n = (u.summonAll n h two).paged
      (r.summoning .stage2 two (u.timeBase + BitVec.ofNat 32 u.tables.timing.stage2)) n q) ∧
    (two = [] → three ≠ [] → (u.paged r n q).stage2 n = (u.summonAll n h three).paged
      (r.summoning .stage3 three (u.timeBase + BitVec.ofNat 32 u.tables.timing.stage3)) n q) ∧
    (two = [] → three = [] → (u.paged r n q).stage2 n =
      (u.placeExch (endedFrame n .unreachable)).paged (.free r.profile) n (q ++ [n])) :=
  ⟨stage2_goesOn hh hc htwo, fun h2 h3 => (stage2_passes hc htwo h2).trans (stage3_goesOn hh hthree h3),
    fun h2 h3 => (stage2_passes hc htwo h2).trans (stage3_ends hs hthree h3)⟩

/-- Settles O39: an OFFER discarded, and a page that goes on from a stage or from its OFFER. -/
theorem pageGoesOnToTheNextCells : Obligations.PageGoesOnToTheNextCells := by
  refine ⟨fun s f n h found ht hx hf => ?_, ?_⟩
  · obtain ⟨t, hexec, hs⟩ := offer_settles ht hf
    rw [offered_discarded ((takenForExch_exchUp ..).trans hx)] at hs
    exact ⟨t, hexec, hs⟩
  intro cells zone goesOn unanswered
  have hgoes (s u : State) (ht : u.timeBase = s.timeBase) (r : CallRecord) (n : Circuit) (h : Hid) (stage : PageStage)
      (chosen : List CellId) (ms : Nat) (q : List Circuit) : (u.summonAll n h chosen).paged
        (r.summoning stage chosen (u.timeBase + BitVec.ofNat 32 ms)) n q = goesOn s u r n h stage chosen ms q := by
    rw [State.paged, ht, State.withCalls, show goesOn s u r n h stage chosen ms q = { u.summonAll n h chosen with
      call := { (u.summonAll n h chosen).call with
        freeQueue := q
        calls := u.call.calls.put n (r.summoning stage chosen (s.timeBase + BitVec.ofNat 32 ms)) } } from rfl,
      summonAll_call]
  have hends (u : State) (r : CallRecord) (n : Circuit) (q : List Circuit) :
      (u.placeExch (endedFrame n .unreachable)).paged (.free r.profile) n (q ++ [n]) = unanswered u r n q := rfl
  refine ⟨?_, ?_⟩
  · intro s n x h c hs hx hd hh hc r ends two three q
    have hs' : r.state ≠ .free := by simp [r, hs]
    have htwo : s.chooseCells r.summoned (s.tables.zoneCells (s.tables.cellConfigs.at c).zone) = two := chooseCells_eq ..
    have hthree : s.chooseCells r.summoned (ascending 24) = three := chooseCells_eq ..
    have hself : s.paged r n q = s := paged_self s n
    obtain ⟨h2, h3, h4⟩ := stage2_cases q hh hc hs' htwo hthree (n := n)
    have h5 := stage3_goesOn hh hthree (n := n) (q := q)
    have h6 := stage3_ends hs' hthree (n := n) (q := q)
    rw [hgoes s s rfl, hself] at h2 h3 h5
    rw [hends, hself] at h4 h6
    have expires {u : State} (hu : s.stageExpired n = u) : ends u :=
      hu ▸ ends_guarded (by simp [State.stageDue, State.dueTimer, hs, hx, hd])
    have first (h1 : r.pageStage = some .stage1) : s.stageExpired n = s.stage2 n := by rw [State.stageExpired, h1]
    have second (h1 : r.pageStage = some .stage2) : s.stageExpired n = s.stage3 n := by rw [State.stageExpired, h1]
    exact ⟨fun h1 he => expires ((first h1).trans (h2 he)), fun h1 he hf => expires ((first h1).trans (h3 he hf)),
      fun h1 he hf => expires ((first h1).trans (h4 he hf)), fun h1 he => expires ((second h1).trans (h5 he)),
      fun h1 he => expires ((second h1).trans (h6 he))⟩
  · intro s f n h e c ht hx hf hn hfind hat hloc hup u r settles two three q
    have hcell (d : CellId) : u.cellUp d = s.cellUp d := takenForExch_cellUp ..
    have htables : u.tables = s.tables := takenForExch_tables ..
    have htwo : u.chooseCells r.summoned (u.tables.zoneCells (u.tables.cellConfigs.at c).zone) = two := by
      rw [chooseCells_congr hcell, htables]; exact chooseCells_eq ..
    have hthree : u.chooseCells r.summoned (ascending 24) = three := (chooseCells_congr hcell ..).trans (chooseCells_eq ..)
    obtain ⟨h2, h3, h4⟩ := stage2_cases q (r := r) rfl rfl CallState.noConfusion htwo hthree (n := n)
    rw [hgoes s u (takenForExch_timeBase ..), htables] at h2 h3
    rw [hends] at h4
    have hoffer : u.offered n h (some e.record) = (u.paged r n q).stage2 n := by
      rw [offered_accepted ((takenForExch_exchUp ..).trans hx)
        ((congrArg CallRecord.state (takenForExch_callOf ..)).trans hn)
        (by rw [takenForExch_findCall, hfind]; exact Bool.false_ne_true) (by simp [hat]), takenForExch_callOf,
        takenForExch_call, show (s.callOf n).offeredFor h e.record = r by rw [CallRecord.offeredFor, hloc]]
      exact stage1_passes rfl ((takenForExch_cellUp ..).trans hup)
    have goes {v : State} (hv : (u.paged r n q).stage2 n = v) : settles v := by
      obtain ⟨t, hexec, hs⟩ := offer_settles ht hf
      exact ⟨t, hexec, hv ▸ hoffer ▸ hs⟩
    exact ⟨fun he => goes (h2 he), fun he hf => goes (h3 he hf), fun he hf => goes (h4 he hf)⟩

end Sys2Proof.Machine
end

section
/-! One emission of the merge window (R105, R131, R132). -/

namespace Sys2Proof.Machine

open Sys2Proof

/-! ### The emission before the losses and the evaluation -/

theorem Leg.emitted_eq (g : Leg) (w : Nat) (f : Option StoredFrame) : g.emitted w f =
    { g with
      q := updateEstimate w g.q ((f.map StoredFrame.score).getD 0), miss := if f.isSome then 0 else g.miss + 1 } := by
  cases f <;> rfl

/-- R131: the frame that a slot forwards. -/
def MergeSlot.forwards (m : MergeSlot) (n : Circuit) : List Frame :=
  match m.serving, m.candidate with
  | some x, some y => [forwardedFrame n (if x.score < y.score then y.voice else x.voice)]
  | some x, none => [forwardedFrame n x.voice]
  | none, some y => [forwardedFrame n y.voice]
  | none, none => []

theorem forwards_length (m : MergeSlot) (n : Circuit) : (m.forwards n).length ≤ 1 := by
  rw [MergeSlot.forwards]; split <;> simp

theorem sends_forwardSlot (s : State) (n : Circuit) (m : MergeSlot) : s.Sends (s.forwardSlot n m) (m.forwards n) := by
  rcases hm : m with ⟨_ | x, _ | y, d⟩ <;> simp only [State.forwardSlot, MergeSlot.better, MergeSlot.forwards]
  · exact sends_nil rfl
  · exact sends_placeExch s _
  · exact sends_placeExch s _
  · by_cases h : x.score < y.score <;> simp only [h, if_true, if_false] <;> exact sends_placeExch s _

section

variable (s : State) (n : Circuit) (sl cl : Leg) (win : Window)

theorem sends_emitted : s.Sends (s.emitted n sl cl win) ((win.slots.at 0).forwards n) := sends_forwardSlot s n _

@[simp] theorem forwardSlot_cells (m : MergeSlot) : (s.forwardSlot n m).cells = s.cells := by
  rw [State.forwardSlot]; split <;> simp [State.forward]

@[simp] theorem forwardSlot_attn (m : MergeSlot) : (s.forwardSlot n m).attn = s.attn := by
  rw [State.forwardSlot]; split <;> simp [State.forward]

@[simp] theorem forwardSlot_tables (m : MergeSlot) : (s.forwardSlot n m).tables = s.tables := by
  rw [State.forwardSlot]; split <;> simp [State.forward]

@[simp] theorem forwardSlot_timeBase (m : MergeSlot) : (s.forwardSlot n m).timeBase = s.timeBase := by
  rw [State.forwardSlot]; split <;> simp [State.forward]

@[simp] theorem emitted_cells : (s.emitted n sl cl win).cells = s.cells := forwardSlot_cells ..
@[simp] theorem emitted_attn : (s.emitted n sl cl win).attn = s.attn := forwardSlot_attn ..
@[simp] theorem emitted_tables : (s.emitted n sl cl win).tables = s.tables := forwardSlot_tables ..
@[simp] theorem emitted_timeBase : (s.emitted n sl cl win).timeBase = s.timeBase := forwardSlot_timeBase ..

@[simp] theorem emitted_bearers : (s.emitted n sl cl win).call.bearers = s.call.bearers := by
  show (s.forwardSlot n _).call.bearers = _
  rw [forwardSlot_call]

@[simp] theorem emitted_freeQueue : (s.emitted n sl cl win).call.freeQueue = s.call.freeQueue := by
  show (s.forwardSlot n _).call.freeQueue = _
  rw [forwardSlot_call]

@[simp] theorem bearer_emitted (c : CellId) (k : SlotId) : (s.emitted n sl cl win).bearer c k = s.bearer c k := by
  rw [State.bearer, emitted_bearers]; rfl

end

/-! ### The four outcomes of an emission (R131, step 6) -/

section

variable {s : State} {n : Circuit} {sl cl sl' cl' : Leg} {win : Window} (hsl : (s.callOf n).serving = some sl)
  (hcl : (s.callOf n).candidate = some cl) (hw : (s.callOf n).window = some win)
  (esl : sl.emitted (s.callOf n).profile.w (win.slots.at 0).serving = sl')
  (ecl : cl.emitted (s.callOf n).profile.w (win.slots.at 0).candidate = cl')

include esl ecl in
theorem callOf_emitted_legs : (s.emitted n sl cl win).callOf n =
    { s.callOf n with serving := some sl', candidate := some cl', window := some win.shift } :=
  esl ▸ ecl ▸ callOf_emitted s n sl cl win

include hsl hcl hw esl ecl

theorem emit_evaluates (h1 : sl'.miss < (s.callOf n).profile.l) (h2 : cl'.miss < (s.callOf n).profile.l)
    (est : Nat × Nat) : s.emit n est = (s.emitted n sl cl win).evaluate n := by
  subst esl ecl
  rw [emit_eq hsl hcl hw, decide_eq_false h1.not_ge, decide_eq_false h2.not_ge]

theorem emit_abandons (h1 : sl'.miss < (s.callOf n).profile.l) (h2 : (s.callOf n).profile.l ≤ cl'.miss)
    (est : Nat × Nat) : s.emit n est = (s.emitted n sl cl win).abandonByLoss n sl' cl' est := by
  subst esl ecl
  rw [emit_eq hsl hcl hw, decide_eq_false h1.not_ge, decide_eq_true h2]

theorem emit_commitsByLoss (h1 : (s.callOf n).profile.l ≤ sl'.miss) (h2 : cl'.miss < (s.callOf n).profile.l)
    (est : Nat × Nat) : s.emit n est = (s.emitted n sl cl win).commitByLoss n sl' cl' est := by
  subst esl ecl
  rw [emit_eq hsl hcl hw, decide_eq_true h1, decide_eq_false h2.not_ge]

theorem emit_losesBoth (h1 : (s.callOf n).profile.l ≤ sl'.miss) (h2 : (s.callOf n).profile.l ≤ cl'.miss)
    (est : Nat × Nat) : s.emit n est = (s.emitted n sl cl win).loseBoth n sl' cl' est := by
  subst esl ecl
  rw [emit_eq hsl hcl hw, decide_eq_true h1, decide_eq_true h2]

end

/-! ### The end of a bridge on quality (R106) -/

section

variable (s : State) (n : Circuit) (sl cl : Leg)

theorem commit_cells : (s.commit n sl cl).cells = (s.placeSig sl.cell (clearFrame sl.slot)).cells := by
  rw [State.commit, keepLeg_cells]; rfl

@[simp] theorem commit_attn : (s.commit n sl cl).attn = s.attn := by
  rw [State.commit, keepLeg_attn]; rfl

@[simp] theorem commit_exch : (s.commit n sl cl).exch = s.exch := by
  rw [State.commit, keepLeg_exch]; rfl

end

/-! ### The loss of both legs (R112) -/

section

variable {s : State} {n : Circuit} (sl cl : Leg) (est : Nat × Nat)

/-- R112: a loss of both legs is that of the serving leg, the bearers of both being FREE. -/
theorem loseBoth_eq (s : State) (n : Circuit) : s.loseBoth n sl cl est =
    ((s.setBearer sl.cell sl.slot .free).setBearer cl.cell cl.slot .free).enterHolding n sl .bridged est.1 (some est.2) :=
  rfl

section

variable (hh : s.tables.timing.hold ≠ 0)

include hh

theorem callOf_loseBoth_held : (s.loseBoth n sl cl est).callOf n =
    (s.callOf n).heldFrom sl (s.timeBase + BitVec.ofNat 32 s.tables.timing.hold) := by
  rw [loseBoth_eq, callOf_enterHolding_pos _ _ (by exact hh), callOf_setBearer, callOf_setBearer]
  rfl

theorem freeQueue_loseBoth_held : (s.loseBoth n sl cl est).call.freeQueue = s.call.freeQueue := by
  rw [loseBoth_eq, enterHolding_eq (by exact hh)]
  simp [State.freeReleasing, State.setBearer, State.modCall]

theorem exch_loseBoth_held : (s.loseBoth n sl cl est).exch = s.exch := by
  rw [loseBoth_eq, enterHolding_eq (by exact hh)]
  simp [State.freeReleasing, State.setBearer]

theorem captures_loseBoth_held (hl : s.attn.captureEnables.legLost = true) (hr : s.attn.captures.length < 4) :
    (s.loseBoth n sl cl est).attn.captures =
      s.attn.captures ++ [(s.callOf n).lostLeg n sl .bridged est.1 (some est.2) s.timeBase] := by
  have h := enterHolding_report (s := (s.setBearer sl.cell sl.slot .free).setBearer cl.cell cl.slot .free) (n := n)
    (by exact hh) sl .bridged est.1 (some est.2) (by exact hl) (by exact hr)
  rwa [callOf_setBearer, callOf_setBearer] at h

end

section

variable (hh : s.tables.timing.hold = 0)

include hh

theorem freesCall_loseBoth : FreesCall s (s.loseBoth n sl cl est) n := by
  have h := freesCall_enterHolding (s := (s.setBearer sl.cell sl.slot .free).setBearer cl.cell cl.slot .free) (n := n)
    hh sl .bridged est.1 (some est.2)
  exact ⟨by rw [loseBoth_eq, h.call, callOf_setBearer, callOf_setBearer], h.queue,
    fun m hm => by rw [loseBoth_eq, h.others m hm, callOf_setBearer, callOf_setBearer]⟩

theorem sends_loseBoth : s.Sends (s.loseBoth n sl cl est) [endedFrame n .lost] :=
  (sends_enterHolding (s := (s.setBearer sl.cell sl.slot .free).setBearer cl.cell cl.slot .free) hh sl .bridged est.1
    (some est.2)).congr rfl rfl

theorem captures_loseBoth_lost (hl : s.attn.captureEnables.legLost = true)
    (hc : s.attn.captureEnables.callLost = true) (hr : s.attn.captures.length + 2 ≤ 4) :
    (s.loseBoth n sl cl est).attn.captures = s.attn.captures ++
      [(s.callOf n).lostLeg n sl .bridged est.1 (some est.2) s.timeBase, ⟨.callLost, s.timeBase, false,
        { circuit := some n, hid := (s.callOf n).hid, cell := some sl.cell, callState := some .holding }⟩] := by
  have h := enterHolding_captures (s := (s.setBearer sl.cell sl.slot .free).setBearer cl.cell cl.slot .free) (n := n)
    hh sl .bridged est.1 (some est.2) hl hc hr
  rwa [callOf_setBearer, callOf_setBearer] at h

end

end

/-- Settles O24: the emission before the losses, and then the outcome that the two miss runs choose. -/
theorem emissionMovesBothLegs : Obligations.EmissionMovesBothLegs := by
  intro s n est sl cl win b hs hsl hcl hw hb r t slot sl' cl' lead commits forwarded places bridge apart others
  have esl : sl.emitted r.profile.w slot.serving = sl' := Leg.emitted_eq ..
  have ecl : cl.emitted r.profile.w slot.candidate = cl' := Leg.emitted_eq ..
  have hcall := callOf_emitted_legs esl ecl
  have hbase : win.shift.base = some (b + 1) := by rw [Window.shift, hb]; rfl
  have hplaces {more : List Frame} (h : (s.emitted n sl cl win).Sends t more) : places more := fun hu hr => by
    have hlen := forwards_length (win.slots.at 0) n
    have := (sends_emitted s n sl cl win).trans h hu (by rw [List.length_append]; omega)
    rw [this, ← List.append_assoc]
    rfl
  refine ⟨fun h1 h2 => ?_, fun h1 h2 => ?_, fun h1 h2 => ?_, fun h1 h2 => ?_, fun m hm => callOf_emit_other s hm est⟩
  · have ht : t = if commits then (s.emitted n sl cl win).commit n sl' cl' else
        (s.emitted n sl cl win).modCall n fun r => { r with dwell := lead } := by
      refine (emit_evaluates hsl hcl hw esl ecl h1 h2 est).trans ?_
      rw [evaluate_eq (congrArg CallRecord.serving hcall) (congrArg CallRecord.candidate hcall), hcall]
      rfl
    clear_value t
    refine ⟨fun hc => ?_, fun hc => ?_, hplaces (sends_nil ?_)⟩
    · rw [if_pos hc] at ht
      subst ht
      refine ⟨?_, ?_, fun ha => ?_, fun c k h1 h2 => ?_, ?_, ?_⟩
      · rw [callOf_commit, hcall, emitted_tables]
        exact congrArg (r.closedOn cl' · _) hbase
      · rw [bearer_commit, if_pos ⟨rfl, rfl⟩]
      · rw [bearer_commit, if_neg ha, if_pos ⟨rfl, rfl⟩]
      · rw [bearer_commit, if_neg h2, if_neg h1, bearer_emitted]
        rfl
      · rw [commit_cells]
        exact placeSig_cells (emitted_cells ..) ..
      · rw [commit_attn, emitted_attn]
    · rw [if_neg hc] at ht
      subst ht
      refine ⟨?_, emitted_bearers s n sl cl win, emitted_cells s n sl cl win, emitted_attn s n sl cl win⟩
      rw [callOf_modCall_same, hcall, ← hbase, ← slots_shift]
    · rw [ht]
      split
      · exact commit_exch ..
      · rfl
  · have ht : t = _ := emit_abandons hsl hcl hw esl ecl h1 h2 est
    clear_value t
    subst ht
    refine ⟨?_, ?_, fun ha => ?_, fun c k h1 h2 => ?_, ?_, hplaces (sends_nil (abandonByLoss_exch ..)), fun hl hr => ?_⟩
    · rw [callOf_abandonByLoss, hcall, emitted_tables]
      exact congrArg (r.closedOn sl' · _) hbase
    · rw [bearer_abandonByLoss, if_pos ⟨rfl, rfl⟩]
    · rw [bearer_abandonByLoss, if_neg fun h => ha ⟨h.1.symm, h.2.symm⟩, if_pos ⟨rfl, rfl⟩]
    · rw [bearer_abandonByLoss, if_neg h1, if_neg h2, bearer_emitted]
      rfl
    · rw [abandonByLoss_cells, emitted_cells]
    · rw [captures_abandonByLoss n sl' cl' est (by rwa [emitted_attn]) (by rwa [emitted_attn]), hcall, emitted_attn,
        emitted_timeBase]
  · have ht : t = _ := emit_commitsByLoss hsl hcl hw esl ecl h1 h2 est
    clear_value t
    subst ht
    refine ⟨?_, ?_, fun ha => ?_, fun c k h1 h2 => ?_, ?_, hplaces (sends_nil (commitByLoss_exch ..)), fun hl hr => ?_⟩
    · rw [callOf_commitByLoss, hcall, emitted_tables]
      exact congrArg (r.closedOn cl' · _) hbase
    · rw [bearer_commitByLoss, if_pos ⟨rfl, rfl⟩]
    · rw [bearer_commitByLoss, if_neg ha, if_pos ⟨rfl, rfl⟩]
    · rw [bearer_commitByLoss, if_neg h2, if_neg h1, bearer_emitted]
      rfl
    · rw [commitByLoss_cells, emitted_cells]
    · rw [captures_commitByLoss n sl' cl' est (by rwa [emitted_attn]) (by rwa [emitted_attn]), hcall, emitted_attn,
        emitted_timeBase]
      rfl
  · have ht : t = _ := emit_losesBoth hsl hcl hw esl ecl h1 h2 est
    clear_value t
    subst ht
    have hhold : (s.emitted n sl cl win).tables.timing.hold = s.tables.timing.hold := by rw [emitted_tables]
    refine ⟨?_, ?_, fun c k h1 h2 => ?_, ?_, fun hh => ⟨?_, ?_, hplaces (sends_nil ?_), fun hl hr => ?_⟩,
      fun hh => ⟨?_, ?_, hplaces ?_, fun hl hc hr => ?_⟩⟩
    · rw [bearer_loseBoth, if_pos (c := sl.cell = sl'.cell ∧ sl.slot = sl'.slot) ⟨rfl, rfl⟩, ite_self]
    · rw [bearer_loseBoth, if_pos ⟨rfl, rfl⟩]
    · rw [bearer_loseBoth, if_neg h2, if_neg h1, bearer_emitted]
      simp only [true_and]
    · rw [loseBoth_cells, emitted_cells]
    · rw [callOf_loseBoth_held _ _ _ (by omega), hcall, emitted_tables, emitted_timeBase]
      rfl
    · rw [freeQueue_loseBoth_held _ _ _ (by omega), emitted_freeQueue]
    · rw [exch_loseBoth_held _ _ _ (by omega)]
    · rw [captures_loseBoth_held _ _ _ (by omega) (by rwa [emitted_attn]) (by rwa [emitted_attn]), hcall, emitted_attn,
        emitted_timeBase]
      rfl
    · rw [(freesCall_loseBoth _ _ _ (by omega)).call, hcall]
    · rw [(freesCall_loseBoth _ _ _ (by omega)).queue, emitted_freeQueue]
    · exact sends_loseBoth _ _ _ (by omega)
    · rw [captures_loseBoth_lost _ _ _ (by omega) (by rwa [emitted_attn]) (by rwa [emitted_attn]) (by rwa [emitted_attn]),
        hcall, emitted_attn, emitted_timeBase]
      rfl

end Sys2Proof.Machine
end

section
/-! The emissions of a hold deadline (R129, R130, R131). -/

namespace Sys2Proof.Machine

open Sys2Proof

/-! ### How many emissions an event makes -/

/-- R131: which slots of a window hold frames from both legs. -/
def Window.fulls (w : Window) : List Bool := (ascending 4).map fun j => (w.slots.at j).full

/-- R130, R131: the emissions that a window asks for: the `d` slots up to a goal, and one for each slot after them, without
a gap, that holds both frames. -/
def Window.asks (w : Window) (d : Nat) : Nat := d + ((w.fulls.drop d).takeWhile id).length

theorem asks_eq (w : Window) (d : Nat) :
    w.asks d = d + (((ascending 4).drop d).takeWhile fun j => (w.slots.at j).full).length := by
  rw [Window.asks, Window.fulls, ← List.map_drop, List.takeWhile_map, List.length_map]
  rfl

theorem fulls_eq (w : Window) :
    w.fulls = [(w.slots.at 0).full, (w.slots.at 1).full, (w.slots.at 2).full, (w.slots.at 3).full] := rfl

theorem fulls_shift (w : Window) : w.shift.fulls = w.fulls.tail ++ [false] := by
  simp only [fulls_eq, slots_shift]
  rfl

theorem takeWhile_append_false (l : List Bool) : (l ++ [false]).takeWhile id = l.takeWhile id := by
  induction l with
  | nil => rfl
  | cons b l ih => cases b <;> simp [ih]

/-- R131: an emission on the way to the goal. -/
theorem asks_succ (w : Window) {d : Nat} (hd : d ≤ 3) : w.asks (d + 1) = w.shift.asks d + 1 := by
  have hlen : d ≤ w.fulls.tail.length := by simpa [fulls_eq] using hd
  rw [Window.asks, Window.asks, fulls_shift, List.drop_append_of_le_length hlen, takeWhile_append_false, List.drop_tail]
  omega

/-- R131, step 7: past the goal, slot 0 is emitted while it holds both frames. -/
theorem asks_zero (w : Window) : w.asks 0 = if (w.slots.at 0).full then w.shift.asks 0 + 1 else 0 := by
  rw [Window.asks, Window.asks, fulls_shift, fulls_eq, List.drop_zero, List.drop_zero, Nat.zero_add, Nat.zero_add]
  simp only [List.takeWhile_cons, id_eq, List.tail_cons, takeWhile_append_false]
  split <;> simp

theorem asks_le (w : Window) {d : Nat} (hd : d ≤ 4) : w.asks d ≤ 4 := by
  have h := (List.takeWhile_sublist (p := id) (l := w.fulls.drop d)).length_le
  have hlen : w.fulls.length = 4 := by rw [fulls_eq]; rfl
  rw [List.length_drop] at h
  rw [Window.asks]
  omega

/-! ### What one emission leaves of the bridge -/

/-- R131: after an emission the call is no longer BRIDGED, or its window has shifted under both legs. -/
theorem bridged_emit {s : State} {n : Circuit} {w : Window} {sl cl : Leg} (hw : (s.callOf n).window = some w)
    (hs : (s.callOf n).state = .bridged) (hsl : (s.callOf n).serving = some sl)
    (hcl : (s.callOf n).candidate = some cl) (est : Nat × Nat) : ((s.emit n est).callOf n).state ≠ .bridged ∨
      ((s.emit n est).callOf n).window = some w.shift ∧ ((s.emit n est).callOf n).state = .bridged ∧
      (∃ g, ((s.emit n est).callOf n).serving = some g) ∧ ∃ g, ((s.emit n est).callOf n).candidate = some g := by
  have hn := callOf_emitted s n sl cl w
  rw [emit_eq hsl hcl hw]
  split
  · left
    by_cases hh : (s.emitted n sl cl w).tables.timing.hold = 0
    · rw [(freesCall_loseBoth _ _ _ hh).call]; exact CallState.noConfusion
    · rw [callOf_loseBoth_held _ _ _ hh]; exact CallState.noConfusion
  · left; rw [callOf_commitByLoss]; exact CallState.noConfusion
  · left; rw [callOf_abandonByLoss]; exact CallState.noConfusion
  · rw [evaluate_eq (congrArg CallRecord.serving hn) (congrArg CallRecord.candidate hn)]
    split
    · left; rw [callOf_commit]; exact CallState.noConfusion
    · right; rw [callOf_modCall_same, hn]; exact ⟨rfl, hs, ⟨_, rfl⟩, _, rfl⟩

/-! ### Emissions up to a goal -/

theorem emitUntil_rests {s : State} {n : Circuit} {goal : Seq} (h : (s.callOf n).emits goal = false) (est : Nat × Nat)
    (fuel : Nat) : State.emitUntil n est goal fuel s = s := by
  cases fuel with
  | zero => rfl
  | succ fuel => exact if_neg (by simp [h])

theorem emissions_ended {s : State} {n : Circuit} (h : (s.callOf n).state ≠ .bridged) (est : Nat × Nat) (k : Nat) :
    State.emissions n est k s = s := by
  cases k with
  | zero => rfl
  | succ k => exact if_neg h

theorem emits_ended {r : CallRecord} (h : r.state ≠ .bridged) (goal : Seq) : r.emits goal = false := by
  simp [CallRecord.emits, h]

/-- An emission moves nothing of a call without two legs. -/
theorem emit_legless {s : State} {n : Circuit}
    (h : ¬((∃ g, (s.callOf n).serving = some g) ∧ ∃ g, (s.callOf n).candidate = some g)) (est : Nat × Nat) :
    s.emit n est = s := by
  rw [State.emit]
  split
  · next hsl hcl _ => exact absurd ⟨⟨_, hsl⟩, _, hcl⟩ h
  · rfl

/-- Emissions that change nothing. -/
theorem emissions_fixed {s : State} {n : Circuit} {est : Nat × Nat} (h : s.emit n est = s) (k : Nat) :
    State.emissions n est k s = s := by
  induction k with
  | zero => rfl
  | succ k ih => rw [State.emissions, h, ih, ite_self]

theorem emitUntil_fixed {s : State} {n : Circuit} {est : Nat × Nat} (h : s.emit n est = s) (goal : Seq) (fuel : Nat) :
    State.emitUntil n est goal fuel s = s := by
  induction fuel with
  | zero => rfl
  | succ fuel ih => rw [State.emitUntil, h, ih, ite_self]

/-- R129, R131: whether slot 0 is to be emitted, `e` emissions before the base stands four past the goal. -/
theorem emits_iff {r : CallRecord} {w : Window} {b goal : Seq} {e : Nat} (hw : r.window = some w) (hb : w.base = some b)
    (hs : r.state = .bridged) (he : (goal + 4 - b).toNat = e) (hbound : e ≤ 8) :
    r.emits goal = true ↔ 0 < w.asks (e - 4) := by
  have hreach : (b != goal && decide ((goal - b).toNat < 128)) = true ↔ 4 < e := by
    simp only [Bool.and_eq_true, bne_iff_ne, decide_eq_true_eq]
    constructor
    · rintro ⟨h1, h2⟩
      have : b.toNat ≠ goal.toNat := fun h => h1 (BitVec.eq_of_toNat_eq h)
      bv_omega
    · intro h
      refine ⟨?_, by bv_omega⟩
      rintro rfl
      bv_omega
  simp only [CallRecord.emits, hs, hw, hb, BEq.rfl, Bool.true_and, Bool.or_eq_true, hreach]
  by_cases h4 : 4 < e
  · simp only [h4, true_or, true_iff, Window.asks]
    omega
  · rw [Nat.sub_eq_zero_of_le (by omega), asks_zero]
    split <;> simp_all

/-- R130, R131: the emissions up to a goal are those that the window asks for. -/
theorem emitUntil_eq_emissions {n : Circuit} {goal : Seq} (est : Nat × Nat) (k : Nat) :
    ∀ {s : State} {w : Window} {b : Seq} {sl cl : Leg} {e fuel : Nat}, (s.callOf n).window = some w → w.base = some b →
      (s.callOf n).state = .bridged → (s.callOf n).serving = some sl → (s.callOf n).candidate = some cl →
      (goal + 4 - b).toNat = e → e ≤ 8 → k = w.asks (e - 4) → k ≤ e → k ≤ fuel →
      State.emitUntil n est goal fuel s = State.emissions n est k s := by
  induction k with
  | zero =>
    intro s w b sl cl e fuel hw hb hs _ _ he hbound hk _ _
    refine emitUntil_rests ?_ est fuel
    rw [← Bool.not_eq_true, emits_iff hw hb hs he hbound]
    omega
  | succ k ih =>
    intro s w b sl cl e fuel hw hb hs hsl hcl he hbound hk hke hfuel
    obtain ⟨fuel, rfl⟩ : ∃ m, fuel = m + 1 := ⟨fuel - 1, by omega⟩
    obtain ⟨e, rfl⟩ : ∃ m, e = m + 1 := ⟨e - 1, by omega⟩
    have hemits : (s.callOf n).emits goal = true := (emits_iff hw hb hs he hbound).2 (by omega)
    rw [State.emitUntil, if_pos hemits, State.emissions, if_pos hs]
    rcases bridged_emit hw hs hsl hcl est with hno | ⟨hw', hs', ⟨g, hsl'⟩, h, hcl'⟩
    · rw [emitUntil_rests (emits_ended hno goal), emissions_ended hno]
    · refine ih hw' (b := b + 1) (e := e) (by rw [Window.shift, hb]; rfl) hs' hsl' hcl' (by bv_omega) (by omega) ?_
        (by omega) (by omega)
      by_cases h4 : e + 1 ≤ 4
      · rw [Nat.sub_eq_zero_of_le h4, asks_zero] at hk
        rw [Nat.sub_eq_zero_of_le (by omega)]
        split at hk <;> omega
      · have := asks_succ w (d := e - 4) (by omega)
        rw [show e + 1 - 4 = e - 4 + 1 by omega] at hk
        omega

/-- Settles O47: the deadline's emissions are those that the window asks for on the way to its slot's successor. -/
theorem holdDeadlineEmitsItsSlot : Obligations.HoldDeadlineEmitsItsSlot := by
  intro s n k win b x hs hw hb hx complete
  have hdeadline : (s.callOf n).deadline k = some x := by rw [CallRecord.deadline, hw]; exact hx
  refine ⟨fun hd => ?_, fun hd => judged_guarded (b := s.deadlineDue n k)
    (by simp [State.deadlineDue, State.dueTimer, hdeadline, hd])⟩
  have hasks : win.asks (k.val + 1) = k.val + 1 + complete.length := asks_eq win _
  have hexpired : s.deadlineExpired n k = State.emissions n (s.callOf n).estimates (k.val + 1 + complete.length) s := by
    rw [State.deadlineExpired]
    simp only [hw, Option.bind_some, hb, Option.getD_some]
    by_cases hlegs : (∃ g, (s.callOf n).serving = some g) ∧ ∃ g, (s.callOf n).candidate = some g
    · obtain ⟨⟨sl, hsl⟩, cl, hcl⟩ := hlegs
      have hle := asks_le win (d := k.val + 1) (by omega)
      refine emitUntil_eq_emissions _ _ (e := k.val + 5) hw hb hs hsl hcl ?_ (by omega) hasks.symm (by omega)
        (by rw [emitFuel]; omega)
      have := k.isLt
      bv_omega
    · have hfixed := emit_legless hlegs (s.callOf n).estimates
      rw [emitUntil_fixed hfixed, emissions_fixed hfixed]
  rw [← hexpired]
  exact ends_guarded (by simp [State.deadlineDue, State.dueTimer, hs, hdeadline, hd])

end Sys2Proof.Machine
end

section
/-! The silence of the exchange link (R77, R139, R140): END acts on every circuit, in ascending order. -/

namespace Sys2Proof.Machine

open Sys2Proof

/-! ### END of one circuit -/

/-- R55: the legs of a call, the serving leg first. -/
def CallRecord.legs (r : CallRecord) : List Leg := r.serving.toList ++ r.candidate.toList

/-- R65, R77: what END makes of a call, its clear timer set to `x`. -/
def CallRecord.ended (r : CallRecord) (x : Time) : CallRecord :=
  match r.state with
  | .free | .clearing => r
  | .paging | .holding => .free r.profile
  | .active | .bridged => r.clearingFrom x

/-- R65, R66: END of the call leaves it FREE at once. -/
def CallRecord.endsFree (r : CallRecord) : Bool := r.state = .paging ∨ r.state = .holding

/-- R66: what END of the circuits `l` makes of a bearer. -/
def Bearer.endedFor (l : List Circuit) : Bearer → Bearer
  | .serving n => if n ∈ l then .releasing n else .serving n
  | .candidate n => if n ∈ l then .releasing n else .candidate n
  | b => b

/-- R66: CLEAR placed for each of the legs. -/
def State.clearLegs (s : State) (legs : List Leg) : State := legs.foldl (fun v g => v.placeSig g.cell (clearFrame g.slot)) s

theorem clearLegs_cells {s t : State} (h : t.cells = s.cells) (legs : List Leg) :
    (t.clearLegs legs).cells = (s.clearLegs legs).cells := by
  induction legs generalizing s t with
  | nil => exact h
  | cons g legs ih => exact ih (placeSig_cells h ..)

/-- `t` is `s` once END has acted on the circuits `l`, in that order. -/
structure EndedAll (s t : State) (l : List Circuit) : Prop where
  calls : ∀ n, t.callOf n = if n ∈ l then
    (s.callOf n).ended (s.timeBase + BitVec.ofNat 32 s.tables.timing.clear) else s.callOf n
  bearer : ∀ c k, t.bearer c k = (s.bearer c k).endedFor l
  cells : t.cells = (s.clearLegs (l.flatMap fun n => (s.callOf n).legs)).cells
  queue : t.call.freeQueue = s.call.freeQueue ++ l.filter fun n => (s.callOf n).endsFree

section

variable {s : State} {n : Circuit} (hshape : (s.callOf n).shapeOk = true)
  (hserving : ∀ c k, s.bearer c k = .serving n ↔ legOn c k (s.callOf n).serving)
  (hcandidate : ∀ c k, s.bearer c k = .candidate n ↔ legOn c k (s.callOf n).candidate)
  (hreleasing : (s.callOf n).state = .holding → ∀ c k, s.bearer c k ≠ .releasing n)

/-- A bearer that carries no leg of the call is not concerned by its end. -/
theorem endedFor_single {b : Bearer} (hs : b ≠ .serving n) (hc : b ≠ .candidate n) : b.endedFor [n] = b := by
  cases b with
  | serving m => exact if_neg (by simpa using fun h => hs (by rw [h]))
  | candidate m => exact if_neg (by simpa using fun h => hc (by rw [h]))
  | _ => rfl

include hserving hcandidate in
/-- No bearer carries a leg of a call that has none. -/
theorem endedFor_legless (h : (s.callOf n).serving = none) (h' : (s.callOf n).candidate = none) (c : CellId) (k : SlotId) :
    (s.bearer c k).endedFor [n] = s.bearer c k :=
  endedFor_single (by rw [Ne, hserving, h]; exact not_legOn_none c k) (by rw [Ne, hcandidate, h']; exact not_legOn_none c k)

include hserving hcandidate in
/-- R65, R77: END of a call that it leaves FREE. -/
theorem endedAll_frees {t : State} (hsl : (s.callOf n).serving = none) (hcl : (s.callOf n).candidate = none)
    (hst : (s.callOf n).state = .paging ∨ (s.callOf n).state = .holding)
    (ht : FreesCall s t n ∧ t.call.bearers = s.call.bearers ∧ t.cells = s.cells) : EndedAll s t [n] := by
  obtain ⟨hf, hb, hcells⟩ := ht
  refine ⟨fun m => ?_, fun c k => ?_, ?_, ?_⟩
  · by_cases hm : m = n
    · subst hm
      rw [if_pos (List.mem_singleton.2 rfl), hf.call, CallRecord.ended]
      rcases hst with h | h <;> rw [h]
    · rw [if_neg (by simpa using hm), hf.others m hm]
  · rw [endedFor_legless hserving hcandidate hsl hcl, State.bearer, hb]; rfl
  · rw [hcells, List.flatMap_singleton, CallRecord.legs, hsl, hcl]; rfl
  · rw [hf.queue, List.filter_cons_of_pos (by simpa [CallRecord.endsFree] using hst)]; rfl

include hshape hserving hcandidate hreleasing

/-- R65, R66: END of one circuit whose call and bearers agree. -/
theorem endedAll_single : EndedAll s (s.endCircuit n) [n] := by
  have he := endsCall_endCircuit s n
  have hcalls (h : ∀ m, m ≠ n → (s.endCircuit n).callOf m = s.callOf m)
      (hr : (s.endCircuit n).callOf n = (s.callOf n).ended (s.timeBase + BitVec.ofNat 32 s.tables.timing.clear))
      (m : Circuit) : (s.endCircuit n).callOf m = if m ∈ [n] then
        (s.callOf m).ended (s.timeBase + BitVec.ofNat 32 s.tables.timing.clear) else s.callOf m := by
    by_cases hm : m = n
    · rw [if_pos (by simpa using hm), hm, hr]
    · rw [if_neg (by simpa using hm), h m hm]
  have hstays (h : (s.callOf n).endsFree = false) : [n].filter (fun m => (s.callOf m).endsFree) = [] :=
    List.filter_cons_of_neg (by simp [h])
  cases hst : (s.callOf n).state <;> simp [CallRecord.shapeOk, hst] at hshape
  case paging => exact endedAll_frees hserving hcandidate hshape.1.1.1 hshape.1.1.2 (.inl hst) (he.paging hst)
  case holding =>
    exact endedAll_frees hserving hcandidate hshape.1.1.1 hshape.1.1.2 (.inr hst)
      (he.holding hst hshape.1.1.1 hshape.1.1.2 (hreleasing hst))
  case active =>
    obtain ⟨g, hg⟩ := Option.isSome_iff_exists.1 hshape.1.1.1
    obtain ⟨hcall, hbearer, ⟨hothers, hbearers⟩, hqueue, hcells⟩ := he.active g hst hg hshape.1.1.2
    simp only [hg, hshape.1.1.2, legOn_some, not_legOn_none, iff_false] at hserving hcandidate
    refine ⟨hcalls hothers (by rw [hcall]; simp only [CallRecord.ended, hst]), fun c k => ?_, ?_, ?_⟩
    · by_cases hck : c = g.cell ∧ k = g.slot
      · rw [(hserving c k).2 hck, hck.1, hck.2, hbearer]
        exact (if_pos (List.mem_singleton.2 rfl)).symm
      · rw [endedFor_single (by rwa [Ne, hserving]) (hcandidate c k)]
        exact hbearers c k hck
    · rw [hcells, List.flatMap_singleton, CallRecord.legs, hg, hshape.1.1.2]; rfl
    · rw [hqueue, hstays (by simp [CallRecord.endsFree, hst]), List.append_nil]
  case bridged =>
    obtain ⟨g, hg⟩ := Option.isSome_iff_exists.1 hshape.1.1.1
    obtain ⟨d, hd⟩ := Option.isSome_iff_exists.1 hshape.1.1.2
    obtain ⟨hcall, hbearer, hbearer', hothers, hbearers, hqueue, hcells⟩ := he.bridged g d hst hg hd
    simp only [hg, hd, legOn_some] at hserving hcandidate
    refine ⟨hcalls hothers (by rw [hcall]; simp only [CallRecord.ended, hst]), fun c k => ?_, ?_, ?_⟩
    · by_cases hck : c = g.cell ∧ k = g.slot
      · rw [(hserving c k).2 hck, hck.1, hck.2, hbearer]
        exact (if_pos (List.mem_singleton.2 rfl)).symm
      · by_cases hck' : c = d.cell ∧ k = d.slot
        · rw [(hcandidate c k).2 hck', hck'.1, hck'.2, hbearer']
          exact (if_pos (List.mem_singleton.2 rfl)).symm
        · rw [endedFor_single (by rwa [Ne, hserving]) (by rwa [Ne, hcandidate])]
          exact hbearers c k hck hck'
    · rw [hcells, List.flatMap_singleton, CallRecord.legs, hg, hd]; rfl
    · rw [hqueue, hstays (by simp [CallRecord.endsFree, hst]), List.append_nil]
  all_goals
    rw [endCircuit_ended (by simp [hst])] at hcalls ⊢
    refine ⟨hcalls (fun _ _ => rfl) (by simp only [CallRecord.ended, hst]), fun c k => ?_, ?_, ?_⟩
    · rw [endedFor_legless hserving hcandidate hshape.1.1.1 hshape.1.1.2]
    · rw [List.flatMap_singleton, CallRecord.legs, hshape.1.1.1, hshape.1.1.2]; rfl
    · rw [hstays (by simp [CallRecord.endsFree, hst]), List.append_nil]

end

/-! ### END of every circuit -/

section

variable {s : State} (hcalls : s.CallsOk) (hbearers : s.BearersOk) (hreleasing : s.ReleasingOk)

theorem endedAll_nil (s : State) : EndedAll s s [] := by
  refine ⟨fun n => by simp, fun c k => ?_, rfl, by simp⟩
  cases s.bearer c k <;> simp [Bearer.endedFor]

theorem endedFor_serving {b : Bearer} {l : List Circuit} {n : Circuit} (hn : n ∉ l) :
    b.endedFor l = .serving n ↔ b = .serving n := by
  cases b with
  | serving m => by_cases hm : m ∈ l <;> simp [Bearer.endedFor, hm]; rintro rfl; exact hn hm
  | candidate m => by_cases hm : m ∈ l <;> simp [Bearer.endedFor, hm]
  | _ => rfl

theorem endedFor_candidate {b : Bearer} {l : List Circuit} {n : Circuit} (hn : n ∉ l) :
    b.endedFor l = .candidate n ↔ b = .candidate n := by
  cases b with
  | serving m => by_cases hm : m ∈ l <;> simp [Bearer.endedFor, hm]
  | candidate m => by_cases hm : m ∈ l <;> simp [Bearer.endedFor, hm]; rintro rfl; exact hn hm
  | _ => rfl

theorem endedFor_releasing {b : Bearer} {l : List Circuit} {n : Circuit} (hn : n ∉ l) (h : b.endedFor l = .releasing n) :
    b = .releasing n := by
  cases b with
  | serving m => by_cases hm : m ∈ l <;> simp_all [Bearer.endedFor]
  | candidate m => by_cases hm : m ∈ l <;> simp_all [Bearer.endedFor]
  | _ => exact h

theorem endedFor_append (b : Bearer) (l : List Circuit) (n : Circuit) :
    (b.endedFor l).endedFor [n] = b.endedFor (l ++ [n]) := by
  cases b with
  | serving m => by_cases hm : m ∈ l <;> simp [Bearer.endedFor, hm]
  | candidate m => by_cases hm : m ∈ l <;> simp [Bearer.endedFor, hm]
  | _ => rfl

include hcalls hbearers hreleasing

/-- R77: END of one circuit more. -/
theorem EndedAll.append {t : State} {l : List Circuit} {n : Circuit} (h : EndedAll s t l) (hbase : SameBase s t)
    (hn : n ∉ l) : EndedAll s (t.endCircuit n) (l ++ [n]) := by
  have hcall : t.callOf n = s.callOf n := by rw [h.calls, if_neg hn]
  have hone : EndedAll t (t.endCircuit n) [n] := by
    refine endedAll_single (by rw [hcall]; exact (hcalls n).1) (fun c k => ?_) (fun c k => ?_) fun hs c k hr => ?_
    · rw [hcall, h.bearer, endedFor_serving hn]; exact (hbearers c k n).1
    · rw [hcall, h.bearer, endedFor_candidate hn]; exact (hbearers c k n).2
    · rw [h.bearer] at hr
      rw [hcall] at hs
      have := hreleasing c k n (endedFor_releasing hn hr)
      simp [hs] at this
  refine ⟨fun m => ?_, fun c k => ?_, ?_, ?_⟩
  · rw [hone.calls, hbase.timeBase, hbase.tables]
    by_cases hm : m = n
    · subst hm; simp [hcall]
    · rw [if_neg (by simpa using hm), h.calls]; simp [hm]
  · rw [hone.bearer, h.bearer, endedFor_append]
  · rw [hone.cells, List.flatMap_append, State.clearLegs, State.clearLegs, List.foldl_append, List.flatMap_singleton,
      List.flatMap_singleton, hcall]
    exact clearLegs_cells h.cells _
  · rw [hone.queue, h.queue, List.filter_append, List.append_assoc]
    simp [List.filter_cons, hcall]

/-- R77: END of every circuit, in turn. -/
theorem endedAll_foldl (l : List Circuit) (hl : l.Nodup) : EndedAll s (l.foldl State.endCircuit s) l := by
  induction l using List.reverseRecOn with
  | nil => exact endedAll_nil s
  | append_singleton l n ih =>
    rw [List.foldl_append]
    have hl := List.nodup_append.1 hl
    refine (ih hl.1).append hcalls hbearers hreleasing (SameBase.foldl _ (fun _ _ => base_endCircuit ..) _ _) ?_
    exact fun hn => hl.2.2 n hn n (List.mem_singleton.2 rfl) rfl

end

/-! ### What END of any circuit leaves -/

section

variable (s : State) (n : Circuit)

@[simp] theorem releaseLeg?_exch (g : Option Leg) : (s.releaseLeg? n g).exch = s.exch := by cases g <;> rfl
@[simp] theorem releaseLeg?_attn (g : Option Leg) : (s.releaseLeg? n g).attn = s.attn := by cases g <;> rfl
@[simp] theorem cleared_exch : (s.cleared n).exch = s.exch := by simp [State.cleared]
@[simp] theorem cleared_attn : (s.cleared n).attn = s.attn := by simp [State.cleared]

@[simp] theorem leaveClearing_exch : (s.leaveClearing n).exch = s.exch := by
  rw [State.leaveClearing]; split <;> simp

@[simp] theorem leaveClearing_attn : (s.leaveClearing n).attn = s.attn := by
  rw [State.leaveClearing]; split <;> simp

/-- R65: the cases of END. -/
theorem endCircuit_cases : s.endCircuit n = s ∧ ((s.callOf n).state = .free ∨ (s.callOf n).state = .clearing) ∨
    s.endCircuit n = s.toFree n ∧ (s.callOf n).state = .paging ∨ s.endCircuit n = (s.cleared n).leaveClearing n := by
  cases h : (s.callOf n).state with
  | free => exact .inl ⟨endCircuit_ended (.inl h), .inl rfl⟩
  | clearing => exact .inl ⟨endCircuit_ended (.inr h), .inr rfl⟩
  | paging => exact .inr (.inl ⟨endCircuit_paging h, rfl⟩)
  | active => exact .inr (.inr ((endCircuit_clears (.inl h)).trans (enterClearing_eq s n)))
  | bridged => exact .inr (.inr ((endCircuit_clears (.inr (.inl h))).trans (enterClearing_eq s n)))
  | holding => exact .inr (.inr ((endCircuit_clears (.inr (.inr h))).trans (enterClearing_eq s n)))

@[simp] theorem endCircuit_exch : (s.endCircuit n).exch = s.exch := by
  rcases endCircuit_cases s n with ⟨h, -⟩ | ⟨h, -⟩ | h <;> rw [h] <;> simp

@[simp] theorem endCircuit_attn : (s.endCircuit n).attn = s.attn := by
  rcases endCircuit_cases s n with ⟨h, -⟩ | ⟨h, -⟩ | h <;> rw [h] <;> simp

theorem callOf_endCircuit_other {m : Circuit} (hm : m ≠ n) : (s.endCircuit n).callOf m = s.callOf m := by
  rcases endCircuit_cases s n with ⟨h, -⟩ | ⟨h, -⟩ | h <;> rw [h]
  · exact callOf_toFree_other s hm
  · rw [callOf_leaveClearing_other _ hm, callOf_cleared_other s hm]

/-- R65, R66: END leaves its call in FREE or CLEARING. -/
theorem endCircuit_ends : ((s.endCircuit n).callOf n).state = .free ∨ ((s.endCircuit n).callOf n).state = .clearing := by
  rcases endCircuit_cases s n with ⟨h, hs⟩ | ⟨h, hs⟩ | h <;> rw [h]
  · exact hs
  · exact .inl (by rw [callOf_toFree (by simp [hs])]; rfl)
  · rw [State.leaveClearing]
    split
    · next hc => exact .inl (by rw [callOf_toFree (by simp [hc.1])]; rfl)
    · exact .inr (by rw [callOf_cleared]; rfl)

theorem foldl_endCircuit_exch (l : List Circuit) : (l.foldl State.endCircuit s).exch = s.exch := by
  induction l generalizing s with
  | nil => rfl
  | cons m l ih => exact (ih _).trans (endCircuit_exch s m)

theorem foldl_endCircuit_attn (l : List Circuit) : (l.foldl State.endCircuit s).attn = s.attn := by
  induction l generalizing s with
  | nil => rfl
  | cons m l ih => exact (ih _).trans (endCircuit_attn s m)

variable {s n}

/-- R65: END changes nothing of a call that is FREE or CLEARING. -/
theorem callOf_foldl_ended (h : (s.callOf n).state = .free ∨ (s.callOf n).state = .clearing) (l : List Circuit) :
    (l.foldl State.endCircuit s).callOf n = s.callOf n := by
  induction l generalizing s with
  | nil => rfl
  | cons m l ih =>
    have hstep : (s.endCircuit m).callOf n = s.callOf n := by
      by_cases hm : n = m
      · rw [← hm, endCircuit_ended h]
      · exact callOf_endCircuit_other s m hm
    exact (ih (by rwa [hstep])).trans hstep

theorem foldl_endCircuit_ends {l : List Circuit} (hn : n ∈ l) : ((l.foldl State.endCircuit s).callOf n).state = .free ∨
    ((l.foldl State.endCircuit s).callOf n).state = .clearing := by
  induction l generalizing s with
  | nil => cases hn
  | cons m l ih =>
    rcases List.mem_cons.1 hn with rfl | hn
    · have h := endCircuit_ends s n
      rw [List.foldl_cons, callOf_foldl_ended h]
      exact h
    · exact ih hn

end

theorem mem_ascending {k : Nat} (n : Fin k) : n ∈ ascending k := List.mem_finRange n

theorem nodup_ascending (k : Nat) : (ascending k).Nodup := List.nodup_finRange k

/-- Settles O28: END of every circuit in ascending order, and the capture. -/
theorem silentExchangeLinkEndsEveryCall : Obligations.SilentExchangeLinkEndsEveryCall := by
  intro s x hup hx hd
  let u := s.modExch fun u => { u with link := u.link.setSilence.enter .down s.timeBase, txQueue := [] }
  let v := (ascending 192).foldl State.endCircuit u
  obtain ⟨t, hexec, he⟩ : ∃ t, exec (.linkSilenceExpiry .exchange) s = .next t ∧ Ends s u.exchLost t :=
    ends_guarded (by simp [State.silenceDue, State.unit, State.dueTimer, hup, hx, hd])
  have hlost : u.exchLost = if (ascending 192).any fun n => (s.callOf n).state.clearsOnLoss then
      v.capture .exchangeLost {} else v := rfl
  have hexch : v.exch = u.exch := foldl_endCircuit_exch u _
  have hattn : v.attn = s.attn := foldl_endCircuit_attn u _
  have hbase : SameBase s v := (⟨rfl, rfl, rfl, rfl, rfl, rfl, rfl⟩ : SameBase s u).trans
    (SameBase.foldl State.endCircuit base_endCircuit _ u)
  have hclears : ((ascending 192).any fun n => (s.callOf n).state.clearsOnLoss) = true ↔
      ∃ n, (s.callOf n).state = .active ∨ (s.callOf n).state = .bridged ∨ (s.callOf n).state = .holding := by
    rw [List.any_eq_true]
    refine exists_congr fun n => ?_
    rw [and_iff_right (mem_ascending n)]
    cases (s.callOf n).state <;> simp [CallState.clearsOnLoss]
  have hsame : (u.exchLost).call = v.call ∧ u.exchLost.cells = v.cells ∧ u.exchLost.exch = v.exch ∧
      SameBase v u.exchLost := by
    rw [hlost]
    split
    · exact ⟨State.capture_call .., State.capture_cells .., State.capture_exch .., base_capture ..⟩
    · exact ⟨rfl, rfl, rfl, .refl v⟩
  obtain ⟨hcall, hcells, hexch', hbase'⟩ := hsame
  have hexcht : t.exch = u.exch := by
    rw [he.dropped (by rw [hexch', hexch]; rfl), hexch', hexch]
  have hcallOf (n : Circuit) : t.callOf n = v.callOf n := by rw [he.callOf, State.callOf, hcall]; rfl
  refine ⟨t, hexec, by rw [hexcht]; rfl, by rw [hexcht]; rfl, by rw [hexcht]; rfl, by rw [hexcht]; rfl,
    by rw [hexcht]; rfl, fun n => ?_, fun n hn => ?_, fun hc hb hr => ?_, ?_⟩
  · rw [hcallOf]; exact foldl_endCircuit_ends (mem_ascending n)
  · rw [hcallOf]; exact callOf_foldl_ended (s := u) hn _
  · intro legs
    have hall : EndedAll u v (ascending 192) := endedAll_foldl (s := u) hc hb hr _ (nodup_ascending 192)
    have hended (n : Circuit) : v.callOf n =
        (s.callOf n).ended (s.timeBase + BitVec.ofNat 32 s.tables.timing.clear) :=
      (hall.calls n).trans (if_pos (mem_ascending n))
    refine ⟨fun n hn => ?_, fun n hn => ?_, fun c k => ?_, ?_, ?_⟩
    · rw [hcallOf, hended, CallRecord.ended]
      rcases hn with h | h <;> rw [h]
    · rw [hcallOf, hended, CallRecord.ended]
      rcases hn with h | h <;> rw [h]
    · rw [he.bearer, State.bearer, hcall]
      refine (hall.bearer c k).trans ?_
      show (s.bearer c k).endedFor _ = _
      cases s.bearer c k with
      | serving n => exact if_pos (mem_ascending n)
      | candidate n => exact if_pos (mem_ascending n)
      | _ => rfl
    · rw [he.cells, hcells, hall.cells]
      exact clearLegs_cells (s := s) (t := u) rfl legs
    · rw [he.call, hcall, hall.queue]
      rfl
  · refine ⟨fun hcl hen hl => ?_, fun hcl => ?_, ?_⟩
    · rw [he.captures, hlost, if_pos (hclears.2 hcl), capture_joins (kind := .exchangeLost) _ (by rwa [hattn])
        (by rwa [hattn]), hattn, hbase.timeBase]
    · rw [he.captures, hlost, if_neg (mt hclears.1 hcl), hattn]
    · exact ⟨by rw [he.sig, hbase'.sig, hbase.sig], by rw [he.reg, hbase'.reg, hbase.reg],
        by rw [he.cache, hbase'.cache, hbase.cache], by rw [he.tables, hbase'.tables, hbase.tables],
        by rw [he.mgmt, hbase'.mgmt, hbase.mgmt]⟩

end Sys2Proof.Machine
end

section
/-! The loss of a cell's link to the Call Table (R71, R114), one call at a time. -/

namespace Sys2Proof.Machine

open Sys2Proof

/-! ### What the loss of one call's legs rests on -/

section

variable {s t : State} {n : Circuit}

theorem callOf_enterHolding_congr (h : t.callOf n = s.callOf n) (htables : t.tables = s.tables)
    (htime : t.timeBase = s.timeBase) (g : Leg) (before : CallState) (q : Nat) (qc : Option Nat) :
    (t.enterHolding n g before q qc).callOf n = (s.enterHolding n g before q qc).callOf n := by
  by_cases hh : s.tables.timing.hold = 0
  · rw [callOf_enterHolding_zero _ _ hh, callOf_enterHolding_zero _ _ (by rw [htables, hh]), h]
  · rw [callOf_enterHolding_pos _ _ hh, callOf_enterHolding_pos _ _ (by rwa [htables]), h, htables, htime]

/-- R70: what becomes of the call depends on that call alone. -/
theorem callOf_loseLegs_congr (h : t.callOf n = s.callOf n) (htables : t.tables = s.tables)
    (htime : t.timeBase = s.timeBase) (a b : Bool) : (t.loseLegs n a b).callOf n = (s.loseLegs n a b).callOf n := by
  simp only [State.loseLegs, h]
  split
  · split
    · exact callOf_enterHolding_congr (by simp [h]) (by exact htables) (by exact htime) ..
    · exact h
  · split
    · rw [loseBoth_eq, loseBoth_eq]
      exact callOf_enterHolding_congr (by simp [h]) (by exact htables) (by exact htime) ..
    · rw [callOf_commitByLoss, callOf_commitByLoss, h, htables]
    · rw [callOf_abandonByLoss, callOf_abandonByLoss, h, htables]
    · exact h
  · exact h

/-- R70: what becomes of a bearer depends on that bearer and the call alone. -/
theorem bearer_loseLegs_congr (h : t.callOf n = s.callOf n) {d : CellId} {k : SlotId}
    (hb : t.bearer d k = s.bearer d k) (a b : Bool) : (t.loseLegs n a b).bearer d k = (s.loseLegs n a b).bearer d k := by
  simp only [State.loseLegs, h]
  split
  · split
    · rw [bearer_enterHolding, bearer_enterHolding, bearer_setBearer, bearer_setBearer, hb]
    · exact hb
  · split
    · rw [bearer_loseBoth, bearer_loseBoth, hb]
    · rw [bearer_commitByLoss, bearer_commitByLoss, hb]
    · rw [bearer_abandonByLoss, bearer_abandonByLoss, hb]
    · exact hb
  · exact hb

end

/-- The circuit that a bearer names. -/
def Bearer.owner : Bearer → Option Circuit
  | .serving n | .candidate n | .releasing n => some n
  | .free => none

/-! ### The legs of one call at a cell -/

/-- R71, R114: what the loss of the legs at cell `c` does to the call of circuit `n`. -/
inductive LegsLost (s : State) (c : CellId) (n : Circuit) : State → Prop
  | kept (hs : legAt c (s.callOf n).serving = false) (hc : legAt c (s.callOf n).candidate = false) : LegsLost s c n s
  | held (g : Leg) (hst : (s.callOf n).state = .active) (hs : (s.callOf n).serving = some g)
      (hc : (s.callOf n).candidate = none) (hg : g.cell = c) :
      LegsLost s c n ((s.setBearer g.cell g.slot .free).enterHolding n g .active g.q none)
  | both (g h : Leg) (hst : (s.callOf n).state = .bridged) (hs : (s.callOf n).serving = some g)
      (hc : (s.callOf n).candidate = some h) (hg : g.cell = c) (hh : h.cell = c) :
      LegsLost s c n (s.loseBoth n g h (g.q, h.q))
  | committed (g h : Leg) (hst : (s.callOf n).state = .bridged) (hs : (s.callOf n).serving = some g)
      (hc : (s.callOf n).candidate = some h) (hg : g.cell = c) (hh : h.cell ≠ c) :
      LegsLost s c n (s.commitByLoss n g h (g.q, h.q))
  | abandoned (g h : Leg) (hst : (s.callOf n).state = .bridged) (hs : (s.callOf n).serving = some g)
      (hc : (s.callOf n).candidate = some h) (hg : g.cell ≠ c) (hh : h.cell = c) :
      LegsLost s c n (s.abandonByLoss n g h (g.q, h.q))

section

variable {s : State} {c : CellId} {n : Circuit}

theorem legAt_some {g : Leg} : legAt c (some g) = true ↔ g.cell = c := by simp [legAt]

theorem legAt_some_false {g : Leg} : legAt c (some g) = false ↔ g.cell ≠ c := by simp [legAt]

theorem legAt_of_legOn {k : SlotId} {g : Option Leg} (h : legOn c k g) : legAt c g = true := by
  cases g with
  | none => exact absurd h (not_legOn_none c k)
  | some g => exact legAt_some.2 (legOn_some.1 h).1.symm

theorem loseLegsAt_kept (hs : legAt c (s.callOf n).serving = false) (hc : legAt c (s.callOf n).candidate = false) :
    s.loseLegsAt c n = s := by
  rw [State.loseLegsAt, hs, hc, loseLegs_none]

theorem loseLegsAt_held {g : Leg} (hst : (s.callOf n).state = .active) (hs : (s.callOf n).serving = some g)
    (hg : g.cell = c) :
    s.loseLegsAt c n = (s.setBearer g.cell g.slot .free).enterHolding n g .active g.q none := by
  rw [State.loseLegsAt, hs, legAt_some.2 hg, loseLegs_active hst hs]

section

variable {g h : Leg} (hst : (s.callOf n).state = .bridged) (hs : (s.callOf n).serving = some g)
  (hc : (s.callOf n).candidate = some h)

include hst hs hc

theorem loseLegsAt_both (hg : g.cell = c) (hh : h.cell = c) : s.loseLegsAt c n = s.loseBoth n g h (g.q, h.q) := by
  rw [State.loseLegsAt, hs, hc, legAt_some.2 hg, legAt_some.2 hh, loseLegs_both hst hs hc]

theorem loseLegsAt_committed (hg : g.cell = c) (hh : h.cell ≠ c) :
    s.loseLegsAt c n = s.commitByLoss n g h (g.q, h.q) := by
  rw [State.loseLegsAt, hs, hc, legAt_some.2 hg, legAt_some_false.2 hh, loseLegs_serving hst hs hc]

theorem loseLegsAt_abandoned (hg : g.cell ≠ c) (hh : h.cell = c) :
    s.loseLegsAt c n = s.abandonByLoss n g h (g.q, h.q) := by
  rw [State.loseLegsAt, hs, hc, legAt_some_false.2 hg, legAt_some.2 hh, loseLegs_candidate hst hs hc]

end

theorem legsLost (hshape : (s.callOf n).shapeOk = true) : LegsLost s c n (s.loseLegsAt c n) := by
  have kept (hs : legAt c (s.callOf n).serving = false) (hc : legAt c (s.callOf n).candidate = false) :
      LegsLost s c n (s.loseLegsAt c n) := by rw [loseLegsAt_kept hs hc]; exact .kept hs hc
  cases hst : (s.callOf n).state <;> simp [CallRecord.shapeOk, hst] at hshape
  case active =>
    obtain ⟨g, hg⟩ := Option.isSome_iff_exists.1 hshape.1.1.1
    by_cases hgc : g.cell = c
    · exact loseLegsAt_held hst hg hgc ▸ .held g hst hg hshape.1.1.2 hgc
    · exact kept (by rw [hg]; exact legAt_some_false.2 hgc) (by rw [hshape.1.1.2]; rfl)
  case bridged =>
    obtain ⟨g, hg⟩ := Option.isSome_iff_exists.1 hshape.1.1.1
    obtain ⟨h, hh⟩ := Option.isSome_iff_exists.1 hshape.1.1.2
    by_cases hgc : g.cell = c <;> by_cases hhc : h.cell = c
    · exact loseLegsAt_both hst hg hh hgc hhc ▸ .both g h hst hg hh hgc hhc
    · exact loseLegsAt_committed hst hg hh hgc hhc ▸ .committed g h hst hg hh hgc hhc
    · exact loseLegsAt_abandoned hst hg hh hgc hhc ▸ .abandoned g h hst hg hh hgc hhc
    · exact kept (by rw [hg]; exact legAt_some_false.2 hgc) (by rw [hh]; exact legAt_some_false.2 hhc)
  all_goals exact kept (by rw [hshape.1.1.1]; rfl) (by rw [hshape.1.1.2]; rfl)

/-- R74: the legs lost at cell `c` end the call of circuit `n` in the same event. -/
def State.losesAt (s : State) (c : CellId) (n : Circuit) : Bool :=
  s.tables.timing.hold = 0 ∧ legAt c (s.callOf n).serving = true ∧
    ((s.callOf n).state = .active ∨ legAt c (s.callOf n).candidate = true)

namespace LegsLost

variable {t : State} (h : LegsLost s c n t)

include h

/-- No bearer that names another circuit is touched. -/
theorem foreign (hserving : ∀ g, (s.callOf n).serving = some g → s.bearer g.cell g.slot = .serving n)
    (hcandidate : ∀ g, (s.callOf n).candidate = some g → s.bearer g.cell g.slot = .candidate n) {d : CellId} {k : SlotId}
    (hd : (s.bearer d k).owner ≠ some n) : t.bearer d k = s.bearer d k := by
  have hrel : s.bearer d k ≠ .releasing n := fun e => hd (by rw [e]; rfl)
  have hserv {g : Leg} (hg : (s.callOf n).serving = some g) : ¬(d = g.cell ∧ k = g.slot) := by
    rintro ⟨rfl, rfl⟩
    exact hd (by rw [hserving g hg]; rfl)
  have hcand {g : Leg} (hg : (s.callOf n).candidate = some g) : ¬(d = g.cell ∧ k = g.slot) := by
    rintro ⟨rfl, rfl⟩
    exact hd (by rw [hcandidate g hg]; rfl)
  cases h with
  | kept => rfl
  | held g _ hs => rw [bearer_enterHolding, bearer_setBearer, if_neg (hserv hs), if_neg hrel]
  | both g h _ hs hc => rw [bearer_loseBoth, if_neg (hcand hc), if_neg (hserv hs), if_neg hrel]
  | committed g h _ hs hc => rw [bearer_commitByLoss, if_neg (hcand hc), if_neg (hserv hs)]
  | abandoned g h _ hs hc => rw [bearer_abandonByLoss, if_neg (hserv hs), if_neg (hcand hc)]

/-- A bearer that names the circuit names no other then. -/
theorem own {d : CellId} {k : SlotId} (hd : (s.bearer d k).owner = some n) :
    t.bearer d k = .free ∨ (t.bearer d k).owner = some n := by
  cases h with
  | kept => exact .inr hd
  | held g =>
    rw [bearer_enterHolding, bearer_setBearer]
    by_cases hg : d = g.cell ∧ k = g.slot
    · simp [hg]
    · rw [if_neg hg]; split
      · exact .inl rfl
      · exact .inr hd
  | both g h =>
    rw [bearer_loseBoth]
    split
    · exact .inl rfl
    · split
      · exact .inl rfl
      · split
        · exact .inl rfl
        · exact .inr hd
  | committed g h =>
    rw [bearer_commitByLoss]
    split
    · exact .inr rfl
    · split
      · exact .inl rfl
      · exact .inr hd
  | abandoned g h =>
    rw [bearer_abandonByLoss]
    split
    · exact .inr rfl
    · split
      · exact .inl rfl
      · exact .inr hd

/-- R57, R74: a call lost in the event goes to FREE, its circuit to the tail of the free queue, and ENDED(LOST) is placed;
of every other call neither the free queue nor the exchange hears. -/
theorem queue_sends : (t.call.freeQueue =
      s.call.freeQueue ++ [n].filter (s.losesAt c)) ∧
    s.Sends t (([n].filter (s.losesAt c)).map (endedFrame · .lost)) := by
  have lost {t : State} (hl : s.losesAt c n = true)
      (ht : t.call.freeQueue = s.call.freeQueue ++ [n] ∧ s.Sends t [endedFrame n .lost]) :
      (t.call.freeQueue = s.call.freeQueue ++ [n].filter (s.losesAt c)) ∧
      s.Sends t (([n].filter (s.losesAt c)).map (endedFrame · .lost)) := by
    rwa [List.filter_cons_of_pos hl, List.filter_nil]
  have kept {t : State} (hl : s.losesAt c n = false)
      (ht : t.call.freeQueue = s.call.freeQueue ∧ t.exch = s.exch) :
      (t.call.freeQueue = s.call.freeQueue ++ [n].filter (s.losesAt c)) ∧
      s.Sends t (([n].filter (s.losesAt c)).map (endedFrame · .lost)) := by
    rw [List.filter_cons_of_neg (by simp [hl])]
    exact ⟨by simpa using ht.1, sends_nil ht.2⟩
  cases h with
  | kept hs => exact kept (by simp [State.losesAt, hs]) ⟨rfl, rfl⟩
  | held g hst hs hc hg =>
    by_cases hh : s.tables.timing.hold = 0
    · exact lost (by simp [State.losesAt, hh, hs, legAt_some, hg, hst])
        ⟨(freesCall_enterHolding (s := s.setBearer g.cell g.slot .free) hh g ..).queue,
          State.Sends.congr (sends_enterHolding (s := s.setBearer g.cell g.slot .free) hh g _ _ _) rfl rfl⟩
    · refine kept (by simp [State.losesAt, hh]) ?_
      rw [enterHolding_eq (by exact hh)]
      simp [State.freeReleasing, State.setBearer, State.modCall]
  | both g h hst hs hc hg hhc =>
    by_cases hh : s.tables.timing.hold = 0
    · exact lost (by simp [State.losesAt, hh, hs, hc, legAt_some, hg, hhc])
        ⟨(freesCall_loseBoth g h _ hh).queue, sends_loseBoth g h _ hh⟩
    · exact kept (by simp [State.losesAt, hh]) ⟨freeQueue_loseBoth_held _ _ _ hh, exch_loseBoth_held _ _ _ hh⟩
  | committed g h hst hs hc hg hh =>
    exact kept (by simp [State.losesAt, hst, hc, legAt_some_false.2 hh])
      ⟨by simp [State.commitByLoss, State.keepLeg, State.captureBridge, State.setBearer, State.modCall],
        commitByLoss_exch ..⟩
  | abandoned g h hst hs hc hg hh =>
    exact kept (by simp [State.losesAt, hs, legAt_some_false.2 hg])
      ⟨by simp [State.abandonByLoss, State.keepLeg, State.captureBridge, State.setBearer, State.modCall],
        abandonByLoss_exch ..⟩

theorem cells : t.cells = s.cells := by
  cases h <;> simp [State.setBearer]

/-- R71, R114: the call is left with no leg at the cell. -/
theorem legless : legAt c (t.callOf n).serving = false ∧ legAt c (t.callOf n).candidate = false := by
  cases h with
  | kept hs hc => exact ⟨hs, hc⟩
  | held g =>
    by_cases hh : s.tables.timing.hold = 0
    · rw [callOf_enterHolding_zero _ _ (by exact hh)]; exact ⟨rfl, rfl⟩
    · rw [callOf_enterHolding_pos _ _ (by exact hh)]; exact ⟨rfl, rfl⟩
  | both g h =>
    by_cases hh : s.tables.timing.hold = 0
    · rw [(freesCall_loseBoth _ _ _ hh).call]; exact ⟨rfl, rfl⟩
    · rw [callOf_loseBoth_held _ _ _ hh]; exact ⟨rfl, rfl⟩
  | committed g h _ _ _ _ hh => rw [callOf_commitByLoss]; exact ⟨legAt_some_false.2 hh, rfl⟩
  | abandoned g h _ _ _ hg => rw [callOf_abandonByLoss]; exact ⟨legAt_some_false.2 hg, rfl⟩

/-- R66: a CLEARING call has no leg to lose, and no other call is in CLEARING then. -/
theorem clearing_iff : (t.callOf n).state = .clearing ↔ (s.callOf n).state = .clearing := by
  cases h with
  | kept => exact Iff.rfl
  | held g hst =>
    rw [hst]
    by_cases hh : s.tables.timing.hold = 0
    · rw [callOf_enterHolding_zero _ _ (by exact hh)]; simp [CallRecord.free]
    · rw [callOf_enterHolding_pos _ _ (by exact hh)]; simp [CallRecord.heldFrom]
  | both g h hst =>
    rw [hst]
    by_cases hh : s.tables.timing.hold = 0
    · rw [(freesCall_loseBoth _ _ _ hh).call]; simp [CallRecord.free]
    · rw [callOf_loseBoth_held _ _ _ hh]; simp [CallRecord.heldFrom]
  | committed g h hst => rw [callOf_commitByLoss, hst]; simp [CallRecord.closedOn]
  | abandoned g h hst => rw [callOf_abandonByLoss, hst]; simp [CallRecord.closedOn]

theorem of_clearing (hs : (s.callOf n).state = .clearing) : t = s := by
  cases h <;> simp_all

/-- R71: the bearers of the cell that named the circuit serve it no more. -/
theorem bearer_freed (hb : s.BearersOk) {k : SlotId} (hk : (s.bearer c k).owner = some n) :
    t.bearer c k = .free ∨ t.bearer c k = .releasing n := by
  have hown (hs : ¬legOn c k (s.callOf n).serving) (hc : ¬legOn c k (s.callOf n).candidate) :
      s.bearer c k = .releasing n := by
    rw [← (hb c k n).1] at hs
    rw [← (hb c k n).2] at hc
    cases hx : s.bearer c k <;> simp_all [Bearer.owner]
  cases h with
  | kept hs hc =>
    exact .inr (hown (fun h => by simp [legAt_of_legOn h] at hs) fun h => by simp [legAt_of_legOn h] at hc)
  | held g _ hs hc =>
    rw [hs, hc, legOn_some] at hown
    rw [bearer_enterHolding, bearer_setBearer]
    by_cases hg : c = g.cell ∧ k = g.slot
    · simp [hg]
    · rw [if_neg hg, hown hg (not_legOn_none c k)]; simp
  | both g h _ hs hc =>
    rw [hs, hc, legOn_some, legOn_some] at hown
    rw [bearer_loseBoth]
    by_cases hh : c = h.cell ∧ k = h.slot
    · simp [hh]
    · by_cases hg : c = g.cell ∧ k = g.slot
      · simp [hg]
      · rw [if_neg hh, if_neg hg, hown hg hh]; simp
  | committed g h _ hs hc _ hh =>
    rw [hs, hc, legOn_some, legOn_some] at hown
    have hh : ¬(c = h.cell ∧ k = h.slot) := fun e => hh e.1.symm
    rw [bearer_commitByLoss, if_neg hh]
    by_cases hg : c = g.cell ∧ k = g.slot
    · exact .inl (if_pos hg)
    · rw [if_neg hg, hown hg hh]; exact .inr rfl
  | abandoned g h _ hs hc hg =>
    rw [hs, hc, legOn_some, legOn_some] at hown
    have hg : ¬(c = g.cell ∧ k = g.slot) := fun e => hg e.1.symm
    rw [bearer_abandonByLoss, if_neg hg]
    by_cases hh : c = h.cell ∧ k = h.slot
    · exact .inl (if_pos hh)
    · rw [if_neg hh, hown hg hh]; exact .inr rfl

end LegsLost

end

end Sys2Proof.Machine
end

section
/-! The loss of a cell's link to the Call Table (R71, R114): every call, in ascending order. -/

namespace Sys2Proof.Machine

open Sys2Proof

/-! ### The legs at the cell -/

/-- `t` is `s` once the calls of circuits `l` have lost their legs at cell `c`, in that order. -/
structure LostAll (c : CellId) (s t : State) (l : List Circuit) : Prop where
  base : SameBase s t
  cells : t.cells = s.cells
  calls : ∀ n, t.callOf n = if n ∈ l then (s.loseLegsAt c n).callOf n else s.callOf n
  idle : ∀ d k, s.bearer d k = .free → t.bearer d k = .free
  bearer : ∀ d k n, (s.bearer d k).owner = some n →
    t.bearer d k = if n ∈ l then (s.loseLegsAt c n).bearer d k else s.bearer d k
  queue : t.call.freeQueue = s.call.freeQueue ++ l.filter (s.losesAt c)
  sends : s.Sends t ((l.filter (s.losesAt c)).map (endedFrame · .lost))

section

variable {s : State} (hc : s.CallsOk) (hb : s.BearersOk) {c : CellId}

theorem lostAll_nil (c : CellId) (s : State) : LostAll c s s [] :=
  ⟨.refl s, rfl, fun n => by simp, fun _ _ h => h, fun d k n h => by simp, by simp, sends_nil rfl⟩

include hc

theorem legsLost_ok (n : Circuit) : LegsLost s c n (s.loseLegsAt c n) := legsLost (hc n).1

include hb

/-- R71: the legs of one call more. -/
theorem LostAll.append {t : State} {l : List Circuit} {n : Circuit} (h : LostAll c s t l) (hn : n ∉ l) :
    LostAll c s (t.loseLegsAt c n) (l ++ [n]) := by
  have hcall : t.callOf n = s.callOf n := by rw [h.calls, if_neg hn]
  have hone : LegsLost t c n (t.loseLegsAt c n) := legsLost (by rw [hcall]; exact (hc n).1)
  have hlegs : t.loseLegsAt c n = t.loseLegs n (legAt c (s.callOf n).serving) (legAt c (s.callOf n).candidate) := by
    rw [State.loseLegsAt, hcall]
  have hbearer {d : CellId} {k : SlotId} (hd : (s.bearer d k).owner = some n) : t.bearer d k = s.bearer d k := by
    rw [h.bearer d k n hd, if_neg hn]
  have hforeign {d : CellId} {k : SlotId} (hd : (t.bearer d k).owner ≠ some n) :
      (t.loseLegsAt c n).bearer d k = t.bearer d k := by
    refine hone.foreign (fun g hg => ?_) (fun g hg => ?_) hd
    · have := bearer_of_serving hb (hcall ▸ hg)
      rw [hbearer (by rw [this]; rfl), this]
    · have := bearer_of_candidate hb (hcall ▸ hg)
      rw [hbearer (by rw [this]; rfl), this]
  have hloses : t.losesAt c n = s.losesAt c n := by rw [State.losesAt, State.losesAt, hcall, h.base.tables]
  have hfilter : [n].filter (t.losesAt c) = [n].filter (s.losesAt c) := by
    rw [List.filter_cons, List.filter_cons, hloses]; rfl
  obtain ⟨hqueue, hsends⟩ := hone.queue_sends
  rw [hfilter] at hqueue hsends
  refine ⟨h.base.trans (base_loseLegs ..), hone.cells.trans h.cells, fun m => ?_, fun d k hd => ?_,
    fun d k m hd => ?_, ?_, ?_⟩
  · by_cases hm : m = n
    · subst hm
      rw [if_pos (by simp), hlegs, callOf_loseLegs_congr hcall h.base.tables h.base.timeBase]
      rfl
    · rw [State.loseLegsAt, callOf_loseLegs_other _ hm, h.calls]
      simp [hm]
  · rw [hforeign (by rw [h.idle d k hd]; exact nofun), h.idle d k hd]
  · by_cases hm : m = n
    · subst hm
      rw [if_pos (by simp), hlegs, bearer_loseLegs_congr hcall (hbearer hd)]
      rfl
    · have hkeep : (t.bearer d k).owner ≠ some n := by
        rw [h.bearer d k m hd]
        split
        · rcases (legsLost_ok hc m).own hd with e | e <;> rw [e]
          · exact nofun
          · simpa using hm
        · rw [hd]; simpa using hm
      rw [hforeign hkeep, h.bearer d k m hd]
      simp [hm]
  · rw [hqueue, h.queue, List.filter_append, List.append_assoc]
  · rw [List.filter_append, List.map_append]
    exact h.sends.trans hsends

/-- R71: the legs of every call, in turn. -/
theorem lostAll_foldl (l : List Circuit) (hl : l.Nodup) : LostAll c s (l.foldl (State.loseLegsAt c) s) l := by
  induction l using List.reverseRecOn with
  | nil => exact lostAll_nil c s
  | append_singleton l n ih =>
    rw [List.foldl_append]
    have hl := List.nodup_append.1 hl
    exact (ih hl.1).append hc hb fun hn => hl.2.2 n hn n (List.mem_singleton.2 rfl) rfl

end

/-! ### The calls that may leave CLEARING -/

/-- R67: the call of circuit `n` is in CLEARING with no RELEASING bearer left. -/
def State.leavesClearing (s : State) (n : Circuit) : Bool := (s.callOf n).state = .clearing ∧ s.releasing n = false

/-- `t` is `s` once the calls of circuits `l` have left CLEARING where they may. -/
structure LeftAll (s t : State) (l : List Circuit) : Prop where
  base : SameBase s t
  cells : t.cells = s.cells
  exch : t.exch = s.exch
  calls : ∀ n, t.callOf n = if n ∈ l ∧ s.leavesClearing n = true then .free (s.callOf n).profile else s.callOf n
  bearers : t.call.bearers = s.call.bearers
  queue : t.call.freeQueue = s.call.freeQueue ++ l.filter s.leavesClearing

theorem leftAll_nil (s : State) : LeftAll s s [] := ⟨.refl s, rfl, rfl, fun n => by simp, rfl, by simp⟩

theorem LeftAll.append {s t : State} {l : List Circuit} {n : Circuit} (h : LeftAll s t l) (hn : n ∉ l) :
    LeftAll s (t.leaveClearing n) (l ++ [n]) := by
  have hcall : t.callOf n = s.callOf n := by rw [h.calls, if_neg (by simp [hn])]
  have hleaves : t.leavesClearing n = s.leavesClearing n := by
    rw [State.leavesClearing, State.leavesClearing, hcall, State.releasing, h.bearers]; rfl
  cases hl : s.leavesClearing n with
  | true =>
    have hc : (t.callOf n).state = .clearing ∧ t.releasing n = false := by
      simpa [State.leavesClearing] using hleaves.trans hl
    have hf := freesCall_toFree (s := t) (n := n) (by simp [hc.1])
    rw [State.leaveClearing, if_pos hc]
    refine ⟨h.base.trans (base_toFree ..), by rw [State.toFree_cells, h.cells], by rw [State.toFree_exch, h.exch],
      fun m => ?_, by rw [toFree_bearers, h.bearers], ?_⟩
    · by_cases hm : m = n
      · subst hm; rw [if_pos ⟨by simp, hl⟩, hf.call, hcall]
      · rw [hf.others m hm, h.calls]; simp [hm]
    · rw [hf.queue, h.queue, List.filter_append, List.append_assoc]; simp [hl]
  | false =>
    have hc : ¬((t.callOf n).state = .clearing ∧ t.releasing n = false) := by
      simpa [State.leavesClearing] using hleaves.trans hl
    rw [State.leaveClearing, if_neg hc]
    refine ⟨h.base, h.cells, h.exch, fun m => ?_, h.bearers, ?_⟩
    · by_cases hm : m = n
      · subst hm; simp [hcall, hl]
      · rw [h.calls]; simp [hm]
    · rw [h.queue, List.filter_append]; simp [hl]

theorem leftAll_foldl (s : State) (l : List Circuit) (hl : l.Nodup) : LeftAll s (l.foldl State.leaveClearing s) l := by
  induction l using List.reverseRecOn with
  | nil => exact leftAll_nil s
  | append_singleton l n ih =>
    rw [List.foldl_append]
    have hl := List.nodup_append.1 hl
    exact (ih hl.1).append fun hn => hl.2.2 n hn n (List.mem_singleton.2 rfl) rfl

end Sys2Proof.Machine
end

section
/-! The loss of a cell's link to the Call Table as a whole (R71, R114). The circuits are those of a list that holds each
once. -/

namespace Sys2Proof.Machine

open Sys2Proof

/-- R71: the legs of the calls `l` at the cell are lost, and its RELEASING bearers FREE. -/
def State.bearersLost (s : State) (c : CellId) (l : List Circuit) : State :=
  (l.foldl (State.loseLegsAt c) s).freeReleasingAt c

/-- R71: the cell's link is lost, before the circuits freed are put in order. -/
def State.linkLost (s : State) (c : CellId) (l : List Circuit) : State := l.foldl State.leaveClearing (s.bearersLost c l)

section

variable {s : State} {l : List Circuit} (hc : s.CallsOk) (hb : s.BearersOk) (hl : l.Nodup) (hmem : ∀ n, n ∈ l) (c : CellId)

theorem leftAll_linkLost (s : State) (hl : l.Nodup) : LeftAll (s.bearersLost c l) (s.linkLost c l) l := leftAll_foldl _ _ hl

theorem free_of_owner_none {b : Bearer} (h : b.owner = none) : b = .free := by cases b <;> simp_all [Bearer.owner]

include hc hb hl

theorem queue_bearersLost :
    (s.bearersLost c l).call.freeQueue = s.call.freeQueue ++ l.filter (s.losesAt c) :=
  (lostAll_foldl hc hb l hl).queue

theorem idle_bearersLost {d : CellId} {k : SlotId} (h : s.bearer d k = .free) : (s.bearersLost c l).bearer d k = .free := by
  have hidle := (lostAll_foldl hc hb (c := c) l hl).idle d k h
  rw [State.bearersLost, bearer_freeReleasingAt, hidle]
  split <;> rfl

include hmem

theorem callOf_bearersLost (n : Circuit) : (s.bearersLost c l).callOf n = (s.loseLegsAt c n).callOf n :=
  ((lostAll_foldl hc hb l hl).calls n).trans (if_pos (hmem n))

/-- R71: a bearer of another cell that names a circuit is as the loss of that call's legs leaves it. -/
theorem bearer_bearersLost {d : CellId} {k : SlotId} {n : Circuit} (hd : d ≠ c) (h : (s.bearer d k).owner = some n) :
    (s.bearersLost c l).bearer d k = (s.loseLegsAt c n).bearer d k := by
  rw [State.bearersLost, bearer_freeReleasingAt, if_neg hd, (lostAll_foldl hc hb l hl).bearer d k n h, if_pos (hmem n)]

/-- R71: no bearer of the cell is in use. -/
theorem bearer_bearersLost_cell (k : SlotId) : (s.bearersLost c l).bearer c k = .free := by
  cases hn : (s.bearer c k).owner with
  | none => exact idle_bearersLost hc hb hl c (free_of_owner_none hn)
  | some n =>
    rw [State.bearersLost, bearer_freeReleasingAt, if_pos rfl, (lostAll_foldl hc hb l hl).bearer c k n hn, if_pos (hmem n)]
    rcases (legsLost_ok hc n).bearer_freed hb hn with h | h <;> rw [h] <;> rfl

/-- R71: a RELEASING bearer of another cell waits on for a CLEARING call. -/
theorem bearersLost_releasing {n : Circuit} (hs : (s.callOf n).state = .clearing) (d : CellId) (k : SlotId) :
    (s.bearersLost c l).bearer d k = .releasing n ↔ d ≠ c ∧ s.bearer d k = .releasing n := by
  by_cases hd : d = c
  · subst hd; simp [bearer_bearersLost_cell hc hb hl hmem]
  · rw [and_iff_right hd]
    have hsame (h : (s.bearer d k).owner = some n) : (s.bearersLost c l).bearer d k = s.bearer d k := by
      rw [bearer_bearersLost hc hb hl hmem c hd h, (legsLost_ok hc n).of_clearing hs]
    constructor <;> intro h
    · cases hn : (s.bearer d k).owner with
      | none => rw [idle_bearersLost hc hb hl c (free_of_owner_none hn)] at h; cases h
      | some m =>
        have hm := bearer_bearersLost hc hb hl hmem c hd hn
        rw [h] at hm
        rcases (legsLost_ok hc m).own hn with e | e
        · rw [← hm] at e; cases e
        · rw [← hm] at e
          cases e
          rw [← hsame hn, h]
    · rw [hsame (by rw [h]; rfl), h]

theorem leavesClearing_iff (n : Circuit) : (s.bearersLost c l).leavesClearing n = true ↔
    (s.callOf n).state = .clearing ∧ ∀ d k, d ≠ c → s.bearer d k ≠ .releasing n := by
  have hstate : ((s.bearersLost c l).callOf n).state = .clearing ↔ (s.callOf n).state = .clearing := by
    rw [callOf_bearersLost hc hb hl hmem]; exact (legsLost_ok hc n).clearing_iff
  simp only [State.leavesClearing, decide_eq_true_eq, hstate, releasing_eq_false]
  refine and_congr_right fun hs => ?_
  simp only [ne_eq, bearersLost_releasing hc hb hl hmem c hs, not_and]

/-- R71: every call is as the loss of its legs leaves it, or has left CLEARING. -/
theorem callOf_linkLost (n : Circuit) : (s.linkLost c l).callOf n =
    if (s.bearersLost c l).leavesClearing n then .free (s.callOf n).profile else (s.loseLegsAt c n).callOf n := by
  have h := (leftAll_linkLost c s hl).calls n
  rw [callOf_bearersLost hc hb hl hmem] at h
  refine h.trans ?_
  simp only [hmem, true_and]
  split
  · next hl' => rw [(legsLost_ok hc n).of_clearing ((leavesClearing_iff hc hb hl hmem c n).1 hl').1]
  · rfl

theorem callOf_linkLost_live {n : Circuit} (hs : (s.callOf n).state ≠ .clearing) :
    (s.linkLost c l).callOf n = (s.loseLegsAt c n).callOf n := by
  rw [callOf_linkLost hc hb hl hmem, if_neg fun h => hs ((leavesClearing_iff hc hb hl hmem c n).1 h).1]

omit hc hb hmem in
theorem bearer_linkLost (d : CellId) (k : SlotId) : (s.linkLost c l).bearer d k = (s.bearersLost c l).bearer d k := by
  rw [State.bearer, (leftAll_linkLost c s hl).bearers]; rfl

omit hmem in
theorem queue_linkLost : (s.linkLost c l).call.freeQueue =
    s.call.freeQueue ++ (l.filter (s.losesAt c) ++ l.filter (s.bearersLost c l).leavesClearing) := by
  rw [(leftAll_linkLost c s hl).queue, queue_bearersLost hc hb hl, List.append_assoc]

/-- R57, R71: the circuits freed in the event stand at the free queue's tail, in ascending order. -/
theorem mem_sortFreed_linkLost {n : Circuit}
    (h : s.losesAt c n = true ∨ (s.bearersLost c l).leavesClearing n = true) :
    n ∈ ((s.linkLost c l).sortFreed s.call.freeQueue).call.freeQueue := by
  rw [State.sortFreed]
  simp only [queue_linkLost hc hb hl, List.drop_left, List.mem_append, List.mem_filter, mem_ascending, true_and,
    List.contains_iff_mem]
  exact .inr (by simpa [hmem] using h)

/-- R71, R114: what the loss of a cell's link leaves of the Call Table. -/
theorem losesCell_linkLost : LosesCell s ((s.linkLost c l).sortFreed s.call.freeQueue) c := by
  have hcall (n : Circuit) : ((s.linkLost c l).sortFreed s.call.freeQueue).callOf n = (s.linkLost c l).callOf n := rfl
  have hbearer (d : CellId) (k : SlotId) :
      ((s.linkLost c l).sortFreed s.call.freeQueue).bearer d k = (s.bearersLost c l).bearer d k := bearer_linkLost hl c d k
  have hlive {n : Circuit} {x : CallState} (hs : (s.callOf n).state = x) (hx : x ≠ .clearing) :=
    callOf_linkLost_live hc hb hl hmem c (hs ▸ hx)
  have hlegs (n : Circuit) : legAt c ((s.linkLost c l).callOf n).serving = false ∧
      legAt c ((s.linkLost c l).callOf n).candidate = false := by
    rw [callOf_linkLost hc hb hl hmem]
    split
    · exact ⟨rfl, rfl⟩
    · exact (legsLost_ok hc n).legless
  have hkept {n : Circuit} {g : Leg} (hg : g.cell ≠ c) (ho : (s.bearer g.cell g.slot).owner = some n) :=
    bearer_bearersLost hc hb hl hmem c hg ho
  refine ⟨fun k => ?_, fun n g hg => ?_, fun n g hg => ?_, fun n g hs hg hgc hh => ?_, fun n g hs hg hgc hh => ?_,
    fun n g h hs hg hhl hgc hhc hh => ?_, fun n g h hs hg hhl hgc hhc => ?_, fun n g h hs hg hhl hgc hhc => ?_,
    fun n hs hr => ?_, fun n hs hr => ?_, fun n hs hg hh => ?_⟩
  · rw [hbearer, bearer_bearersLost_cell hc hb hl hmem]
  · have := (hlegs n).1
    rw [← hcall, hg] at this
    exact legAt_some_false.1 this
  · have := (hlegs n).2
    rw [← hcall, hg] at this
    exact legAt_some_false.1 this
  · rw [hcall, hlive hs CallState.noConfusion, loseLegsAt_held hs hg hgc, callOf_enterHolding_pos _ _ (by exact hh.ne'),
      callOf_setBearer]
    rfl
  · refine ⟨?_, mem_sortFreed_linkLost hc hb hl hmem c (.inl ?_)⟩
    · rw [hcall, hlive hs CallState.noConfusion, loseLegsAt_held hs hg hgc, callOf_enterHolding_zero _ _ (by exact hh),
        callOf_setBearer]
    · simp [State.losesAt, hh, hg, legAt_some, hgc, hs]
  · rw [hcall, hlive hs CallState.noConfusion, loseLegsAt_both hs hg hhl hgc hhc, callOf_loseBoth_held _ _ _ hh.ne']
  · have hat := loseLegsAt_committed hs hg hhl hgc hhc
    have hbh := bearer_of_candidate hb hhl
    refine ⟨by rw [hcall, hlive hs CallState.noConfusion, hat, callOf_commitByLoss], ?_⟩
    rw [hbearer, hkept hhc (by rw [hbh]; rfl), hat, bearer_commitByLoss, if_pos ⟨rfl, rfl⟩]
  · have hat := loseLegsAt_abandoned hs hg hhl hgc hhc
    have hbg := bearer_of_serving hb hg
    refine ⟨by rw [hcall, hlive hs CallState.noConfusion, hat, callOf_abandonByLoss], ?_⟩
    rw [hbearer, hkept hgc (by rw [hbg]; rfl), hat, bearer_abandonByLoss, if_pos ⟨rfl, rfl⟩]
  · have hleaves := (leavesClearing_iff hc hb hl hmem c n).2 ⟨hs, fun d k hd => hr d k hd⟩
    exact ⟨by rw [hcall, callOf_linkLost hc hb hl hmem, if_pos hleaves],
      mem_sortFreed_linkLost hc hb hl hmem c (.inr hleaves)⟩
  · obtain ⟨d, k, hd, hk⟩ := hr
    rw [hcall, callOf_linkLost hc hb hl hmem, if_neg, (legsLost_ok hc n).of_clearing hs]
    exact fun h => ((leavesClearing_iff hc hb hl hmem c n).1 h).2 d k hd hk
  · rw [hcall, callOf_linkLost_live hc hb hl hmem c hs, loseLegsAt_kept hg hh]

end

/-! ### The rest of the state -/

theorem base_linkLost (s : State) (c : CellId) (l : List Circuit) : SameBase s (s.linkLost c l) := by
  have hlegs := SameBase.foldl (State.loseLegsAt c) (fun _ _ => base_loseLegs ..) l s
  have hfreed : SameBase s (s.bearersLost c l) := hlegs.trans ⟨rfl, rfl, rfl, rfl, rfl, rfl, rfl⟩
  exact hfreed.trans (SameBase.foldl State.leaveClearing base_leaveClearing ..)

theorem base_sortFreed (s : State) (q : List Circuit) : SameBase s (s.sortFreed q) := ⟨rfl, rfl, rfl, rfl, rfl, rfl, rfl⟩

theorem base_cellLost (s : State) (c : CellId) : SameBase s (s.cellLost c) :=
  (base_linkLost s c (ascending 192)).trans (base_sortFreed _ s.call.freeQueue)

section

variable {s : State} {l : List Circuit} (hc : s.CallsOk) (hb : s.BearersOk) (hl : l.Nodup) (c : CellId)

include hc hb hl

theorem linkLost_cells : (s.linkLost c l).cells = s.cells :=
  (leftAll_linkLost c s hl).cells.trans (lostAll_foldl hc hb (c := c) l hl).cells

/-- R74: ENDED(LOST) for each call lost with the cell's link. -/
theorem sends_linkLost : s.Sends (s.linkLost c l) ((l.filter (s.losesAt c)).map (endedFrame · .lost)) :=
  (lostAll_foldl hc hb l hl).sends.congr rfl (leftAll_linkLost c s hl).exch

end

end Sys2Proof.Machine
end

section
/-! A cell's link leaves UP (R138, R139, R140). -/

namespace Sys2Proof.Machine

open Sys2Proof

/-- R138: the link unit of cell `c` in the state `st`. -/
def State.linkEnters (s : State) (c : CellId) (st : LinkState) : State := s.modCell c fun u => u.enter st s.timeBase

theorem LosesCell.congr {r s t u : State} {c : CellId} (h : LosesCell r u c) (hcall : s.call = r.call)
    (htime : s.timeBase = r.timeBase) (htables : s.tables = r.tables) (ht : t.call = u.call) : LosesCell s t c := by
  have hr (n : Circuit) : s.callOf n = r.callOf n := by rw [State.callOf, hcall]; rfl
  have hb (d : CellId) (k : SlotId) : s.bearer d k = r.bearer d k := by rw [State.bearer, hcall]; rfl
  have hu (n : Circuit) : t.callOf n = u.callOf n := by rw [State.callOf, ht]; rfl
  have hb' (d : CellId) (k : SlotId) : t.bearer d k = u.bearer d k := by rw [State.bearer, ht]; rfl
  constructor <;> simp only [hr, hb, hu, hb', ht, htime, htables]
  exacts [h.bearers, h.serving, h.candidate, h.active, h.lost, h.both, h.committed, h.abandoned, h.cleared, h.clearing,
    h.untouched]

theorem sortFreed_cells (s : State) (q : List Circuit) : (s.sortFreed q).cells = s.cells := rfl

theorem sortFreed_exch (s : State) (q : List Circuit) : (s.sortFreed q).exch = s.exch := rfl

/-- What a link that leaves UP leaves: its unit in the new state, and its bearers lost. -/
structure LeavesUp (s t : State) (c : CellId) (st : LinkState) : Prop where
  base : SameBase s t
  cells : t.cells = (s.linkEnters c st).cells
  loses : LosesCell s t c
  sends : s.Sends t (((ascending 192).filter (s.losesAt c)).map (endedFrame · .lost))

theorem leavesUp_moveCell {s : State} (hc : s.CallsOk) (hb : s.BearersOk) {c : CellId} (hup : s.cellUp c = true)
    (st : LinkState) : LeavesUp s (s.moveCell c st) c st := by
  have hmove : s.moveCell c st =
      ((s.linkEnters c st).linkLost c (ascending 192)).sortFreed (s.linkEnters c st).call.freeQueue := if_pos hup
  have hc' : (s.linkEnters c st).CallsOk := hc
  have hb' : (s.linkEnters c st).BearersOk := hb
  have hl := nodup_ascending 192
  have hbase := base_linkLost (s.linkEnters c st) c (ascending 192)
  have henter : SameBase s (s.linkEnters c st) := ⟨rfl, rfl, rfl, rfl, rfl, rfl, rfl⟩
  rw [hmove]
  exact {
    base := henter.trans (hbase.trans (base_sortFreed ..))
    cells := (sortFreed_cells ..).trans (linkLost_cells hc' hb' hl c)
    loses := (losesCell_linkLost hc' hb' hl mem_ascending c).congr rfl rfl rfl rfl
    sends := by
      have hloses : (s.linkEnters c st).losesAt c = s.losesAt c := rfl
      have hsends := sends_linkLost hc' hb' hl c
      rw [hloses] at hsends
      exact hsends.congr rfl (sortFreed_exch ..) }

/-- Settles O27: the link's unit is DOWN, and the Call Table has lost the cell. -/
theorem silentCellLinkLosesItsBearers : Obligations.SilentCellLinkLosesItsBearers := by
  intro s c x hup hx hd hc hb
  let u := s.modUnit (.cell c) LinkUnit.setSilence
  obtain ⟨t, hexec, he⟩ : ∃ t, exec (.linkSilenceExpiry (.cell c)) s = .next t ∧ Ends s (u.moveCell c .down) t :=
    ends_guarded (by simp [State.silenceDue, State.unit, State.dueTimer, hup, hx, hd])
  have hu (d : CellId) : u.cells.at d = if d = c then { s.cells.at c with link := (s.cells.at c).link.setSilence }
      else s.cells.at d := Table.at_put ..
  have h := leavesUp_moveCell (s := u) hc hb (c := c)
    (by rw [State.cellUp, hu, if_pos rfl]; simp [LinkUnit.setSilence, hup]) .down
  have hcell (d : CellId) : t.cells.at d = if d = c then (u.cells.at c).enter .down s.timeBase else u.cells.at d := by
    rw [he.cells, h.cells]; exact Table.at_put ..
  have hat : t.cells.at c =
      ({ s.cells.at c with link := (s.cells.at c).link.setSilence } : CellLink).enter .down s.timeBase := by
    rw [hcell, if_pos rfl, hu, if_pos rfl]
  refine ⟨t, hexec, by rw [hat]; rfl, by rw [hat]; rfl, by rw [hat]; rfl, by rw [hat]; rfl, by rw [hat]; rfl,
    by rw [hat]; rfl, fun d hd => by rw [hcell, if_neg hd, hu, if_neg hd], h.loses.congr rfl rfl rfl he.call, ?_⟩
  exact ⟨by rw [he.sig, h.base.sig]; rfl, by rw [he.reg, h.base.reg]; rfl, by rw [he.cache, h.base.cache]; rfl,
    by rw [he.tables, h.base.tables]; rfl, by rw [he.mgmt, h.base.mgmt]; rfl⟩

end Sys2Proof.Machine
end

section
/-! CELL-CONTROL, LINK-TEST and FORCE-CLEAR (R138, R152, R69, R176, R178). -/

namespace Sys2Proof.Machine

open Sys2Proof

/-! ### Replies and operands -/

/-- R144, R165: the reply is placed for the exchange. -/
theorem sends_answered (u : State) (q : MgmtRequest) (rest : List MgmtRequest) (o : MgmtOutcome) (data : List Byte) :
    u.Sends (u.answered q rest o data) [replyFrame q.tag q.command o data] :=
  State.Sends.congr (sends_placeExch { u with mgmt := { u.mgmt with queue := rest, op := none } } _) rfl rfl

theorem finOf_ofNat {n : Nat} (i : Fin n) (hn : n ≤ 256) : finOf n (BitVec.ofNat 8 i.val) = some i := by
  have h := i.isLt
  have hv : (BitVec.ofNat 8 i.val).toNat = i.val := by rw [BitVec.toNat_ofNat]; omega
  simp [finOf, hv]

/-- R138: the state that an action takes a cell link to. -/
def CellAction.target : CellAction → LinkState
  | .enable => .down
  | .disable => .off
  | .loop => .loop

/-- The action byte of a request. -/
def CellAction.code : CellAction → Byte
  | .enable => 1
  | .disable => 2
  | .loop => 3

theorem isControl_code (a : CellAction) (c : Byte) : isControl a [c, a.code] = true := by cases a <;> rfl

theorem readControlOperands_code (a : CellAction) (c : CellId) :
    readControlOperands [BitVec.ofNat 8 c.val, a.code] = some (c, a) := by
  cases a <;> simp [readControlOperands, CellAction.code, finOf_ofNat]

theorem readControlOperands_badCell (a : CellAction) {c : Byte} (h : 23 < c.toNat) :
    readControlOperands [c, a.code] = none := by
  simp [readControlOperands, finOf_none h]

/-- A request of a wrong length or with an unassigned action. -/
theorem readControlOperands_badAction {ops : List Byte}
    (h : ∀ c a : Byte, ops = [c, a] → a.toNat = 0 ∨ 3 < a.toNat) :
    readControlOperands ops = none ∧ controlAction ops = none := by
  match ops with
  | [] | [_] | _ :: _ :: _ :: _ => exact ⟨rfl, rfl⟩
  | [c, a] =>
    have h := h c a rfl
    have hne (x : Byte) (hx : x.toNat ∈ [1, 2, 3]) : a ≠ x := by
      rintro rfl
      simp only [List.mem_cons, List.not_mem_nil, or_false] at hx
      omega
    have h1 := hne 1#8 (by decide)
    have h2 := hne 2#8 (by decide)
    have h3 := hne 3#8 (by decide)
    simp [readControlOperands, controlAction, h1, h2, h3]

/-! ### CELL-CONTROL -/

/-- The row that takes an action's requests. -/
def CellAction.row : CellAction → Instr
  | .enable => .cellControlEnable
  | .disable => .cellControlDisable
  | .loop => .cellControlLoop

theorem base_controlCell (s : State) (c : CellId) (a : CellAction) : SameBase s (s.controlCell c a) := by
  rw [State.controlCell]
  split
  · rw [State.moveCell]
    have henter (st : LinkState) : SameBase s (s.linkEnters c st) := ⟨rfl, rfl, rfl, rfl, rfl, rfl, rfl⟩
    split
    · exact (henter _).trans (base_cellLost ..)
    · exact henter _
  · exact .refl s

section

variable {s : State} {q : MgmtRequest} {rest : List MgmtRequest} (ha : s.AtHead q rest) (hq : q.command = 0x20)
  {a : CellAction}

include ha hq

theorem control_eq (hctl : isControl a q.operands = true) : s.control a =
    some (s.withOperands q (readControlOperands q.operands) fun x => (s.controlCell x.1 a).reply q .done []) := by
  rw [State.control, head_eq (cmd := Cmd.cellControl) ha hq]
  exact if_pos hctl

/-- R138, R166: the event of an accepted CELL-CONTROL. -/
theorem cellControl_ends {c : CellId} (ho : q.operands = [BitVec.ofNat 8 c.val, a.code]) :
    ∃ t, exec a.row s = .next t ∧ Ends s ((s.controlCell c a).answered q rest .done []) t := by
  have hqueue : (s.controlCell c a).mgmt.queue = q :: rest := by rw [(base_controlCell s c a).mgmt, ha.2]
  have hcontrol : s.control a = some ((s.controlCell c a).answered q rest .done []) := by
    rw [control_eq ha hq (by rw [ho]; exact isControl_code ..), ho, readControlOperands_code, withOperands_some,
      reply_eq_answered _ _ _ hqueue]
  cases a <;> exact ends_of hcontrol

/-- R166: the event of a refused CELL-CONTROL. -/
theorem cellControl_refused (hctl : isControl a q.operands = true) (ho : readControlOperands q.operands = none) :
    ∃ t, exec a.row s = .next t ∧ Ends s (s.answered q rest .badValue []) t := by
  have hcontrol : s.control a = some (s.answered q rest .badValue []) := by
    rw [control_eq ha hq hctl, ho, withOperands_none, reply_eq_answered _ _ _ ha.2]
  cases a <;> exact ends_of hcontrol

end

section

variable {s : State} {c : CellId}

/-- R138: a link that is not UP changes its state, or stands there. -/
theorem controlCell_notUp (h : (s.cells.at c).link.state ≠ .up) (a : CellAction) :
    s.controlCell c a = if (s.cells.at c).link.state = a.target then s else s.linkEnters c a.target := by
  have hmove (st : LinkState) : s.moveCell c st = s.linkEnters c st := if_neg (by simpa [State.cellUp] using h)
  cases hst : (s.cells.at c).link.state <;> cases a <;>
    simp_all [State.controlCell, LinkState.control, CellAction.target]

/-- R138: a link that is UP stays there with ENABLE, and leaves with DISABLE and LOOP. -/
theorem controlCell_enable_up (h : (s.cells.at c).link.state = .up) : s.controlCell c .enable = s := by
  simp [State.controlCell, LinkState.control, h]

theorem controlCell_leaves (h : (s.cells.at c).link.state = .up) {a : CellAction} (ha : a ≠ .enable) :
    s.controlCell c a = s.moveCell c a.target := by
  cases a <;> simp_all [State.controlCell, LinkState.control, CellAction.target]

end

/-! ### LINK-TEST -/

theorem readTestOperands_some (c : CellId) {n : Byte} (hn : n ≠ 0) :
    readTestOperands [BitVec.ofNat 8 c.val, n] = some (c, n.toNat) := by
  simp only [readTestOperands, if_neg hn, finOf_ofNat c (by omega), Option.map_some]

section

variable {s : State} {q : MgmtRequest} {rest : List MgmtRequest} (ha : s.AtHead q rest)

include ha

/-- R152: LINK-TEST of a link in LOOP. -/
theorem runLinkTest_loop {c : CellId} {n : Byte} (ho : q.operands = [BitVec.ofNat 8 c.val, n]) (hn : n ≠ 0)
    (hl : (s.cells.at c).link.state = .loop) :
    s.runLinkTest q = (s.modCell c fun u => { u with testCount := n.toNat }).answered q rest .done [] := by
  rw [State.runLinkTest, ho, readTestOperands_some c hn, withOperands_some, ← reply_eq_answered _ _ _ (by exact ha.2)]
  exact if_pos hl

theorem runLinkTest_refused {c : CellId} {n : Byte} (ho : q.operands = [BitVec.ofNat 8 c.val, n])
    (h : n = 0 ∨ (s.cells.at c).link.state ≠ .loop) : s.runLinkTest q = s.answered q rest .badValue [] := by
  rw [State.runLinkTest, ho, ← reply_eq_answered _ _ _ ha.2]
  by_cases hn : n = 0
  · rw [hn]; rfl
  · rw [readTestOperands_some c hn, withOperands_some]
    exact if_neg (h.resolve_left hn)

/-! ### FORCE-CLEAR -/

/-- R178: FORCE-CLEAR of a circuit. -/
theorem runForceClear_eq {n : Circuit} (ho : q.operands = [BitVec.ofNat 8 n.val]) :
    s.runForceClear q = (s.forceClear n).answered q rest .done [] := by
  have hread : readOne 192 q.operands = some n := by rw [ho]; exact finOf_ofNat n (by omega)
  have hqueue : (s.forceClear n).mgmt.queue = q :: rest := by
    rw [State.forceClear, ← ha.2]
    split
    · rw [State.placeExch_mgmt, (base_endCircuit s n).mgmt]
    · rfl
  rw [State.runForceClear, hread, withOperands_some, reply_eq_answered _ _ _ hqueue]

end

/-- R69: ENDED(FORCED) is placed for a call that FORCE-CLEAR ends. -/
theorem forceClear_inCall {s : State} {n : Circuit} (h : (s.callOf n).state.inCall = true) :
    s.forceClear n = (s.endCircuit n).placeExch (endedFrame n .forced) := if_pos h

theorem forceClear_ended {s : State} {n : Circuit} (h : (s.callOf n).state = .free ∨ (s.callOf n).state = .clearing) :
    s.forceClear n = s := if_neg (by rcases h with h | h <;> simp [h, CallState.inCall])

/-- R138, R140, R71, R74: what the event of a CELL-CONTROL leaves that takes a link out of UP. -/
theorem controlLeft {s t : State} {q : MgmtRequest} {rest : List MgmtRequest} {c : CellId} {st : LinkState}
    (hc : s.CallsOk) (hb : s.BearersOk) (hup : (s.cells.at c).link.state = .up)
    (he : Ends s ((s.moveCell c st).answered q rest .done []) t) :
    t.cells = (s.linkEnters c st).cells ∧ LosesCell s t c ∧ t.mgmt.queue = rest ∧ t.sig = s.sig ∧ t.reg = s.reg ∧
      t.cache = s.cache ∧ t.tables = s.tables ∧
      (s.exchUp = true → s.exch.txQueue.length + ((ascending 192).filter (s.losesAt c)).length + 2 ≤ 64 →
        t.exch.txQueue = s.exch.txQueue ++ ((ascending 192).filter (s.losesAt c)).map (endedFrame · .lost) ++
          replyFrame q.tag q.command .done [] :: owed s.attentionSet t.attentionSet) := by
  have h := leavesUp_moveCell hc hb (c := c) (by simp [State.cellUp, hup]) st
  refine ⟨by rw [he.cells, answered_cells, h.cells], h.loses.congr rfl rfl rfl (he.call.trans (answered_call ..)),
    by rw [he.mgmt, answered_mgmt], by rw [he.sig, answered_sig, h.base.sig], by rw [he.reg, answered_reg, h.base.reg],
    by rw [he.cache, answered_cache, h.base.cache], ?_, fun hu hr => ?_⟩
  · rw [he.tables, ← h.base.tables]
    simp [State.answered]
  · have := he.sends (h.sends.trans (sends_answered _ q rest .done [])) hu (by simp; omega)
    rw [this]
    simp

/-- R69, R144: the frames of the event of a FORCE-CLEAR of a call that it ends. -/
theorem forceClear_frames {s t : State} {q : MgmtRequest} {rest : List MgmtRequest} {n : Circuit}
    (h : (s.callOf n).state.inCall = true) (he : Ends s ((s.forceClear n).answered q rest .done []) t)
    (hu : s.exchUp = true) (hr : s.exch.txQueue.length + 3 ≤ 64) : t.exch.txQueue = s.exch.txQueue ++
      endedFrame n .forced :: replyFrame q.tag q.command .done [] :: owed s.attentionSet t.attentionSet := by
  have hforced : s.Sends (s.forceClear n) [endedFrame n .forced] := by
    rw [forceClear_inCall h]
    exact (sends_placeExch (s.endCircuit n) _).congr (endCircuit_exch s n).symm rfl
  rw [he.sends (hforced.trans (sends_answered _ q rest .done [])) hu hr]
  simp

/-- Settles O59: each request by the state of its link or call. -/
theorem controlRequestsTakeEffect : Obligations.ControlRequestsTakeEffect := by
  intro s q rest ha
  refine ⟨fun c hq hst => ?_, fun c hq hup hc hb => ?_, fun hq => ?_, fun c n hq ho => ?_, fun n hq ho => ?_⟩
  · intro moved
    have controlled {a : CellAction} (ho : q.operands = [BitVec.ofNat 8 c.val, a.code]) : ∃ t, exec a.row s = .next t ∧
        Ends s ((if (s.cells.at c).link.state = a.target then s else moved a.target).answered q rest .done []) t := by
      have := cellControl_ends ha hq ho
      rwa [controlCell_notUp hst] at this
    exact ⟨controlled (a := .enable), controlled (a := .disable), controlled (a := .loop)⟩
  · intro left
    have leaves {a : CellAction} (hne : a ≠ .enable) (ho : q.operands = [BitVec.ofNat 8 c.val, a.code]) :
        ∃ t, exec a.row s = .next t ∧ left t a.target := by
      obtain ⟨t, hexec, he⟩ := cellControl_ends ha hq ho
      rw [controlCell_leaves hup hne] at he
      obtain ⟨hcells, hloses, hqueue, hsig, hreg, hcache, htables, hsends⟩ := controlLeft hc hb hup he
      have hat (d : CellId) : t.cells.at d = if d = c then (s.cells.at c).enter a.target s.timeBase else s.cells.at d := by
        rw [hcells]; exact Table.at_put ..
      have hself := (hat c).trans (if_pos rfl)
      exact ⟨t, hexec, by rw [hself]; rfl, by rw [hself]; rfl, by rw [hself]; rfl, by rw [hself]; rfl, by rw [hself]; rfl,
        by rw [hself]; rfl, by rw [hself]; rfl, fun d hd => (hat d).trans (if_neg hd), hloses, hqueue, hsig, hreg, hcache,
        htables, hsends⟩
    refine ⟨fun ho => ?_, leaves (a := .disable) CellAction.noConfusion, leaves (a := .loop) CellAction.noConfusion⟩
    have := cellControl_ends ha hq (a := .enable) ho
    rwa [controlCell_enable_up hup] at this
  · intro refused
    refine ⟨fun c hc => ?_, fun hbad => ?_⟩
    · have outside {a : CellAction} (ho : q.operands = [c, a.code]) : refused a.row :=
        cellControl_refused ha hq (by rw [ho]; exact isControl_code ..) (by rw [ho]; exact readControlOperands_badCell a hc)
      exact ⟨outside (a := .enable), outside (a := .disable), outside (a := .loop)⟩
    · obtain ⟨hread, haction⟩ := readControlOperands_badAction hbad
      have unassigned (a : CellAction) : refused a.row :=
        cellControl_refused ha hq (by simp [isControl, haction]) hread
      simp only [List.forall_mem_cons, List.not_mem_nil, false_imp_iff, implies_true, and_true]
      exact ⟨unassigned .enable, unassigned .disable, unassigned .loop⟩
  · obtain ⟨t, hexec, he⟩ : ∃ t, exec .linkTest s = .next t ∧ Ends s (s.runLinkTest q) t :=
      ends_of (by rw [head_eq (cmd := Cmd.linkTest) ha hq]; rfl)
    exact ⟨t, hexec, fun hn hl => by rwa [runLinkTest_loop ha ho hn hl] at he,
      fun h => by rwa [runLinkTest_refused ha ho h] at he⟩
  · obtain ⟨t, hexec, he⟩ : ∃ t, exec .forceClear s = .next t ∧ Ends s (s.runForceClear q) t :=
      ends_of (by rw [head_eq (cmd := Cmd.forceClear) ha hq]; rfl)
    rw [runForceClear_eq ha ho] at he
    have hends (h : (s.callOf n).state.inCall = true) : EndsCall s t n := by
      have hcall : t.call = (s.forceClear n).call := he.call.trans (answered_call ..)
      have hcells : t.cells = (s.forceClear n).cells := he.cells.trans (answered_cells ..)
      rw [forceClear_inCall h] at hcall hcells
      exact (endsCall_endCircuit s n).congr hcall hcells
    refine ⟨fun h => ⟨t, hexec, by rwa [forceClear_ended h] at he⟩, fun h hu hr => ?_, fun h => ?_⟩
    · have hin : (s.callOf n).state.inCall = true := by rw [h]; rfl
      obtain ⟨hf, -, hcells⟩ := (hends hin).paging h
      exact ⟨t, hexec, hf.call, hf.queue, hf.others, hcells, forceClear_frames hin he hu hr⟩
    · exact ⟨t, hexec, hends h, by rw [he.mgmt, answered_mgmt], forceClear_frames h he⟩

end Sys2Proof.Machine
end

section
/-! The loads and settings of one event (R82, R95, R96, R174, R181, R184). -/

namespace Sys2Proof.Machine

open Sys2Proof

/-- R165, R166: the event of a request that takes effect at once and is answered DONE, or is refused with BAD_VALUE. -/
theorem load_ends {s : State} {q : MgmtRequest} {rest : List MgmtRequest} (ha : s.AtHead q rest) {i : Instr} {cmd : Byte}
    {run : MgmtRequest → State} (hexec : exec i s = .next (s.judged ((s.head cmd).map run))) {α : Type}
    {read : List Byte → Option α} {effect : α → State}
    (hrun : run q = s.withOperands q (read q.operands) fun x => (effect x).reply q .done [])
    (hmgmt : ∀ x, (effect x).mgmt = s.mgmt) (hq : q.command = cmd) :
    (∀ x, read q.operands = some x → ∃ t, exec i s = .next t ∧ Ends s ((effect x).answered q rest .done []) t) ∧
      (read q.operands = none → ∃ t, exec i s = .next t ∧ Ends s (s.answered q rest .badValue []) t) := by
  rw [hexec, head_eq ha hq, Option.map_some, hrun]
  refine ⟨fun x hread => ends_of ?_, fun hread => ends_of ?_⟩
  · rw [hread, withOperands_some, reply_eq_answered (effect x) _ _ (by rw [hmgmt, ha.2])]
  · rw [hread, withOperands_none, reply_eq_answered s _ _ ha.2]

/-- Settles O56: each command's event is its reader, its effect on the tables or the enables, and its reply. -/
theorem loadsAndSettingsTakeEffect : Obligations.LoadsAndSettingsTakeEffect := by
  intro s q rest ha loads
  have neighbourRow := load_ends ha (i := .loadNeighbourRow) rfl (run := s.runLoadNeighbourRow) rfl fun _ => rfl
  have zone := load_ends ha (i := .loadZone) rfl (run := s.runLoadZone) rfl fun _ => rfl
  have cell := load_ends ha (i := .loadCell) rfl (run := s.runLoadCell) rfl fun _ => rfl
  have timing := load_ends ha (i := .loadTiming) rfl (run := s.runLoadTiming) rfl fun _ => rfl
  have attention := load_ends ha (i := .setAttention) rfl (run := s.runSetAttention) rfl fun _ => rfl
  have capture := load_ends ha (i := .setCapture) rfl (run := s.runSetCapture) rfl fun _ => rfl
  exact ⟨neighbourRow, zone, cell, timing, attention, capture⟩

end Sys2Proof.Machine
end

section
/-! LOAD-PROFILE (R97, R98). -/

namespace Sys2Proof.Machine

open Sys2Proof

/-- R97: the ranges of the nine values of a profile. -/
theorem inRange_iff (p : Profile) : p.inRange = true ↔ (1 ≤ p.w ∧ p.w ≤ 16) ∧ p.pe ≤ 4032 ∧ p.ps ≤ 1023 ∧ p.h ≤ 1023 ∧
    (1 ≤ p.t ∧ p.t ≤ 64) ∧ p.f ≤ 4032 ∧ (10 ≤ p.b ∧ p.b ≤ 1000) ∧ (2 ≤ p.l ∧ p.l ≤ 50) ∧ (1 ≤ p.m ∧ p.m ≤ 9) := by
  simp only [Profile.inRange, decide_eq_true_eq, and_assoc]

theorem finOf_eq {n : Nat} {b : Byte} {i : Fin n} (h : b.toNat = i.val) : finOf n b = some i := by
  rw [finOf, dif_pos (h ▸ i.isLt)]
  exact congrArg some (Fin.ext h)

/-- Settles O55: the operands are read when the profile number and the nine values are in range, and only then. -/
theorem loadProfileIsWhole : Obligations.LoadProfileIsWhole := by
  intro s q rest ha hq i w pe1 pe0 ps1 ps0 h1 h0 t' f1 f0 b1 b0 l m ho p good
  obtain ⟨done, refused⟩ := load_ends ha (i := .loadProfile) rfl (run := s.runLoadProfile) rfl (fun _ => rfl) hq
  have hread : readProfileOperands q.operands = (finOf 8 i).bind fun j => if p.inRange then some (j, p) else none := by
    rw [ho]; rfl
  by_cases hgood : good
  · obtain ⟨hi, hp⟩ := id hgood
    let j : ProfileId := ⟨i.toNat, Nat.lt_succ_of_le hi⟩
    have haccepted : readProfileOperands q.operands = some (j, p) := by
      rw [hread, finOf_eq (i := j) rfl, Option.bind_some, if_pos ((inRange_iff p).2 hp)]
    obtain ⟨t, ht, he⟩ := done (j, p) haccepted
    have htables : t.tables = { s.tables with profiles := s.tables.profiles.put j p } := he.tables
    refine ⟨t, ht, he.call.trans (answered_call ..), fun _ => ⟨fun x => ?_, ?_, ?_⟩, fun h => absurd hgood h⟩
    · rw [htables, Table.at_put]
      simp only [Fin.ext_iff, j]
    · rw [htables]; exact he
    · rw [htables]
  · have hnone : readProfileOperands q.operands = none := by
      rw [hread]
      by_cases hi : i.toNat ≤ 7
      · rw [Option.bind_eq_none_iff]
        exact fun j _ => if_neg fun hp => hgood ⟨hi, (inRange_iff p).1 hp⟩
      · rw [finOf_none (by omega), Option.bind_none]
    obtain ⟨t, ht, he⟩ := refused hnone
    exact ⟨t, ht, he.call.trans (answered_call ..), fun h => absurd h hgood, fun _ => he⟩

end Sys2Proof.Machine
end

section
/-! The expiry of a bridge timer (R109). -/

namespace Sys2Proof.Machine

open Sys2Proof

section

variable (s : State) (n : Circuit) (sl cl : Leg)

theorem base_commit : SameBase s (s.commit n sl cl) := (base_releaseLeg ..).trans (base_keepLeg ..)

theorem freeQueue_commit : (s.commit n sl cl).call.freeQueue = s.call.freeQueue := by
  simp [State.commit, State.keepLeg, State.releaseLeg, State.setBearer, State.modCall]

/-- R109: a bridge abandoned at its timer's expiry is reported, and then ends as a commit to the serving leg. -/
theorem abandonByExpiry_eq : s.abandonByExpiry n sl cl =
    (s.captureBridge .handoverAbandoned n cl (sl.q, cl.q)).commit n cl sl := rfl

/-- R118: the state in which a bridge whose timer has expired is ended: a bridge to be abandoned has been reported. -/
def State.bridgeJudged : State :=
  if sl.q < cl.q then s else s.captureBridge .handoverAbandoned n cl (sl.q, cl.q)

theorem bridgeJudged_cases : s.bridgeJudged n sl cl = s ∨
    s.bridgeJudged n sl cl = s.captureBridge .handoverAbandoned n cl (sl.q, cl.q) := ite_eq_or_eq ..

theorem bridgeJudged_call : (s.bridgeJudged n sl cl).call = s.call := by
  rcases bridgeJudged_cases s n sl cl with h | h <;> rw [h]
  exact State.capture_call ..

theorem bridgeJudged_cells : (s.bridgeJudged n sl cl).cells = s.cells := by
  rcases bridgeJudged_cases s n sl cl with h | h <;> rw [h]
  exact State.capture_cells ..

theorem base_bridgeJudged : SameBase s (s.bridgeJudged n sl cl) := by
  rcases bridgeJudged_cases s n sl cl with h | h <;> rw [h]
  · exact .refl s
  · exact base_capture ..

end

/-- R109: both outcomes of the expiry are commits: to the candidate if its estimate is higher, and otherwise, once that
is reported, to the serving leg. -/
theorem bridgeExpired_eq {s : State} {n : Circuit} {sl cl : Leg} (hsl : (s.callOf n).serving = some sl)
    (hcl : (s.callOf n).candidate = some cl) : s.bridgeExpired n = (s.bridgeJudged n sl cl).commit n
      (if sl.q < cl.q then sl else cl) (if sl.q < cl.q then cl else sl) := by
  simp only [State.bridgeExpired, hsl, hcl, State.bridgeJudged]
  split
  · rfl
  · exact abandonByExpiry_eq ..

/-- Settles O45: the bridge ends as a commit to the leg kept, after the report of one that is abandoned. -/
theorem bridgeTimerSettlesTheBridge : Obligations.BridgeTimerSettlesTheBridge := by
  intro s n x sl cl hs hx hd hsl hcl hapart kept gone
  obtain ⟨t, ht, he⟩ : ∃ t, exec (.bridgeTimerExpiry n) s = .next t ∧ Ends s (s.bridgeExpired n) t :=
    ends_guarded (by simp [State.bridgeDue, State.dueTimer, hs, hx, hd])
  rw [bridgeExpired_eq hsl hcl] at he
  have hcall := bridgeJudged_call s n sl cl
  have hof (m : Circuit) : (s.bridgeJudged n sl cl).callOf m = s.callOf m := by rw [State.callOf, hcall]; rfl
  have hbase := (base_bridgeJudged s n sl cl).trans (base_commit _ n gone kept)
  have hne : ¬(gone.cell = kept.cell ∧ gone.slot = kept.slot) := by
    simp only [kept, gone]
    split
    · exact hapart
    · exact fun h => hapart ⟨h.1.symm, h.2.symm⟩
  refine ⟨t, ht, ?_, ?_, ?_, fun hu hr => ?_, fun m hm => ?_, ?_, he.reg.trans hbase.reg, he.cache.trans hbase.cache,
    fun hq => ?_, fun hq hl hr => ?_⟩
  · rw [he.callOf, callOf_commit, hof, (base_bridgeJudged ..).tables]
  · rw [he.bearer, bearer_commit, if_pos ⟨rfl, rfl⟩]
  · rw [he.bearer, bearer_commit, if_neg hne, if_pos ⟨rfl, rfl⟩]
  · rw [he.cells, commit_cells, placeSig_cells (bridgeJudged_cells ..)]
    exact placeSig_joins _ hu hr
  · rw [he.callOf, callOf_commit_other _ hm, hof]
  · rw [he.call, freeQueue_commit, hcall]
  · rw [he.captures, commit_attn, State.bridgeJudged, if_pos hq]
  · rw [he.captures, commit_attn, State.bridgeJudged, if_neg hq.not_gt]
    exact capture_joins (kind := .handoverAbandoned) _ hl hr

end Sys2Proof.Machine
end

section
/-! A STATE report (R149) and the candidate legs that it ends (R111, R113). -/

namespace Sys2Proof.Machine

open Sys2Proof

section

variable (c : CellId) (s : State)

theorem takeFrame_at : (s.takeFrame (.cell c)).cells.at c =
    { s.cells.at c with link := { (s.cells.at c).link with rxFifo := (s.cells.at c).link.rxFifo.tail } } := by
  simp [State.takeFrame, State.modUnit]

variable {c} in
theorem takeFrame_at_other {d : CellId} (h : d ≠ c) : (s.takeFrame (.cell c)).cells.at d = s.cells.at d := by
  simp [State.takeFrame, State.modUnit, h]

theorem loseCandidateAt_kept {n : Circuit} (h : legAt c (s.callOf n).candidate = false) :
    s.loseCandidateAt c n = s := by
  rw [State.loseCandidateAt, h, loseLegs_none]

theorem loseCandidateAt_cells (n : Circuit) : (s.loseCandidateAt c n).cells = s.cells := by
  simp only [State.loseCandidateAt, State.loseLegs]
  split
  · rfl
  · split
    · next h _ => cases h
    · next h _ => cases h
    · exact abandonByLoss_cells ..
    · rfl
  · rfl

theorem callOf_loseCandidateAt_other {n m : Circuit} (h : m ≠ n) : (s.loseCandidateAt c n).callOf m = s.callOf m :=
  callOf_loseLegs_other s h ..

theorem callOf_loseCandidateAt_congr {t : State} {n : Circuit} (h : t.callOf n = s.callOf n) (hb : SameBase s t) :
    (t.loseCandidateAt c n).callOf n = (s.loseCandidateAt c n).callOf n := by
  rw [State.loseCandidateAt, State.loseCandidateAt, h]
  exact callOf_loseLegs_congr h hb.tables hb.timeBase ..

/-- R113: each call in turn: what becomes of one depends on that call alone. -/
theorem callOf_foldl_loseCandidateAt (n : Circuit) (l : List Circuit) (hl : l.Nodup) :
    (l.foldl (State.loseCandidateAt c) s).callOf n =
      if n ∈ l then (s.loseCandidateAt c n).callOf n else s.callOf n := by
  induction l generalizing s with
  | nil => rfl
  | cons m l ih =>
    obtain ⟨hm, hl⟩ := List.nodup_cons.1 hl
    rw [List.foldl_cons, ih _ hl]
    by_cases hnm : n = m
    · subst hnm
      rw [if_neg hm, if_pos List.mem_cons_self]
    · have hother := callOf_loseCandidateAt_other c s hnm
      simp only [List.mem_cons, hnm, false_or, callOf_loseCandidateAt_congr c s hother (base_loseLegs ..), hother]

/-- R149: a report kept, before what it ends. -/
def State.keepReport (r : CellReport) : State :=
  s.modCell c fun u => { u with marks := u.marks.remark u.report r, report := r }

@[simp] theorem callOf_keepReport (r : CellReport) (n : Circuit) : (s.keepReport c r).callOf n = s.callOf n := rfl

theorem reported_eq (r : CellReport) : s.reported c r =
    if r.admits then s.keepReport c r else (ascending 192).foldl (State.loseCandidateAt c) (s.keepReport c r) := rfl

theorem reported_cells (r : CellReport) : (s.reported c r).cells = (s.keepReport c r).cells := by
  have fold (l : List Circuit) (u : State) : (l.foldl (State.loseCandidateAt c) u).cells = u.cells := by
    induction l generalizing u with
    | nil => rfl
    | cons n l ih => exact (ih _).trans (loseCandidateAt_cells ..)
  rw [reported_eq]
  split
  · rfl
  · exact fold ..

/-- R113: a report that shows trouble ends the candidate leg of each call that has one at the cell. -/
theorem callOf_reported (r : CellReport) (n : Circuit) : (s.reported c r).callOf n =
    if r.admits then s.callOf n else ((s.keepReport c r).loseCandidateAt c n).callOf n := by
  rw [reported_eq]
  split
  · rfl
  · rw [callOf_foldl_loseCandidateAt _ _ _ _ (nodup_ascending 192), if_pos (mem_ascending n)]

end

/-- Settles O41: the report is kept, and the candidate legs at a cell in trouble are lost, one call at a time. -/
theorem stateReportIsKept : Obligations.StateReportIsKept := by
  intro s c f r htakes
  let u := s.takeFrame (.cell c)
  obtain ⟨t, ht, he⟩ : ∃ t, exec .stateReport s = .next t ∧ Ends s (u.reported c r) t :=
    ends_of (turn_direct htakes rfl Msg.isState actState rfl)
  have hbase := base_reported u c r
  have hcells : t.cells = (u.keepReport c r).cells := he.cells.trans (reported_cells ..)
  have hcall (n : Circuit) : t.callOf n =
      if r.admits then s.callOf n else ((u.keepReport c r).loseCandidateAt c n).callOf n := by
    rw [he.callOf, callOf_reported, takeFrame_callOf]
  have hof (n : Circuit) : (u.keepReport c r).callOf n = s.callOf n := takeFrame_callOf ..
  refine ⟨t, ht, ?_, ?_, ?_, ?_, fun d hd => ?_, fun hr => ?_, fun n hn => ?_, fun n sl cl hr hs hsl hcl hc => ?_,
    ?_, ?_, ?_, ?_⟩
  · rw [hcells, State.keepReport, State.modCell_at]
  · rw [hcells, State.keepReport, State.modCell_at, takeFrame_at]; rfl
  · rw [hcells, State.keepReport, State.modCell_at, takeFrame_at]
  · rw [he.sig, hbase.sig, takeFrame_sig]
  · rw [hcells, State.keepReport, State.modCell_at_other _ _ hd, takeFrame_at_other s hd]
  · rw [he.call, reported_eq, if_pos (by exact hr)]
    exact State.takeFrame_call ..
  · rw [hcall, loseCandidateAt_kept c _ (by rw [hof]; exact hn), hof, ite_self]
  · have hadmits : r.admits = false := hr
    have hlegs : (u.keepReport c r).loseCandidateAt c n = (u.keepReport c r).abandonByLoss n sl cl (sl.q, cl.q) := by
      rw [State.loseCandidateAt, hof, hcl, legAt_some.2 hc]
      exact loseLegs_candidate (by rw [hof, hs]) (by rw [hof, hsl]) (by rw [hof, hcl])
    rw [hcall, hadmits, if_neg Bool.false_ne_true, hlegs, callOf_abandonByLoss, hof]
    rfl
  · rw [he.reg, hbase.reg, State.takeFrame_reg]
  · rw [he.cache, hbase.cache, State.takeFrame_cache]
  · rw [he.tables, hbase.tables, State.takeFrame_tables]
  · rw [he.mgmt, hbase.mgmt, State.takeFrame_mgmt]

end Sys2Proof.Machine
end

section
/-! The emissions by which the merge window advances (R129, R131). -/

namespace Sys2Proof.Machine

open Sys2Proof

/-! ### What the operations on calls leave alone -/

/-- The operations on calls touch links, calls and captures only. -/
theorem closed_base (s : State) : Closed (SameBase s) where
  call _ h := h.trans ⟨rfl, rfl, rfl, rfl, rfl, rfl, rfl⟩
  sig c f h := h.trans (base_placeSig _ c f)
  voice c f h := h.trans (by constructor <;> simp)
  exch f h := h.trans (base_placeExch _ f)
  capture k d h := h.trans (base_capture _ k d)
  stray l h := h.trans (base_stray _ l)
  late c h := h.trans (by constructor <;> simp [State.lateDiscard])
  report c r h := h.trans (base_modCell _ c _)

theorem base_emissions (n : Circuit) (est : Nat × Nat) (k : Nat) (s : State) :
    SameBase s (State.emissions n est k s) := by
  induction k generalizing s with
  | zero => exact .refl s
  | succ k ih =>
    rw [State.emissions]
    split
    · exact ((closed_base s).emit n est (.refl s)).trans (ih _)
    · exact .refl s

/-! ### A call that stays BRIDGED -/

/-- R131, R105: an emission after which the call is still BRIDGED has moved both legs and the window, and at most
the dwell count besides. -/
theorem callOf_emit_bridged {s : State} {n : Circuit} {sl cl : Leg} {win : Window}
    (hsl : (s.callOf n).serving = some sl) (hcl : (s.callOf n).candidate = some cl)
    (hw : (s.callOf n).window = some win) {est : Nat × Nat} (hs : ((s.emit n est).callOf n).state = .bridged) :
    ∃ dwell, (s.emit n est).callOf n = { (s.callOf n).emittedBy sl cl win with dwell } := by
  have hn := callOf_emitted s n sl cl win
  rw [emit_eq hsl hcl hw] at hs ⊢
  split at hs
  · by_cases hh : (s.emitted n sl cl win).tables.timing.hold = 0
    · rw [(freesCall_loseBoth _ _ _ hh).call] at hs; cases hs
    · rw [callOf_loseBoth_held _ _ _ hh] at hs; cases hs
  · rw [callOf_commitByLoss] at hs; cases hs
  · rw [callOf_abandonByLoss] at hs; cases hs
  · rw [evaluate_eq (congrArg CallRecord.serving hn) (congrArg CallRecord.candidate hn)] at hs ⊢
    split at hs
    · rw [callOf_commit] at hs; cases hs
    · next hno => exact ⟨_, by rw [if_neg hno, callOf_modCall_same, hn]⟩

/-- R129: a BRIDGED call whose window's base is `d` short of `goal`, the slot that it brings to offset 0 not holding
both frames. -/
structure Advancing (goal : Seq) (d : Nat) (r : CallRecord) : Prop where
  state : r.state = .bridged
  serving : ∃ g, r.serving = some g
  candidate : ∃ g, r.candidate = some g
  window : ∃ w b, r.window = some w ∧ w.base = some b ∧ (goal - b).toNat = d ∧
    ∀ j : Fin 4, j.val = d → (w.slots.at j).full = false

/-- R129, R131: slot 0 is emitted until the base has reached the goal. -/
theorem Advancing.emits {goal : Seq} {d : Nat} {r : CallRecord} (h : Advancing goal d r) (hd : d < 128) :
    r.emits goal = decide (0 < d) := by
  obtain ⟨w, b, hw, hb, hdist, hfull⟩ := h.window
  have hne : (b != goal) = decide (0 < d) := by
    by_cases he : b = goal
    · subst he
      obtain rfl : d = 0 := by rw [← hdist, BitVec.sub_self]; rfl
      simp
    · have : b.toNat ≠ goal.toNat := fun e => he (BitVec.eq_of_toNat_eq e)
      simp only [bne_iff_ne.2 he, true_eq_decide_iff]
      bv_omega
  simp only [CallRecord.emits, h.state, hw, hb, hdist, hd, hne, BEq.rfl, Bool.true_and, decide_true, Bool.and_true]
  cases d with
  | zero => exact hfull 0 rfl
  | succ d => simp

/-- R129, R131: an emission that leaves the call BRIDGED brings the base one nearer to the goal. -/
theorem Advancing.emit {goal : Seq} {d : Nat} {s : State} {n : Circuit} {est : Nat × Nat}
    (h : Advancing goal (d + 1) (s.callOf n)) (hs : ((s.emit n est).callOf n).state = .bridged) :
    Advancing goal d ((s.emit n est).callOf n) ∧ ((s.emit n est).callOf n).profile = (s.callOf n).profile := by
  obtain ⟨sl, hsl⟩ := h.serving
  obtain ⟨cl, hcl⟩ := h.candidate
  obtain ⟨w, b, hw, hb, hdist, hfull⟩ := h.window
  obtain ⟨dwell, hn⟩ := callOf_emit_bridged hsl hcl hw hs
  refine ⟨⟨hs, ⟨_, congrArg CallRecord.serving hn⟩, ⟨_, congrArg CallRecord.candidate hn⟩, w.shift, b + 1,
    congrArg CallRecord.window hn, by rw [Window.shift, hb]; rfl, by bv_omega, fun j hj => ?_⟩,
    by rw [hn]; rfl⟩
  rcases at_shift w j with e | ⟨i, hi, e⟩
  · rw [e]; rfl
  · rw [e]; exact hfull i (by omega)

/-- R129: an advance makes as many emissions as its base is short of the goal, and a call still BRIDGED after them has
its base there. -/
theorem emitUntil_advances {n : Circuit} {goal : Seq} (est : Nat × Nat) (d : Nat) (hd : d < 128) :
    ∀ {s : State} {fuel : Nat}, Advancing goal d (s.callOf n) → d ≤ fuel →
      State.emitUntil n est goal fuel s = State.emissions n est d s ∧
        (((State.emissions n est d s).callOf n).state = .bridged →
          Advancing goal 0 ((State.emissions n est d s).callOf n) ∧
            ((State.emissions n est d s).callOf n).profile = (s.callOf n).profile) := by
  induction d with
  | zero => exact fun h _ => ⟨emitUntil_rests (h.emits hd) est _, fun _ => ⟨h, rfl⟩⟩
  | succ d ih =>
    intro s fuel h hfuel
    obtain ⟨fuel, rfl⟩ : ∃ m, fuel = m + 1 := ⟨fuel - 1, by omega⟩
    rw [State.emitUntil, if_pos (by rw [h.emits hd, decide_eq_true (Nat.succ_pos d)]), State.emissions, if_pos h.state]
    by_cases hs : ((s.emit n est).callOf n).state = .bridged
    · obtain ⟨hnext, hprofile⟩ := h.emit hs
      rw [← hprofile]
      exact ih (by omega) hnext (by omega)
    · rw [emitUntil_rests (emits_ended hs goal), emissions_ended hs]
      exact ⟨rfl, fun h => absurd h hs⟩

end Sys2Proof.Machine
end

section
/-! An uplink frame from a leg of a BRIDGED call (R120, R126 to R129). -/

namespace Sys2Proof.Machine

open Sys2Proof

theorem modCall_congr {s : State} {n : Circuit} {f g : CallRecord → CallRecord} (h : f (s.callOf n) = g (s.callOf n)) :
    s.modCall n f = s.modCall n g := by rw [State.modCall, State.modCall, h]

/-! ### The event of an uplink frame in range -/

/-- R120, R142: an uplink frame in range is heard on its link, and is then handled by its bearer. -/
theorem uplinkVoice_ends {s : State} {c : CellId} {run : List Byte} {f : Frame} {v : Voice} {k : SlotId}
    (hl : (s.cells.at c).link.state = .down ∨ (s.cells.at c).link.state = .up) (hj : judge run = .valid f)
    (hf : f.kind = Kind.voice) (hv : voiceOf f.body = some v) (htag : v.tag.toNat = k.val)
    (hlevel : v.level.toNat ≤ 63) : ∃ t, exec (.uplinkVoiceFrame c run) s = .next t ∧
      Ends s ((s.modUnit (.cell c) fun x => x.afterArrival s.timeBase).uplinkFrame c k v) t := by
  refine ends_of ?_
  rw [arrival_eq (l := .cell c) hl hj (by simp [hf]), Option.bind_some, hv, Option.map_some, State.voiceFromCell,
    finOf_eq htag, received_eq]
  exact congrArg some (if_pos hlevel)

/-! ### The merge window -/

/-- R128: the window with a frame stored at offset `o`. -/
def Window.storing (w : Window) (o : Fin 4) (role : LegRole) (f : StoredFrame) (deadline : Time) : Window :=
  { w with slots := Table.put w.slots o ((w.slots.at o).store role f deadline) }

/-- R127: the window of call `n` replaced. -/
def State.setWindow (s : State) (n : Circuit) (w : Window) : State := s.modCall n fun r => { r with window := some w }

@[simp] theorem callOf_setWindow (s : State) (n : Circuit) (w : Window) :
    (s.setWindow n w).callOf n = { s.callOf n with window := some w } := callOf_modCall_same ..

theorem setWindow_setWindow (s : State) (n : Circuit) (w x : Window) :
    (s.setWindow n w).setWindow n x = s.setWindow n x :=
  modCall_modCall ..

section

variable {s : State} {n : Circuit} {win : Window} (hw : (s.callOf n).window = some win)

include hw

theorem basedOn_eq (q : Seq) : s.basedOn n q = s.setWindow n (win.based q) := modCall_congr (by rw [hw]; rfl)

/-- R128, R129: a frame by its offset: late, a second one for its slot, placed, or past the window. -/
theorem windowFrame_eq (role : LegRole) (v : Voice) (c : CellId) (k : SlotId) : s.windowFrame n role c k v =
    let u := s.setWindow n (win.based v.seq)
    let o := (v.seq - win.base.getD v.seq).toNat
    if 128 ≤ o then u.lateDiscard c
    else if h : o < 4 then
      if ((win.slots.at ⟨o, h⟩).of role).isSome then u else u.placeFrame n role ⟨o, h⟩ v (s.callOf n).estimates
    else (State.emitUntil n (s.callOf n).estimates (v.seq - 3) emitFuel u).afterAdvance n role c k v
      (s.callOf n).estimates := by
  rw [← basedOn_eq hw]
  simp only [State.windowFrame, CallRecord.offset, callOf_modCall_same, hw, Option.map_some, Option.bind_some,
    Window.based, Option.getD_some]
  rfl

variable (role : LegRole) (v : Voice) (est : Nat × Nat) {b : Seq} (hb : win.base = some b) (o : Fin 4)

include hb

/-- R128: slot 0 is emitted as long as it holds both frames. -/
theorem placeFrame_eq : s.placeFrame n role o v est = State.emitUntil n est b emitFuel
    (s.setWindow n (win.storing o role ⟨v, score (s.callOf n).profile v⟩ (s.after (s.callOf n).profile.m))) := by
  have hgoal : win.base.getD 0 = b := by rw [hb]; rfl
  simp only [State.placeFrame, hw, hgoal]
  rfl

/-- R128: the frame is stored, and slot 0 does not hold both. -/
theorem placeFrame_rests {w : Window}
    (hx : win.storing o role ⟨v, score (s.callOf n).profile v⟩ (s.after (s.callOf n).profile.m) = w)
    (hfull : (w.slots.at 0).full = false) : s.placeFrame n role o v est = s.setWindow n w := by
  have hbase : w.base = some b := by rw [← hx]; exact hb
  rw [placeFrame_eq hw role v est hb, hx]
  refine emitUntil_rests ?_ est _
  simp [CallRecord.emits, hfull, hbase]

/-- R128, R131: the frame completes slot 0, which is emitted; slot 1 does not hold both. -/
theorem placeFrame_emits {sl cl : Leg} (hs : (s.callOf n).state = .bridged) (hsl : (s.callOf n).serving = some sl)
    (hcl : (s.callOf n).candidate = some cl) {w : Window}
    (hx : win.storing o role ⟨v, score (s.callOf n).profile v⟩ (s.after (s.callOf n).profile.m) = w)
    (hfull : (w.slots.at 0).full = true) (hnext : (w.slots.at 1).full = false) :
    s.placeFrame n role o v est = (s.setWindow n w).emit n est := by
  have hbase : w.base = some b := by rw [← hx]; exact hb
  have hasks : w.asks 0 = 1 := by
    rw [asks_zero, if_pos hfull, asks_zero, slots_shift]
    exact congrArg (· + 1) (if_neg (ne_true_of_eq_false hnext))
  have hcall := callOf_setWindow s n w
  rw [placeFrame_eq hw role v est hb, hx, emitUntil_eq_emissions est 1 (e := 4) (congrArg CallRecord.window hcall) hbase
    (by rw [hcall]; exact hs) (by rw [hcall]; exact hsl) (by rw [hcall]; exact hcl) (by bv_omega) (by decide) hasks.symm
    (by decide) (by decide)]
  exact if_pos (by rw [hcall]; exact hs)

end

/-! ### A frame by its offset in the window (R128, R129) -/

theorem base_advance {q b : Seq} (h : 4 ≤ (q - b).toNat) : (q - 3 - b).toNat = (q - b).toNat - 3 := by bv_omega

section

variable {s : State} {n : Circuit} {win : Window} (hw : (s.callOf n).window = some win) (role : LegRole) (c : CellId)
  (k : SlotId) {v : Voice} {b : Seq} (hb : win.base.getD v.seq = b)

include hw hb

/-- R128: a late frame. -/
theorem windowFrame_late (h : 128 ≤ (v.seq - b).toNat) :
    s.windowFrame n role c k v = (s.setWindow n ⟨some b, win.slots⟩).lateDiscard c := by
  subst hb
  rw [windowFrame_eq hw]
  exact if_pos h

section

variable (h : (v.seq - b).toNat < 4)

include h

/-- R128: the second frame of a leg for one slot. -/
theorem windowFrame_held (hheld : ((win.slots.at ⟨_, h⟩).of role).isSome = true) :
    s.windowFrame n role c k v = s.setWindow n ⟨some b, win.slots⟩ := by
  subst hb
  rw [windowFrame_eq hw]
  exact (if_neg (by omega)).trans ((dif_pos h).trans (if_pos hheld))

theorem windowFrame_placed (hnone : (win.slots.at ⟨_, h⟩).of role = none) : s.windowFrame n role c k v =
    (s.setWindow n ⟨some b, win.slots⟩).placeFrame n role ⟨_, h⟩ v (s.callOf n).estimates := by
  subst hb
  rw [windowFrame_eq hw]
  exact (if_neg (by omega)).trans ((dif_pos h).trans (if_neg (by rw [hnone]; exact Bool.false_ne_true)))

variable (hnone : (win.slots.at ⟨_, h⟩).of role = none) {w : Window}
  (hx : Window.storing ⟨some b, win.slots⟩ ⟨_, h⟩ role ⟨v, score (s.callOf n).profile v⟩
    (s.after (s.callOf n).profile.m) = w)

include hnone hx

/-- R128: the first frame of a leg for a slot, slot 0 then not holding both. -/
theorem windowFrame_stored (hfull : (w.slots.at 0).full = false) : s.windowFrame n role c k v = s.setWindow n w := by
  have hcall := callOf_setWindow s n ⟨some b, win.slots⟩
  rw [windowFrame_placed hw role c k hb h hnone, placeFrame_rests (congrArg CallRecord.window hcall) role v _ rfl _
    (by rw [hcall]; exact hx) hfull, setWindow_setWindow]

/-- R128, R131: a frame that completes slot 0, slot 1 not holding both. -/
theorem windowFrame_completes (hs : (s.callOf n).state = .bridged) (hserving : ∃ g, (s.callOf n).serving = some g)
    (hcandidate : ∃ g, (s.callOf n).candidate = some g) (hfull : (w.slots.at 0).full = true)
    (hnext : (w.slots.at 1).full = false) :
    s.windowFrame n role c k v = (s.setWindow n w).emit n (s.callOf n).estimates := by
  have hcall := callOf_setWindow s n ⟨some b, win.slots⟩
  obtain ⟨g, hg⟩ := hserving
  obtain ⟨e, he⟩ := hcandidate
  rw [windowFrame_placed hw role c k hb h hnone, placeFrame_emits (congrArg CallRecord.window hcall) role v _ rfl _
    (by rw [hcall]; exact hs) (by rw [hcall]; exact hg) (by rw [hcall]; exact he) (by rw [hcall]; exact hx) hfull hnext,
    setWindow_setWindow]

end

/-- R129: the advance comes first. While the call is BRIDGED its base is brought to 3 before the frame. -/
theorem windowFrame_advances {est : Nat × Nat} (hest : (s.callOf n).estimates = est)
    (hs : (s.callOf n).state = .bridged) (hserving : ∃ g, (s.callOf n).serving = some g)
    (hcandidate : ∃ g, (s.callOf n).candidate = some g)
    (h4 : 4 ≤ (v.seq - b).toNat) (h128 : (v.seq - b).toNat < 128)
    (hnext : ∀ j : Fin 4, j.val = (v.seq - b).toNat - 3 → (win.slots.at j).full = false) :
    let u := State.emissions n est ((v.seq - b).toNat - 3) (s.setWindow n ⟨some b, win.slots⟩)
    s.windowFrame n role c k v = u.afterAdvance n role c k v est ∧ ((u.callOf n).state = .bridged →
      Advancing (v.seq - 3) 0 (u.callOf n) ∧ (u.callOf n).profile = (s.callOf n).profile) := by
  have hadvancing : Advancing (v.seq - 3) ((v.seq - b).toNat - 3)
      ((s.setWindow n ⟨some b, win.slots⟩).callOf n) := by
    rw [callOf_setWindow]
    exact ⟨hs, hserving, hcandidate, _, b, rfl, rfl, base_advance h4, hnext⟩
  obtain ⟨hemits, hkept⟩ := emitUntil_advances est _ (by omega) (fuel := emitFuel) hadvancing (by rw [emitFuel]; omega)
  rw [callOf_setWindow] at hkept
  refine ⟨?_, hkept⟩
  subst hb hest
  rw [windowFrame_eq hw, ← hemits]
  exact (if_neg h128.not_ge).trans (dif_neg h4.not_gt)

end

/-! ### The frame that has caused an advance (R129) -/

section

variable {s : State} {n : Circuit} {role : LegRole} {c : CellId} {k : SlotId} {v : Voice} {est : Nat × Nat}

/-- R129: the call is still BRIDGED, and its frame goes to slot 3. -/
theorem afterAdvance_bridged (h : Advancing (v.seq - 3) 0 (s.callOf n)) {w : Window}
    (hw : (s.callOf n).window = some w) : s.afterAdvance n role c k v est = s.setWindow n
      (w.storing 3 role ⟨v, score (s.callOf n).profile v⟩ (s.after (s.callOf n).profile.m)) := by
  obtain ⟨x, b, hx, hb, hdist, hfull⟩ := h.window
  obtain rfl : w = x := Option.some.inj (hw.symm.trans hx)
  have hoffset : (s.callOf n).offset v.seq = 3 := by
    simp only [CallRecord.offset, hw, Option.bind_some, hb, Option.getD_some]
    bv_omega
  have hplaced : s.afterAdvance n role c k v est = s.placeFrame n role 3 v est := by
    rw [State.afterAdvance, if_pos h.state, dif_pos (by omega)]
    congr 1
    exact Fin.ext hoffset
  rw [hplaced]
  refine placeFrame_rests hw role v est hb 3 rfl ?_
  rw [Window.storing, Table.at_put_other _ _ (by decide)]
  exact hfull 0 rfl

/-- R129: the call is back in ACTIVE on the leg of the frame. -/
theorem afterAdvance_active (hs : (s.callOf n).state = .active) (hb : s.bearer c k = .serving n) :
    s.afterAdvance n role c k v est = s.activeFrame n c v := by
  rw [State.afterAdvance, if_neg (by simp [hs]), if_pos ⟨hs, hb⟩]

/-- R129: the bearer of the frame no longer carries the serving leg of an ACTIVE call. -/
theorem afterAdvance_stray (hs : (s.callOf n).state ≠ .bridged)
    (hno : ¬((s.callOf n).state = .active ∧ s.bearer c k = .serving n)) :
    s.afterAdvance n role c k v est = s.stray (.cell c) := by
  rw [State.afterAdvance, if_neg hs, if_neg hno]

/-- R124: a frame of an ACTIVE call that is in order or ahead. -/
theorem activeFrame_ahead {g : Leg} {e : Seq} (hg : (s.callOf n).serving = some g) (he : g.expected = some e)
    (hgap : (v.seq - e).toNat < 128) : s.activeFrame n c v = (s.modCall n fun r =>
      { r with serving := some { g with
          q := updateEstimate (s.callOf n).profile.w (zeroSamples (s.callOf n).profile.w (v.seq - e).toNat g.q)
            (score (s.callOf n).profile v)
          expected := some (v.seq + 1) } }).forward n v := by
  simp only [State.activeFrame, hg, he, if_neg hgap.not_ge]

end

/-! ### The bearer of the frame (R120, R126) -/

section

variable {s : State} {n : Circuit} (role : LegRole) {sl cl : Leg} (hsl : (s.callOf n).serving = some sl)
  (hcl : (s.callOf n).candidate = some cl)

@[simp] theorem modLeg_state (r : CallRecord) (f : Leg → Leg) : (r.modLeg role f).state = r.state := by
  cases role <;> rfl
@[simp] theorem modLeg_window (r : CallRecord) (f : Leg → Leg) : (r.modLeg role f).window = r.window := by
  cases role <;> rfl
@[simp] theorem modLeg_profile (r : CallRecord) (f : Leg → Leg) : (r.modLeg role f).profile = r.profile := by
  cases role <;> rfl

theorem callOf_restartSilence : (s.restartSilence n role).callOf n =
    (s.callOf n).modLeg role fun g => { g with silence := s.after ((s.callOf n).profile.l * 10) } :=
  callOf_modCall_same ..

theorem uplinkFrame_stray {c : CellId} {k : SlotId} (h : s.bearer c k = .free ∨ ∃ n, s.bearer c k = .releasing n)
    (v : Voice) : s.uplinkFrame c k v = s.stray (.cell c) := by
  rcases h with h | ⟨n, h⟩ <;> simp only [State.uplinkFrame, h]

/-- R120, R126: a frame from a leg of a BRIDGED call restarts the leg's silence timer and goes to the merge window. -/
theorem uplinkFrame_bridged {c : CellId} {k : SlotId}
    (hb : s.bearer c k = (match role with | .serving => .serving n | .candidate => .candidate n))
    (hs : (s.callOf n).state = .bridged) (v : Voice) :
    s.uplinkFrame c k v = (s.restartSilence n role).windowFrame n role c k v := by
  cases role <;> simp only [State.uplinkFrame, hb, State.legFrame, hs]

/-- R126, R128: the leg's silence timer restarted, and a window. -/
theorem restartSilence_setWindow (w : Window) : (s.restartSilence n role).setWindow n w = s.modCall n fun r =>
    { r.modLeg role fun g => { g with silence := s.after ((s.callOf n).profile.l * 10) } with window := some w } := by
  rw [State.restartSilence, State.setWindow, modCall_modCall]

include hsl hcl

/-- R126: a restarted silence timer changes no estimate. -/
theorem estimates_restartSilence : ((s.restartSilence n role).callOf n).estimates = (sl.q, cl.q) := by
  rw [callOf_restartSilence]
  cases role <;> simp [CallRecord.modLeg, CallRecord.estimates, hsl, hcl]

end

/-- Settles O23: a frame by its bearer's use, and from a leg of a BRIDGED call by its offset in the window. -/
theorem bridgedUplinkFrameIsPlaced : Obligations.BridgedUplinkFrameIsPlaced := by
  intro s c run f v k hl hj hf hv htag hlevel heard ends stray
  have hof (n : Circuit) : heard.callOf n = s.callOf n := callOf_modUnit ..
  have hbearer : heard.bearer c k = s.bearer c k := bearer_modUnit ..
  have handled {u : State} (hu : heard.uplinkFrame c k v = u) : ends u := hu ▸ uplinkVoice_ends hl hj hf hv htag hlevel
  refine ⟨fun hfree => handled (uplinkFrame_stray (by rwa [hbearer]) v), ?_⟩
  intro n role sl cl win hb hs hsl hcl hw hfull p silence b o own stored restarted
  have hn : (heard.restartSilence n role).callOf n = (s.callOf n).modLeg role fun g => { g with silence } := by
    rw [callOf_restartSilence, hof]; rfl
  have hest : ((heard.restartSilence n role).callOf n).estimates = (sl.q, cl.q) :=
    estimates_restartSilence role (by rw [hof, hsl]) (by rw [hof, hcl])
  have hframe : heard.uplinkFrame c k v = (heard.restartSilence n role).windowFrame n role c k v :=
    uplinkFrame_bridged role (hbearer.trans hb) (by rw [hof, hs]) v
  have hrestarted (w : Window) : (heard.restartSilence n role).setWindow n w = restarted w := by
    rw [restartSilence_setWindow]
    refine modCall_congr ?_
    rw [hof]
    cases role
    · simp only [CallRecord.modLeg, hsl]; rfl
    · simp only [CallRecord.modLeg, hcl]; rfl
  generalize hx : heard.restartSilence n role = x at hn hest hframe hrestarted
  have htime : x.timeBase = s.timeBase := by rw [← hx]; rfl
  have hstate : (x.callOf n).state = .bridged := by rw [hn, modLeg_state, hs]
  have hwindow : (x.callOf n).window = some win := by rw [hn, modLeg_window, hw]
  have hprofile : (x.callOf n).profile = p := by rw [hn, modLeg_profile]
  have hserving : ∃ g, (x.callOf n).serving = some g := by
    rw [hn]
    cases role <;> simp [CallRecord.modLeg, hsl]
  have hcandidate : ∃ g, (x.callOf n).candidate = some g := by
    rw [hn]
    cases role <;> simp [CallRecord.modLeg, hcl]
  have hstored {y : State} (hy : (y.callOf n).profile = p) (ht : y.timeBase = s.timeBase) (w : Window) (i : Fin 4) :
      w.storing i role ⟨v, score (y.callOf n).profile v⟩ (y.after (y.callOf n).profile.m) =
        ⟨w.base, Table.put w.slots i (stored (w.slots.at i))⟩ := by
    rw [hy, State.after, ht]
    cases role <;> rfl
  refine ⟨fun hlate => handled ?_, ?_, ?_⟩
  · rw [hframe, windowFrame_late hwindow role c k rfl hlate, hrestarted]
    rfl
  · intro h m put
    have hwin := hstored hprofile htime ⟨some b, win.slots⟩ ⟨o, h⟩
    refine ⟨fun hheld => handled ?_, fun hnone hrests => handled ?_, fun hnone hzero hboth hnext => handled ?_⟩
    · rw [hframe, windowFrame_held hwindow role c k rfl h hheld, hrestarted]
    · rw [hframe, windowFrame_stored hwindow role c k rfl h hnone hwin ?_, hrestarted]
      rw [Table.at_put]
      split
      · next hzero => exact Bool.eq_false_iff.2 fun e => hrests ⟨(congrArg Fin.val hzero).symm, e⟩
      · exact hfull
    · have hfirst : (⟨o, h⟩ : Fin 4) = 0 := Fin.ext hzero
      rw [hframe, windowFrame_completes hwindow role c k rfl h hnone hwin hstate hserving hcandidate ?_ ?_, hest,
        hrestarted]
      · rw [Table.at_put, if_pos hfirst.symm]; exact hboth
      · rw [Table.at_put, if_neg (by rw [hfirst]; decide)]; exact hnext
  · intro hpast hlate hnext u
    obtain ⟨hadvanced, hkept⟩ :=
      windowFrame_advances hwindow role c k rfl hest hstate hserving hcandidate hpast hlate hnext
    rw [hrestarted, ← hframe] at hadvanced
    rw [hrestarted] at hkept
    refine ⟨fun w hs' hw' => handled ?_, fun g e hs' hb' hg he hgap => handled ?_, fun hs' hno => handled ?_⟩
    · obtain ⟨hdone, hp⟩ := hkept hs'
      rw [hadvanced, afterAdvance_bridged hdone hw', hstored (hp.trans hprofile) (base_emissions ..).timeBase]
      rfl
    · rw [hadvanced, afterAdvance_active hs' hb', activeFrame_ahead hg he hgap]
      rfl
    · rw [hadvanced, afterAdvance_stray hs' hno]
      rfl

end Sys2Proof.Machine
end

section
/-! One update of an estimate (R122): the rounded step, and the range of what it gives. -/

namespace Sys2Proof.Machine

open Sys2Proof

/-- R122: an update gives an estimate of at most 4032, whatever it had and whatever the sample. -/
theorem updateEstimate_le (w q x : Nat) : updateEstimate w q x ≤ Config.qualityMax := by
  simp only [updateEstimate]
  omega

/-- R122: with a weight of at most 16 the rounded step lies between 0 and the whole distance. -/
theorem roundedStep_between {w : Nat} (hw : w ≤ 16) (d : Int) :
    min 0 d ≤ (d * w + 8) / 16 ∧ (d * w + 8) / 16 ≤ max 0 d := by
  have hw' : (w : Int) ≤ 16 := by exact_mod_cast hw
  rcases le_total 0 d with hd | hd
  · have hle : d * w ≤ d * 16 := mul_le_mul_of_nonneg_left hw' hd
    have hge : 0 ≤ d * w := mul_nonneg hd (Int.natCast_nonneg w)
    omega
  · have hge : d * 16 ≤ d * w := mul_le_mul_of_nonpos_left hw' hd
    have hle : d * w ≤ 0 := mul_nonpos_of_nonpos_of_nonneg hd (Int.natCast_nonneg w)
    omega

/-- R122: between two values in range the clamp alters nothing. -/
theorem updateEstimate_eq {w q x : Nat} (hw : w ≤ 16) (hq : q ≤ Config.qualityMax) (hx : x ≤ Config.qualityMax) :
    (updateEstimate w q x : Int) = q + (((x : Int) - q) * w + 8) / 16 := by
  have hstep := roundedStep_between hw ((x : Int) - q)
  simp only [updateEstimate]
  omega

/-- Settles O17: the clamp alters nothing, and the rounded step lies between 0 and the distance to the sample. -/
theorem estimateMovesTowardItsSample : Obligations.EstimateMovesTowardItsSample := by
  intro w q x _ hw hq hx
  have hstep := roundedStep_between hw ((x : Int) - q)
  have heq := updateEstimate_eq hw hq hx
  have hwhole := updateEstimate_eq (w := 16) le_rfl hq hx
  exact ⟨heq, by omega, by omega, by omega⟩

end Sys2Proof.Machine
end

section
/-! A voice frame in range: on the serving leg of an ACTIVE call (R120 to R126), and from the exchange (R134). -/

namespace Sys2Proof.Machine

open Sys2Proof

/-! ### Uplink in ACTIVE -/

section

variable {s : State} {n : Circuit} {c : CellId} {v : Voice} {g : Leg} (hg : (s.callOf n).serving = some g)

include hg

/-- R124: a frame of an ACTIVE call whose leg expects no number yet. -/
theorem activeFrame_first (he : g.expected = none) : s.activeFrame n c v = (s.modCall n fun r =>
    { r with serving := some { g with
        q := updateEstimate (s.callOf n).profile.w g.q (score (s.callOf n).profile v)
        expected := some (v.seq + 1) } }).forward n v := by
  simp only [State.activeFrame, hg, he]

/-- R124: a frame of an ACTIVE call that is late. -/
theorem activeFrame_late {e : Seq} (he : g.expected = some e) (hgap : 128 ≤ (v.seq - e).toNat) :
    s.activeFrame n c v = s.lateDiscard c := by
  simp only [State.activeFrame, hg, he, if_pos hgap]

/-- R126: the serving leg with its silence timer restarted. -/
theorem restartSilence_serving : s.restartSilence n .serving = s.modCall n fun r =>
    { r with serving := some { g with silence := s.after ((s.callOf n).profile.l * 10) } } := by
  rw [State.restartSilence]
  exact modCall_congr (by simp only [CallRecord.modLeg, hg, Option.map_some])

/-- R120, R126: a frame on the bearer that serves an ACTIVE call. -/
theorem uplinkFrame_active {k : SlotId} (hb : s.bearer c k = .serving n) (hs : (s.callOf n).state = .active) :
    s.uplinkFrame c k v = (s.modCall n fun r =>
      { r with serving := some { g with silence := s.after ((s.callOf n).profile.l * 10) } }).activeFrame n c v := by
  rw [← restartSilence_serving hg]
  simp only [State.uplinkFrame, hb, State.legFrame, hs]

end

/-- Settles O22: the leg's silence timer is restarted, and the frame is handled by its sequence number. -/
theorem activeUplinkFrameIsForwarded : Obligations.ActiveUplinkFrameIsForwarded := by
  intro s c run f v k n g hl hj hf hv htag hlevel hb hs hg p heard silence forwarded
  have hof : heard.callOf n = s.callOf n := callOf_modUnit ..
  let restarted : State := heard.modCall n fun r => { r with serving := some { g with silence } }
  have hframe : heard.uplinkFrame c k v = restarted.activeFrame n c v := by
    rw [uplinkFrame_active (g := g) (by rw [hof, hg]) ((bearer_modUnit ..).trans hb) (by rw [hof, hs]), hof]
    rfl
  have hcall : restarted.callOf n = { s.callOf n with serving := some { g with silence } } := by
    rw [callOf_modCall_same, hof]
  have hserving : (restarted.callOf n).serving = some { g with silence } := by rw [hcall]
  have hprofile : (restarted.callOf n).profile = p := by rw [hcall]
  have handled {u : State} (hu : restarted.activeFrame n c v = u) :
      ∃ t, exec (.uplinkVoiceFrame c run) s = .next t ∧ Ends s u t :=
    hu ▸ hframe ▸ uplinkVoice_ends hl hj hf hv htag hlevel
  have hforwarded (q : Nat) : (restarted.modCall n fun r =>
      { r with serving := some { g with q, expected := some (v.seq + 1), silence } }).forward n v = forwarded q := by
    rw [modCall_modCall]
    rfl
  refine ⟨fun he => handled ?_, fun e he => ⟨fun hlate => handled ?_, fun hgap => handled ?_⟩⟩
  · rw [activeFrame_first hserving he, hprofile]
    exact hforwarded _
  · exact activeFrame_late hserving he hlate
  · rw [activeFrame_ahead hserving he hgap, hprofile]
    exact hforwarded _

/-! ### Downlink -/

/-- R134, R142: a downlink frame in range is heard on the exchange link, and goes to the call of its circuit. -/
theorem downlinkVoice_ends {s : State} {run : List Byte} {f : Frame} {v : Voice} {n : Circuit}
    (hl : s.exch.link.state = .down ∨ s.exch.link.state = .up) (hj : judge run = .valid f)
    (hf : f.kind = Kind.voice) (hv : voiceOf f.body = some v) (htag : v.tag.toNat = n.val) :
    ∃ t, exec (.downlinkVoiceFrame run) s = .next t ∧
      Ends s ((s.modUnit .exchange fun x => x.afterArrival s.timeBase).downlink n v) t := by
  refine ends_of ?_
  rw [arrival_eq (l := .exchange) hl hj (by simp [hf]), Option.bind_some, hv, Option.map_some, State.voiceFromExchange,
    finOf_eq htag, received_eq]

/-- R134: a downlink frame for a call that is neither ACTIVE nor BRIDGED. -/
theorem downlink_stray {s : State} {n : Circuit} (ha : (s.callOf n).state ≠ .active)
    (hb : (s.callOf n).state ≠ .bridged) (v : Voice) : s.downlink n v = s.stray .exchange := by
  simp only [State.downlink]
  split
  · next h => exact absurd h ha
  · next h => exact absurd h hb
  all_goals rfl

/-- Settles O25: a copy for each leg that the call's state has, or a stray. -/
theorem downlinkFrameIsCopiedToEachLeg : Obligations.DownlinkFrameIsCopiedToEachLeg := by
  intro s run f v n hl hj hf hv htag u copy
  have hof : u.callOf n = s.callOf n := callOf_modUnit ..
  have handled {w : State} (hw : u.downlink n v = w) :
      ∃ t, exec (.downlinkVoiceFrame run) s = .next t ∧ Ends s w t :=
    hw ▸ downlinkVoice_ends hl hj hf hv htag
  refine ⟨fun g hs hg => handled ?_, fun g h hs hg hh => handled ?_, fun ha hb => handled ?_⟩
  · simp only [State.downlink, hof, hs, hg]
    rfl
  · simp only [State.downlink, hof, hs, hg, hh]
    rfl
  · exact downlink_stray (by rwa [hof]) (by rwa [hof]) v

end Sys2Proof.Machine
end

section
/-! What the ranges of estimates and counters rest on (R122, R60, R147): the legs of the calls, the levels of the messages
that wait, and the counters of the links. -/

namespace Sys2Proof.Machine

open Sys2Proof

/-- The fields that the ranges speak of. -/
structure Gauges where
  calls : Table CallRecord 192
  held : Option Held
  parked : List Parked
  counters : LinkId → LinkCounters

/-- The fields of the block that the ranges speak of. -/
def State.gauges (s : State) : Gauges := ⟨s.call.calls, s.sig.held, s.sig.parked, fun l => (s.unit l).counters⟩

/-! ### Updates that leave them -/

section

variable (s : State)

theorem gauges_of_blocks {s t : State} (hcall : t.call = s.call) (hsig : t.sig = s.sig) (hcells : t.cells = s.cells)
    (hexch : t.exch = s.exch) : t.gauges = s.gauges := by
  have hunit (l : LinkId) : t.unit l = s.unit l := by cases l <;> simp only [State.unit, hcells, hexch]
  simp only [State.gauges, hcall, hsig, hunit]

theorem gauges_modUnit (l : LinkId) {f : LinkUnit → LinkUnit} (h : (f (s.unit l)).counters = (s.unit l).counters) :
    (s.modUnit l f).gauges = s.gauges := by
  have hunit (m : LinkId) : ((s.modUnit l f).unit m).counters = (s.unit m).counters := by
    by_cases hm : m = l
    · subst hm; rw [State.modUnit_unit, h]
    · rw [State.modUnit_unit_other s f hm]
  simp only [State.gauges, State.modUnit_call, State.modUnit_sig, hunit]

theorem gauges_modCell (c : CellId) {f : CellLink → CellLink}
    (h : (f (s.cells.at c)).link.counters = (s.cells.at c).link.counters) : (s.modCell c f).gauges = s.gauges := by
  have hunit (m : LinkId) : ((s.modCell c f).unit m).counters = (s.unit m).counters := by
    cases m with
    | exchange => rfl
    | cell d =>
      by_cases hd : d = c
      · subst hd; simp only [State.unit, State.modCell_at, h]
      · simp only [State.unit, State.modCell_at_other s f hd]
  simp only [State.gauges, State.modCell_call, State.modCell_sig, hunit]

theorem gauges_modExch {f : ExchLink → ExchLink} (h : (f s.exch).link.counters = s.exch.link.counters) :
    (s.modExch f).gauges = s.gauges := by
  have hunit (m : LinkId) : ((s.modExch f).unit m).counters = (s.unit m).counters := by
    cases m with
    | exchange => exact h
    | cell d => rfl
  simp only [State.gauges, State.modExch_call, State.modExch_sig, hunit]

@[simp] theorem gauges_placeSig (c : CellId) (f : Frame) : (s.placeSig c f).gauges = s.gauges := by
  refine gauges_modCell s c ?_
  split
  · split <;> rfl
  · rfl

@[simp] theorem gauges_placeVoice (c : CellId) (f : Frame) : (s.placeVoice c f).gauges = s.gauges := by
  refine gauges_modCell s c ?_
  split
  · split <;> rfl
  · rfl

@[simp] theorem gauges_placeExch (f : Frame) : (s.placeExch f).gauges = s.gauges := by
  refine gauges_modExch s ?_
  split
  · split <;> rfl
  · rfl

@[simp] theorem gauges_capture (k : CaptureKind) (d : CaptureDetail) : (s.capture k d).gauges = s.gauges :=
  gauges_of_blocks (by simp) (by simp) (by simp) (by simp)

@[simp] theorem gauges_setLimit (l : LinkId) (b : Bool) : (s.setLimit l b).gauges = s.gauges :=
  gauges_of_blocks (by simp) (by simp) (by simp) (by simp)

@[simp] theorem gauges_protocolError (l : LinkId) (k : Option SlotId) (h : Option Hid) :
    (s.protocolError l k h).gauges = s.gauges := by
  have hflag : (s.modUnit l LinkUnit.setProtocol).gauges = s.gauges := gauges_modUnit s l rfl
  simp only [State.protocolError]
  split <;> simp [hflag]

@[simp] theorem gauges_judgeAttention (before : State) : (s.judgeAttention before).gauges = s.gauges := by
  have hpin (t : State) : t.setPin.gauges = t.gauges := rfl
  simp only [State.judgeAttention, hpin]
  split <;> simp

@[simp] theorem gauges_touch (h : Hid) : (s.touch h).gauges = s.gauges :=
  gauges_of_blocks (by simp) (by simp) (by simp) (by simp)

@[simp] theorem gauges_changeEntry (h : Hid) (a : RecAddr) (r : Record) : (s.changeEntry h a r).gauges = s.gauges :=
  gauges_of_blocks (by simp) (by simp) (by simp) (by simp)

@[simp] theorem gauges_assignContexts : s.assignContexts.gauges = s.gauges := by
  obtain ⟨_, _, _, h⟩ := assignContexts_eq s
  rw [h]
  rfl

@[simp] theorem gauges_settlePort (before : State) : (s.settlePort before).gauges = s.gauges :=
  have h := samePort_settlePort s before
  gauges_of_blocks h.call h.sig h.cells h.exch

@[simp] theorem gauges_setPort (op : Option PortOp) : (s.setPort op).gauges = s.gauges := rfl
@[simp] theorem gauges_store (a : RecAddr) (r : Record) : (s.store a r).gauges = s.gauges := rfl
@[simp] theorem gauges_written (a : RecAddr) (r : Record) : (s.written a r).gauges = s.gauges := rfl
@[simp] theorem gauges_writtenByOther (a : RecAddr) (r : Record) : (s.writtenByOther a r).gauges = s.gauges := rfl
@[simp] theorem gauges_carry (a : RecAddr) (f : Record → Record) : (s.carry a f).gauges = s.gauges := rfl
@[simp] theorem gauges_setOp (op : MgmtOp) : (s.setOp op).gauges = s.gauges := rfl
@[simp] theorem gauges_setWatch (w : Option Watch) : (s.setWatch w).gauges = s.gauges := rfl
@[simp] theorem gauges_modTables (f : Tables → Tables) : (s.modTables f).gauges = s.gauges := rfl
@[simp] theorem gauges_modAttn (f : Attention → Attention) : (s.modAttn f).gauges = s.gauges := rfl
@[simp] theorem gauges_startSweep (m : SweepMode) (a b : BucketId) : (s.startSweep m a b).gauges = s.gauges := rfl

@[simp] theorem gauges_reportDamaged (h : Hid) (a : Option RecAddr) : (s.reportDamaged h a).gauges = s.gauges :=
  gauges_of_blocks (by simp) (by simp) (by simp) (by simp)

@[simp] theorem gauges_readUnread : s.readUnread.gauges = s.gauges :=
  gauges_of_blocks (by simp) (by simp) (by simp) (by simp)

@[simp] theorem gauges_reply (q : MgmtRequest) (o : MgmtOutcome) (d : List Byte) : (s.reply q o d).gauges = s.gauges :=
  gauges_placeExch { s with mgmt := { s.mgmt with queue := s.mgmt.queue.tail, op := none } } _

@[simp] theorem gauges_finish (o : MgmtOutcome) (d : List Byte) : (s.finish o d).gauges = s.gauges := by
  simp only [State.finish]
  split
  · exact gauges_reply s _ o d
  · rfl

@[simp] theorem gauges_reportWrite (hids : List Hid) : (s.reportWrite hids).gauges = s.gauges :=
  gauges_assignContexts _

@[simp] theorem gauges_searchDone (c : ContextId) (h : Hid) (found : Bool) :
    (s.searchDone c h found).gauges = s.gauges := gauges_assignContexts _

@[simp] theorem gauges_startFormat : s.startFormat.gauges = s.gauges := by
  rw [State.startFormat, gauges_setWatch, gauges_assignContexts]
  rfl

@[simp] theorem gauges_sweepWritten (m : SweepMode) (b l : BucketId) (i : Table Record 4) (todo : List SweepWrite) :
    (s.sweepWritten m b l i todo).gauges = s.gauges :=
  have h := samePort_sweepWritten s m b l i todo
  gauges_of_blocks h.call h.sig h.cells h.exch

@[simp] theorem gauges_sendQueued (l : LinkId) : (s.sendQueued l).gauges = s.gauges := by
  simp only [State.sendQueued]
  split
  · cases l with
    | cell c =>
      refine gauges_modCell s c ?_
      simp only [CellLink.sendQueued]
      split
      · split <;> rfl
      · split <;> rfl
      · rfl
    | exchange =>
      refine gauges_modExch s ?_
      simp only [ExchLink.sendQueued]
      split <;> rfl
  · rfl

@[simp] theorem gauges_sent (l : LinkId) : (s.sent l).gauges = s.gauges := by
  have hsent (u : LinkUnit) : (u.sent s.timeBase).counters = u.counters := by
    simp only [LinkUnit.sent]
    split <;> rfl
  cases l with
  | cell c => exact gauges_modCell s c (hsent _)
  | exchange => exact gauges_modExch s (hsent _)

@[simp] theorem gauges_sendFill (l : LinkId) : (s.sendFill l).gauges = s.gauges := by
  simp only [State.sendFill]
  split
  · exact gauges_modUnit s l rfl
  · rfl

@[simp] theorem gauges_sendTest (c : CellId) : (s.modCell c CellLink.sendTest).gauges = s.gauges := by
  refine gauges_modCell s c ?_
  simp only [CellLink.sendTest]
  split <;> rfl

@[simp] theorem gauges_heard (l : LinkId) : (s.heard l).gauges = s.gauges := gauges_modUnit s l rfl

@[simp] theorem gauges_takeFrame (l : LinkId) : (s.takeFrame l).gauges = s.gauges :=
  gauges_modUnit s l (f := fun u => { u with rxFifo := u.rxFifo.tail }) rfl

end

/-! ### Completions and arrivals that leave them -/

section

variable {s u : State}

theorem gauges_flagRun {l : LinkId} {run : List Byte} (h : s.flagRun l run = some u) : u.gauges = s.gauges := by
  simp only [State.flagRun] at h
  split at h <;> cases h <;> exact gauges_modUnit s l rfl

theorem gauges_readHeader (s : State) (body : List Byte) : (s.readHeader body).gauges = s.gauges := by
  simp only [State.readHeader, State.offerRequest]
  split
  · split
    · rfl
    · exact gauges_placeExch ..
  · exact gauges_protocolError ..

theorem gauges_discardMalformed (h : s.discardMalformed = some u) : u.gauges = s.gauges := by
  simp only [State.discardMalformed] at h
  split at h
  · split at h <;> cases h
    simp
  · cases h

theorem gauges_completeSearchRead (h : s.completeSearchRead = some u) : u.gauges = s.gauges := by
  simp only [State.completeSearchRead] at h
  split at h
  · split at h <;> cases h
    · simp only [State.searchRead]
      split
      · rfl
      · split
        · rfl
        · split
          · exact gauges_searchDone ..
          · simp
    · rfl
  · cases h

theorem gauges_completeWriteThrough (h : s.completeWriteThrough = some u) : u.gauges = s.gauges := by
  simp only [State.completeWriteThrough] at h
  split at h <;> cases h
  rfl

theorem gauges_mgmtRead (s : State) (op : MgmtOp) (scan : Scan) : (s.mgmtRead op scan).gauges = s.gauges := by
  simp only [State.mgmtRead, State.mgmtFound, State.mgmtNotFound]
  split
  · split <;> simp
  · rfl
  · split
    · split <;> simp
    all_goals simp
  · rfl

theorem gauges_completeMgmtRead (h : s.completeMgmtRead = some u) : u.gauges = s.gauges := by
  simp only [State.completeMgmtRead] at h
  split at h
  · split at h <;> cases h
    · exact gauges_mgmtRead ..
    · rfl
  · cases h

theorem gauges_completeMgmtWrite (h : s.completeMgmtWrite = some u) : u.gauges = s.gauges := by
  simp only [State.completeMgmtWrite] at h
  split at h <;> cases h
  rw [gauges_finish, gauges_reportWrite]
  split <;> rfl

theorem gauges_completeEmptyWrite (h : s.completeEmptyWrite = some u) : u.gauges = s.gauges := by
  simp only [State.completeEmptyWrite] at h
  split at h <;> cases h
  rw [gauges_finish, gauges_reportWrite]
  rfl

theorem gauges_completeFormatWrite (h : s.completeFormatWrite = some u) : u.gauges = s.gauges := by
  simp only [State.completeFormatWrite] at h
  split at h <;> cases h
  rfl

theorem gauges_completeSweepRead (h : s.completeSweepRead = some u) : u.gauges = s.gauges := by
  simp only [State.completeSweepRead] at h
  split at h
  · split at h <;> cases h
    · simp only [State.sweepRead]
      split
      · rw [gauges_sweepWritten]; rfl
      · rfl
    · rfl
  · cases h

theorem gauges_completeSweepWrite (h : s.completeSweepWrite = some u) : u.gauges = s.gauges := by
  simp only [State.completeSweepWrite] at h
  split at h
  · split at h <;> cases h
    · simp
    · rfl
  · cases h

theorem gauges_completeOrphan (h : s.completeOrphan = some u) : u.gauges = s.gauges := by
  simp only [State.completeOrphan] at h
  split at h <;> cases h <;> rfl

end

/-! ### The ranges -/

/-- R122: an estimate within 0 to 4032, of a leg if there is one. -/
def legRated (g : Option Leg) : Prop := ∀ x, g = some x → x.q ≤ Config.qualityMax

@[simp] theorem legRated_none : legRated none := fun _ h => nomatch h
@[simp] theorem legRated_some (g : Leg) : legRated (some g) ↔ g.q ≤ Config.qualityMax := by simp [legRated]

theorem legRated.map {g : Option Leg} {f : Leg → Leg} (h : legRated g) (hf : ∀ x, (f x).q = x.q) :
    legRated (g.map f) := by
  intro x hx
  obtain ⟨y, hy, rfl⟩ := Option.map_eq_some_iff.1 hx
  rw [hf]
  exact h y hy

/-- R122: the estimates of a call. -/
structure CallRecord.Rated (r : CallRecord) : Prop where
  serving : legRated r.serving
  candidate : legRated r.candidate

theorem CallRecord.rated_free (p : Profile) : (CallRecord.free p).Rated := ⟨legRated_none, legRated_none⟩

/-- R122: the estimates of every call. -/
def State.Rated (s : State) : Prop := ∀ n, (s.callOf n).Rated

/-- R43: the levels of the messages that wait. -/
structure State.LevelsOk (s : State) : Prop where
  held : ∀ m, s.sig.held = some m → m.msg.levelOk = true
  parked : ∀ m ∈ s.sig.parked, m.msg.levelOk = true

theorem estimatesOk_iff (s : State) : s.EstimatesOk ↔ s.Rated ∧ s.LevelsOk :=
  ⟨fun h => ⟨fun n => ⟨h.serving n, h.candidate n⟩, h.held, h.parked⟩,
    fun ⟨h, k⟩ => ⟨fun n => (h n).serving, fun n => (h n).candidate, k.held, k.parked⟩⟩

theorem countersOk_same {s t : State} (h : t.gauges = s.gauges) (hs : s.CountersOk) : t.CountersOk := fun l => by
  have hunit : (t.unit l).counters = (s.unit l).counters := congrArg (fun g => g.counters l) h
  exact hunit ▸ hs l

/-- Every estimate and counter in range in `s` is in range in `t`; the estimates where `ok` holds. -/
structure Keeps (ok : Prop) (s t : State) : Prop where
  estimates : ok → s.EstimatesOk → t.EstimatesOk
  counters : s.CountersOk → t.CountersOk

namespace Keeps

variable {ok : Prop} {s t u : State}

theorem same (h : t.gauges = s.gauges) : Keeps ok s t where
  estimates _ hs := by
    have hcall (n : Circuit) : t.callOf n = s.callOf n := congrArg (fun g => g.calls.at n) h
    have hheld : t.sig.held = s.sig.held := congrArg Gauges.held h
    have hparked : t.sig.parked = s.sig.parked := congrArg Gauges.parked h
    exact ⟨fun n => hcall n ▸ hs.serving n, fun n => hcall n ▸ hs.candidate n, hheld ▸ hs.held, hparked ▸ hs.parked⟩
  counters := countersOk_same h

theorem refl (s : State) : Keeps ok s s := same rfl

theorem trans (h : Keeps ok s t) (k : Keeps ok t u) : Keeps ok s u :=
  ⟨fun hok hs => k.estimates hok (h.estimates hok hs), k.counters ∘ h.counters⟩

/-- What `ok` asks for may follow from the levels that wait. -/
theorem known {ok' : Prop} (hok : s.EstimatesOk → ok) (h : Keeps ok s t) : Keeps ok' s t :=
  ⟨fun _ hs => h.estimates (hok hs) hs, h.counters⟩

end Keeps

/-! ### Counters (R147) -/

theorem countersOk_modUnit {s : State} (hs : s.CountersOk) (l : LinkId) {f : LinkUnit → LinkUnit}
    (hf : (s.unit l).counters.Ok → (f (s.unit l)).counters.Ok) : (s.modUnit l f).CountersOk := by
  intro m
  by_cases hm : m = l
  · subst hm; rw [State.modUnit_unit]; exact hf (hs m)
  · rw [State.modUnit_unit_other s f hm]; exact hs m

theorem countUp_le (n : Nat) : countUp n ≤ Config.counterMax := Nat.min_le_right ..

theorem LinkUnit.countReceived_ok {u : LinkUnit} (h : u.counters.Ok) : u.countReceived.counters.Ok :=
  { h with received := countUp_le _ }
theorem LinkUnit.countStray_ok {u : LinkUnit} (h : u.counters.Ok) : u.countStray.counters.Ok :=
  { h with strays := countUp_le _ }
theorem LinkUnit.countLate_ok {u : LinkUnit} (h : u.counters.Ok) : u.countLate.counters.Ok :=
  { h with late := countUp_le _ }
theorem LinkUnit.countLooped_ok {u : LinkUnit} (h : u.counters.Ok) : u.countLooped.counters.Ok :=
  { h with looped := countUp_le _ }

theorem LinkCounters.zero_ok : LinkCounters.zero.Ok := ⟨Nat.zero_le _, Nat.zero_le _, Nat.zero_le _, Nat.zero_le _⟩

/-- Counting on a link touches no estimate. -/
theorem keeps_modUnit {ok : Prop} (s : State) (l : LinkId) {f : LinkUnit → LinkUnit}
    (hf : (s.unit l).counters.Ok → (f (s.unit l)).counters.Ok) : Keeps ok s (s.modUnit l f) where
  estimates _ hs := by
    refine ⟨fun n => ?_, fun n => ?_, ?_, ?_⟩
    · rw [callOf_modUnit]; exact hs.serving n
    · rw [callOf_modUnit]; exact hs.candidate n
    · rw [State.modUnit_sig]; exact hs.held
    · rw [State.modUnit_sig]; exact hs.parked
  counters hs := countersOk_modUnit hs l hf

/-- What the operations on calls keep whatever becomes of the Call Table: the Signalling Processor as it is, and every
counter in range. -/
structure CallsOnly (s t : State) : Prop where
  sig : t.sig = s.sig
  counters : s.CountersOk → t.CountersOk

theorem CallsOnly.same {s t u : State} (h : CallsOnly s t) (hsig : u.sig = t.sig) (hg : u.gauges = t.gauges) :
    CallsOnly s u := ⟨hsig.trans h.sig, fun hs => countersOk_same hg (h.counters hs)⟩

theorem CallsOnly.count {s t : State} (h : CallsOnly s t) (l : LinkId) {f : LinkUnit → LinkUnit}
    (hf : (t.unit l).counters.Ok → (f (t.unit l)).counters.Ok) : CallsOnly s (t.modUnit l f) :=
  ⟨(State.modUnit_sig ..).trans h.sig, fun hs => countersOk_modUnit (h.counters hs) l hf⟩

theorem closed_callsOnly (s : State) : Closed (CallsOnly s) where
  call _ h := ⟨h.sig, h.counters⟩
  sig _ _ h := h.same (State.placeSig_sig ..) (gauges_placeSig ..)
  voice _ _ h := h.same (State.placeVoice_sig ..) (gauges_placeVoice ..)
  exch _ h := h.same (State.placeExch_sig ..) (gauges_placeExch ..)
  capture _ _ h := h.same (State.capture_sig ..) (gauges_capture ..)
  stray l h := h.count l LinkUnit.countStray_ok
  late _ h := h.count _ LinkUnit.countLate_ok
  report c _ h := h.same (State.modCell_sig ..) (gauges_modCell _ c rfl)

theorem CallsOnly.refl (s : State) : CallsOnly s s := ⟨rfl, id⟩

/-- An operation on calls that keeps the estimates in range. -/
theorem CallsOnly.keeps {ok : Prop} {s t : State} (h : CallsOnly s t) (hr : ok → s.Rated → t.Rated) : Keeps ok s t where
  estimates hok hs := by
    obtain ⟨hrated, hlevels⟩ := (estimatesOk_iff s).1 hs
    exact (estimatesOk_iff t).2 ⟨hr hok hrated, h.sig ▸ hlevels.held, h.sig ▸ hlevels.parked⟩
  counters := h.counters

end Sys2Proof.Machine
end

section
/-! The operations on calls keep every estimate in range: a leg keeps its estimate, takes one from an update (R122), or is
made from a level of at most 63 (R60). -/

namespace Sys2Proof.Machine

open Sys2Proof

theorem newLeg_rated (s : State) (c : CellId) (k : SlotId) {level : Nat} (h : level ≤ 63) (l : Nat) :
    (s.newLeg c k level l).q ≤ Config.qualityMax := Nat.mul_le_mul_left 64 h

/-- R131, R132: an emission moves an estimate by an update. -/
theorem Leg.emitted_rated (g : Leg) (w : Nat) (f : Option StoredFrame) : (g.emitted w f).q ≤ Config.qualityMax := by
  cases f <;> exact updateEstimate_le ..

namespace State.Rated

variable {s : State} (h : s.Rated)

include h

theorem of_call {t : State} (ht : t.call = s.call) : t.Rated := fun n => by
  rw [State.callOf, ht]
  exact h n

theorem of_calls {t : State} (ht : ∀ n, t.callOf n = s.callOf n) : t.Rated := fun n => by
  rw [ht]
  exact h n

variable (n : Circuit)

theorem modCall {f : CallRecord → CallRecord} (hf : (f (s.callOf n)).Rated) : (s.modCall n f).Rated := by
  intro m
  by_cases hm : m = n
  · subst hm; rwa [callOf_modCall_same]
  · rw [callOf_modCall_other s f hm]; exact h m

theorem serving {g : Leg} (hg : (s.callOf n).serving = some g) : g.q ≤ Config.qualityMax := (h n).serving g hg
theorem candidate {g : Leg} (hg : (s.callOf n).candidate = some g) : g.q ≤ Config.qualityMax := (h n).candidate g hg

/-! ### Calls and bearers -/

theorem setBearer (c : CellId) (k : SlotId) (b : Bearer) : (s.setBearer c k b).Rated :=
  h.of_calls fun _ => callOf_setBearer ..

theorem freeReleasing : (s.freeReleasing n).Rated := h
theorem freeReleasingAt (c : CellId) : (s.freeReleasingAt c).Rated := h
theorem sortFreed (l : List Circuit) : (s.sortFreed l).Rated := h

theorem toFree : (s.toFree n).Rated := by
  simp only [State.toFree]
  split
  · exact h
  · exact h.modCall n (f := fun r => .free r.profile) (CallRecord.rated_free _)

theorem leaveClearing : (s.leaveClearing n).Rated := by
  simp only [State.leaveClearing]
  split
  · exact h.toFree n
  · exact h

theorem loseCall : (s.loseCall n).Rated := (h.of_calls (t := (s.placeExch _).capture _ _) fun _ => by simp).toFree n

theorem enterHolding (g : Leg) (b : CallState) (q : Nat) (qc : Option Nat) : (s.enterHolding n g b q qc).Rated := by
  have hheld := (h.freeReleasing n).modCall n (f := (CallRecord.heldBare · g)) ⟨legRated_none, legRated_none⟩
  have hreported (d : CaptureDetail) := hheld.of_call (State.capture_call _ .legLost d)
  simp only [State.enterHolding]
  split
  · exact (hreported _).loseCall n
  · exact (hreported _).modCall n ⟨(hreported _ n).serving, (hreported _ n).candidate⟩

theorem releaseLeg (g : Leg) : (s.releaseLeg n g).Rated := h.of_calls fun _ => callOf_releaseLeg ..

theorem releaseLeg? (g : Option Leg) : (s.releaseLeg? n g).Rated := h.of_calls fun _ => callOf_releaseLeg? ..

theorem enterClearing : (s.enterClearing n).Rated :=
  (((h.releaseLeg? n _).releaseLeg? n _).modCall n ⟨legRated_none, legRated_none⟩).leaveClearing n

theorem endCircuit : (s.endCircuit n).Rated := by
  simp only [State.endCircuit]
  split
  · exact h
  · exact h
  · exact h.toFree n
  all_goals exact h.enterClearing n

theorem forceClear : (s.forceClear n).Rated := by
  simp only [State.forceClear]
  split
  · exact (h.endCircuit n).of_call (State.placeExch_call ..)
  · exact h

theorem foldl {α : Type} {f : State → α → State} (hf : ∀ {s : State} x, s.Rated → (f s x).Rated) (l : List α) :
    (l.foldl f s).Rated := by
  induction l generalizing s with
  | nil => exact h
  | cons x l ih => exact ih (hf x h)

/-! ### Bridges and legs -/

theorem keepLeg {g : Leg} (hg : g.q ≤ Config.qualityMax) : (s.keepLeg n g).Rated :=
  (h.setBearer _ _ _).modCall n ⟨(legRated_some _).2 hg, legRated_none⟩

theorem captureBridge (k : CaptureKind) (g : Leg) (est : Nat × Nat) : (s.captureBridge k n g est).Rated :=
  h.of_call (State.capture_call ..)

section

variable {sl cl : Leg}

theorem commit (hcl : cl.q ≤ Config.qualityMax) : (s.commit n sl cl).Rated := (h.releaseLeg n sl).keepLeg n hcl

theorem commitByLoss (hcl : cl.q ≤ Config.qualityMax) (est : Nat × Nat) : (s.commitByLoss n sl cl est).Rated :=
  ((h.captureBridge n .legLost sl est).setBearer _ _ _).keepLeg n hcl

theorem abandonByLoss (hsl : sl.q ≤ Config.qualityMax) (est : Nat × Nat) : (s.abandonByLoss n sl cl est).Rated :=
  ((h.captureBridge n .handoverAbandoned cl est).setBearer _ _ _).keepLeg n hsl

theorem abandonByExpiry (hsl : sl.q ≤ Config.qualityMax) : (s.abandonByExpiry n sl cl).Rated :=
  ((h.captureBridge n .handoverAbandoned cl _).releaseLeg n cl).keepLeg n hsl

theorem loseBoth (est : Nat × Nat) : (s.loseBoth n sl cl est).Rated :=
  ((h.setBearer _ _ _).setBearer _ _ _).enterHolding n sl _ _ _

end

theorem loseLegs (a b : Bool) : (s.loseLegs n a b).Rated := by
  simp only [State.loseLegs]
  split
  · split
    · exact (h.setBearer _ _ _).enterHolding n _ _ _ _
    · exact h
  · next hsl hcl =>
    split
    · exact h.loseBoth n _
    · exact h.commitByLoss n (h.candidate n hcl) _
    · exact h.abandonByLoss n (h.serving n hsl) _
    · exact h
  · exact h

theorem freeBearer (c : CellId) (k : SlotId) : (s.freeBearer c k).Rated := by
  simp only [State.freeBearer]
  split
  · exact h
  · exact h.loseLegs _ _ _
  · exact h.loseLegs _ _ _
  · exact (h.setBearer _ _ _).leaveClearing _

theorem bridgeExpired : (s.bridgeExpired n).Rated := by
  simp only [State.bridgeExpired]
  split
  · next hsl hcl =>
    split
    · exact h.commit n (h.candidate n hcl)
    · exact h.abandonByExpiry n (h.serving n hsl)
  · exact h

theorem cellLost (c : CellId) : (s.cellLost c).Rated :=
  (((h.foldl (f := State.loseLegsAt c) (fun n h => h.loseLegs n _ _) _).freeReleasingAt c).foldl
    (fun n h => h.leaveClearing n) _).sortFreed _

theorem exchLost : s.exchLost.Rated := by
  have he := h.foldl (fun n h => h.endCircuit n) (ascending 192)
  simp only [State.exchLost]
  split
  · exact he.of_call (State.capture_call ..)
  · exact he

/-! ### Voice -/

theorem activeFrame (c : CellId) (v : Voice) : (s.activeFrame n c v).Rated := by
  have moved (g : Leg) (w q x : Nat) (expected : Option Seq) : ((s.modCall n fun r =>
      { r with serving := some { g with q := updateEstimate w q x, expected } }).forward n v).Rated :=
    (h.modCall n ⟨(legRated_some _).2 (updateEstimate_le ..), (h n).candidate⟩).of_call (State.placeExch_call ..)
  simp only [State.activeFrame]
  split
  · exact h
  · split
    · exact moved _ _ _ _ _
    · split
      · exact h.of_call (State.lateDiscard_call ..)
      · exact moved _ _ _ _ _

theorem evaluate : (s.evaluate n).Rated := by
  cases hsl : (s.callOf n).serving with
  | none => simpa only [State.evaluate, hsl] using h
  | some sl =>
    cases hcl : (s.callOf n).candidate with
    | none => simpa only [State.evaluate, hsl, hcl] using h
    | some cl =>
      rw [evaluate_eq hsl hcl]
      split
      · exact h.commit n (h.candidate n hcl)
      · exact h.modCall n ⟨(h n).serving, (h n).candidate⟩

theorem emit (est : Nat × Nat) : (s.emit n est).Rated := by
  cases hsl : (s.callOf n).serving with
  | none => simpa only [State.emit, hsl] using h
  | some sl =>
    cases hcl : (s.callOf n).candidate with
    | none => simpa only [State.emit, hsl, hcl] using h
    | some cl =>
      cases hw : (s.callOf n).window with
      | none => simpa only [State.emit, hsl, hcl, hw] using h
      | some win =>
        have hsl' := Leg.emitted_rated sl (s.callOf n).profile.w (win.slots.at 0).serving
        have hcl' := Leg.emitted_rated cl (s.callOf n).profile.w (win.slots.at 0).candidate
        have hu : (s.emitted n sl cl win).Rated := (h.of_call (forwardSlot_call ..)).modCall n
          ⟨(legRated_some _).2 hsl', (legRated_some _).2 hcl'⟩
        rw [emit_eq hsl hcl hw]
        split
        · exact hu.loseBoth n est
        · exact hu.commitByLoss n hcl' est
        · exact hu.abandonByLoss n hsl' est
        · exact hu.evaluate n

theorem emitUntil (est : Nat × Nat) (goal : Seq) (fuel : Nat) : (State.emitUntil n est goal fuel s).Rated := by
  induction fuel generalizing s with
  | zero => exact h
  | succ fuel ih =>
    simp only [State.emitUntil]
    split
    · exact ih (h.emit n est)
    · exact h

/-- R127: whatever becomes of the merge window. -/
theorem rewindow (f : CallRecord → Option Window) : (s.modCall n fun r => { r with window := f r }).Rated :=
  h.modCall n ⟨(h n).serving, (h n).candidate⟩

theorem placeFrame (role : LegRole) (o : Fin 4) (v : Voice) (est : Nat × Nat) : (s.placeFrame n role o v est).Rated := by
  simp only [State.placeFrame]
  split
  · exact h
  · exact (h.rewindow n fun _ => _).emitUntil n _ _ _

theorem afterAdvance (role : LegRole) (c : CellId) (k : SlotId) (v : Voice) (est : Nat × Nat) :
    (s.afterAdvance n role c k v est).Rated := by
  simp only [State.afterAdvance]
  split
  · split
    · exact h.placeFrame n _ _ _ _
    · exact h
  · split
    · exact h.activeFrame n _ _
    · exact h.of_call (State.stray_call ..)

theorem windowFrame (role : LegRole) (c : CellId) (k : SlotId) (v : Voice) : (s.windowFrame n role c k v).Rated := by
  have hu : (s.basedOn n v.seq).Rated := h.rewindow n _
  rcases windowFrame_cases s n role c k v with e | e | ⟨o, e⟩ | ⟨-, -, e⟩ <;> rw [e]
  · exact hu.of_call (State.lateDiscard_call ..)
  · exact hu
  · exact hu.placeFrame n _ _ _ _
  · exact (hu.emitUntil n _ _ _).afterAdvance n _ _ _ _ _

theorem restartSilence (role : LegRole) : (s.restartSilence n role).Rated := by
  cases role with
  | serving => exact h.modCall n ⟨(h n).serving.map fun _ => rfl, (h n).candidate⟩
  | candidate => exact h.modCall n ⟨(h n).serving, (h n).candidate.map fun _ => rfl⟩

theorem legFrame (role : LegRole) (c : CellId) (k : SlotId) (v : Voice) : (s.legFrame n role c k v).Rated := by
  simp only [State.legFrame]
  split
  · exact (h.restartSilence n _).activeFrame n _ _
  · exact (h.restartSilence n _).windowFrame n _ _ _ _
  · exact h.of_call (State.stray_call ..)

theorem uplinkFrame (c : CellId) (k : SlotId) (v : Voice) : (s.uplinkFrame c k v).Rated := by
  simp only [State.uplinkFrame]
  split
  · exact h.legFrame _ _ _ _ _
  · exact h.legFrame _ _ _ _ _
  all_goals exact h.of_call (State.stray_call ..)

/-! ### SEIZE -/

theorem bind (f : CallRecord → CallRecord) (hf : (f (s.callOf n)).Rated) (z : Seize) (b : Bearer) :
    (((s.modCall n f).setBearer z.cell z.slot b).grantSeize z).Rated :=
  ((h.modCall n hf).setBearer _ _ _).of_call (State.placeSig_call ..)

section

variable {z : Seize} (hz : z.level ≤ 63)

theorem deny (z : Seize) (x : DenyReason) : (s.deny z x).state.Rated := h.of_call (State.placeSig_call ..)

include hz

theorem seizeForOrigin (r : Option Record) : (s.seizeForOrigin z r).state.Rated := by
  have accepted (r : Record) (n : Circuit) : (s.acceptOrigin z r n).Rated :=
    (State.Rated.bind (s := { s with call := { s.call with freeQueue := s.call.freeQueue.tail } }) h n _
      ⟨(legRated_some _).2 (newLeg_rated s _ _ hz _), legRated_none⟩ z _).of_call (State.placeExch_call ..)
  simp only [State.seizeForOrigin]
  split
  · exact h.deny z _
  · split
    · exact h.deny z _
    · split
      · exact h.deny z _
      · split
        · exact h.deny z _
        · split
          · split
            · exact accepted _ _
            · exact h.deny z _
          · exact h.deny z _

theorem seizeForAnswer : (s.seizeForAnswer z).state.Rated := by
  simp only [State.seizeForAnswer]
  split
  · next n _ =>
    split
    · exact (h.bind n _ ⟨(legRated_some _).2 (newLeg_rated s _ _ hz _), (h n).candidate⟩ z _).of_call
        (State.placeExch_call ..)
    · exact h.deny z _
  · exact h.deny z _

theorem seizeForMoveIn : (s.seizeForMoveIn z).state.Rated := by
  simp only [State.seizeForMoveIn]
  split
  · exact h.deny z _
  · next n _ =>
    split
    · exact h.deny z _
    · simp only [State.reenter]
      split
      · exact h.deny z _
      · exact h.bind n _ ⟨(legRated_some _).2 (newLeg_rated s _ _ hz _), (h n).candidate⟩ z _
    · simp only [State.testMoveIn]
      split
      · exact h.deny z _
      · split
        · exact h.bind n _ ⟨(h n).serving.map (f := fun g => { g with miss := 0 }) fun _ => rfl,
            (legRated_some _).2 (newLeg_rated s _ _ hz _)⟩ z _
        · exact h.deny z _
    · exact h.deny z _

end

theorem seizeWith (z : Seize) (r : Option Record) {purpose : State → Handled}
    (hp : ∀ {u : State}, u.Rated → (purpose u).state.Rated) : (s.seizeWith z r purpose).state.Rated := by
  simp only [State.seizeWith]
  split
  · exact hp (h.freeBearer _ _)
  · exact h.of_call (State.stray_call ..)

/-! ### Pages -/

theorem beginStage (g : PageStage) (l : List CellId) (ms : Nat) {o : State} (ho : o.Rated) :
    (s.beginStage n g l ms o).Rated := by
  simp only [State.beginStage]
  split
  · exact ho
  · have hsummoned (l : List CellId) : (s.summon n l).Rated := h.of_call (summon_call ..)
    exact (hsummoned _).modCall n ⟨(hsummoned _ n).serving, (hsummoned _ n).candidate⟩

theorem pageUnanswered : (s.pageUnanswered n).Rated :=
  (h.of_call (t := s.placeExch _) (State.placeExch_call ..)).toFree n
theorem stage3 : (s.stage3 n).Rated := h.beginStage n _ _ _ (h.pageUnanswered n)
theorem stage2 : (s.stage2 n).Rated := h.beginStage n _ _ _ (h.stage3 n)
theorem stage1 : (s.stage1 n).Rated := h.beginStage n _ _ _ (h.stage2 n)

theorem stageExpired : (s.stageExpired n).Rated := by
  simp only [State.stageExpired]
  split
  · exact h.stage2 n
  · exact h.stage3 n
  · exact h.pageUnanswered n
  · exact h

theorem offered (g : Hid) (r : Option Record) : (s.offered n g r).Rated := by
  have refused (x : EndedCause) : (s.placeExch (endedFrame n x)).Rated := h.of_call (State.placeExch_call ..)
  have accepted (r : Record) : (s.acceptOffer n g r).Rated :=
    (State.Rated.modCall (s := { s with call := { s.call with freeQueue := s.call.freeQueue.filter (· ≠ n) } }) h n
      ⟨legRated_none, legRated_none⟩).stage1 n
  simp only [State.offered]
  split
  · split
    · exact refused _
    · split
      · exact refused _
      · split
        · exact refused _
        · split
          · exact refused _
          · exact accepted _
  · exact h

/-! ### Messages -/

theorem vacated (c : CellId) (k : SlotId) : (s.vacated c k).Rated := by
  simp only [State.vacated]
  split
  · exact h.of_call (State.stray_call ..)
  · exact h.freeBearer _ _

theorem reported (c : CellId) (r : CellReport) : (s.reported c r).Rated := by
  simp only [State.reported]
  split
  · exact h
  · exact State.Rated.foldl (s := s.modCell c _) h (fun n h => h.loseLegs n _ _) _

theorem seize {m : Msg} (hm : m.levelOk = true) (l : LinkId) (r : Option Record) :
    (actSeizeOrigin s l m r).state.Rated ∧ (actSeizeAnswer s l m r).state.Rated ∧
      (actSeizeMoveIn s l m r).state.Rated := by
  simp only [actSeizeOrigin, actSeizeAnswer, actSeizeMoveIn]
  split
  · next k g _ level =>
    have hz : level ≤ 63 := of_decide_eq_true hm
    exact ⟨h.seizeWith _ _ fun h => h.seizeForOrigin hz _, h.seizeWith _ _ fun h => h.seizeForAnswer hz,
      h.seizeWith _ _ fun h => h.seizeForMoveIn hz⟩
  · exact ⟨h, h, h⟩

/-- Acting on any message whose level, if it has one, is in range. -/
theorem actOf {m : Msg} (hm : m.levelOk = true) (l : LinkId) (r : Option Record) :
    (Machine.actOf m s l m r).state.Rated := by
  have hseize := h.seize hm l r
  cases m with
  | enrol =>
    simp only [Machine.actOf, actEnrol]; split
    · exact h.of_call (enrolAt_call ..)
    · exact h
  | camp =>
    simp only [Machine.actOf, actCamp]; split
    · exact h.of_call (campAt_call ..)
    · exact h
  | retire => exact h
  | seize k g purpose level =>
    obtain ⟨horigin, hanswer, hmoveIn⟩ := hseize
    cases purpose with
    | origin => exact horigin
    | answer => exact hanswer
    | moveIn => exact hmoveIn
  | offer n g => exact h.offered n g r
  | vacate k =>
    simp only [Machine.actOf, actVacate]; split
    · exact h.vacated _ _
    · exact h
  | stateReport =>
    simp only [Machine.actOf, actState]; split
    · exact h.reported _ _
    · exact h
  | relayFromCell =>
    simp only [Machine.actOf, actRelayFromCell]; split
    · exact h.of_call (relayUp_call ..)
    · exact h
  | endCall n => exact h.endCircuit n
  | relayFromExchange n p => exact h.of_call (relayDown_call ..)

end State.Rated

end Sys2Proof.Machine
end

section
/-! Every event keeps the estimates and counters in range: messages, arrivals, timers, requests and the two resets. -/

namespace Sys2Proof.Machine

open Sys2Proof

/-! ### The levels of messages (R43) -/

theorem levelOf_le {b : Byte} {n : Nat} (h : levelOf b = some n) : n ≤ 63 := by
  simp only [levelOf] at h
  split at h
  · next hb => cases h; exact hb
  · cases h

theorem levelOk_map {α : Type} {o : Option α} {make : α → Msg} {m : Msg} (hmake : ∀ x, (make x).levelOk = true)
    (h : o.map make = some m) : m.levelOk = true := by
  obtain ⟨x, -, rfl⟩ := Option.map_eq_some_iff.1 h
  exact hmake x

section

variable {body : List Byte} {m : Msg}

theorem parseEnrol_levelOk (h : parseEnrol body = some m) : m.levelOk = true := by
  simp only [parseEnrol] at h
  split at h
  · simp only [Option.bind_eq_bind, Option.bind_eq_some_iff, pure, Option.some.injEq] at h
    obtain ⟨_, -, _, -, rfl⟩ := h
    rfl
  · cases h

theorem parseHidOnly_levelOk {make : Hid → Msg} (hmake : ∀ x, (make x).levelOk = true)
    (h : parseHidOnly make body = some m) : m.levelOk = true := by
  simp only [parseHidOnly] at h
  split at h
  · exact levelOk_map hmake h
  · cases h

theorem parseSeize_levelOk (h : parseSeize body = some m) : m.levelOk = true := by
  simp only [parseSeize] at h
  split at h
  · split at h
    · simp only [Option.bind_eq_bind, Option.bind_eq_some_iff, pure, Option.some.injEq] at h
      obtain ⟨_, -, _, -, _, -, _, hlevel, rfl⟩ := h
      exact decide_eq_true (levelOf_le hlevel)
    · cases h
  · cases h

theorem parseVacate_levelOk (h : parseVacate body = some m) : m.levelOk = true := by
  simp only [parseVacate] at h
  split at h
  · exact levelOk_map (fun _ => rfl) h
  · cases h

theorem parseState_levelOk (h : parseState body = some m) : m.levelOk = true := by
  simp only [parseState] at h
  split at h
  · simp only [Option.bind_eq_bind, Option.bind_eq_some_iff, pure, Option.some.injEq] at h
    obtain ⟨_, -, _, -, _, -, rfl⟩ := h
    rfl
  · cases h

theorem parseRelayCell_levelOk (h : parseRelayCell body = some m) : m.levelOk = true := by
  simp only [parseRelayCell] at h
  split at h
  · split at h
    · exact levelOk_map (fun _ => rfl) h
    · cases h
  · cases h

theorem parseOffer_levelOk (h : parseOffer body = some m) : m.levelOk = true := by
  simp only [parseOffer] at h
  split at h
  · split at h
    · simp only [Option.bind_eq_bind, Option.bind_eq_some_iff, pure, Option.some.injEq] at h
      obtain ⟨_, -, _, -, rfl⟩ := h
      rfl
    · cases h
  · cases h

theorem parseEnd_levelOk (h : parseEnd body = some m) : m.levelOk = true := by
  simp only [parseEnd] at h
  split at h
  · exact levelOk_map (fun _ => rfl) h
  · cases h

theorem parseRelayExch_levelOk (h : parseRelayExch body = some m) : m.levelOk = true := by
  simp only [parseRelayExch] at h
  split at h
  · split at h
    · exact levelOk_map (fun _ => rfl) h
    · cases h
  · cases h

/-- R43, R44: a message that is well formed has its level in range. -/
theorem parseFrom_levelOk {l : LinkId} {f : Frame} (h : parseFrom l f = some m) : m.levelOk = true := by
  cases l with
  | cell c =>
    simp only [parseFrom, parseFromCell] at h
    split_ifs at h
    · exact parseEnrol_levelOk h
    · exact parseHidOnly_levelOk (fun _ => rfl) h
    · exact parseHidOnly_levelOk (fun _ => rfl) h
    · exact parseSeize_levelOk h
    · exact parseVacate_levelOk h
    · exact parseState_levelOk h
    · exact parseRelayCell_levelOk h
  | exchange =>
    simp only [parseFrom, parseFromExchange] at h
    split_ifs at h
    · exact parseOffer_levelOk h
    · exact parseEnd_levelOk h
    · exact parseRelayExch_levelOk h

end

/-! ### Messages -/

namespace Keeps

section

variable {ok : Prop} (s : State) (m : Msg) (l : LinkId) (hm : ok → m.levelOk = true)

include hm

theorem actOf (r : Option Record) : Keeps ok s (Machine.actOf m s l m r).state :=
  ((closed_callsOnly s).actOf m l m r (.refl s)).keeps fun hok hs => hs.actOf (hm hok) l r

/-- R15: a message held, its level in range. -/
theorem hold : Keeps ok s { s with sig := { s.sig with held := some ⟨l, m⟩ } } where
  estimates hok hs := { hs with held := fun x hx => by cases hx; exact hm hok }
  counters hs := hs

/-- R27: a message that joins parking, its level in range. -/
theorem park (h : Hid) : Keeps ok s { s with sig := s.sig.park ⟨h, l, m⟩ } where
  estimates hok hs := { hs with
    parked := fun x hx => by
      rcases List.mem_append.1 hx with hx | hx
      · exact hs.parked x hx
      · rw [List.mem_singleton.1 hx]; exact hm hok }
  counters hs := hs

theorem newGroup (h : Hid) : Keeps ok s (s.newGroup h l m) := (park s m l hm h).trans (same (gauges_assignContexts _))

theorem actWith (e : CacheEntry) : Keeps ok s (s.actWith (Machine.actOf m) l m e) := by
  have ha := actOf s m l hm (some e.record)
  simp only [State.actWith]
  split
  · exact ha
  · split
    · exact ha
    · split
      · exact ha.trans (same (gauges_changeEntry ..))
      · exact hold s m l hm

theorem lookup (h : Hid) : Keeps ok s (s.lookup (Machine.actOf m) l m h) := by
  simp only [State.lookup]
  split
  · exact park s m l hm h
  · split
    · exact actOf s m l hm none
    · split
      · exact (same (gauges_touch s h)).trans (actWith _ m l hm _)
      · exact newGroup s m l hm h

theorem dispatch : Keeps ok s (s.dispatch (Machine.actOf m) l m) := by
  simp only [State.dispatch]
  split
  · exact lookup s m l hm _
  · exact actOf s m l hm none

end

variable {ok : Prop} {s u : State}

/-- R28: the oldest message of a HID has left parking. -/
theorem takeOldest (s : State) (h : Hid) : Keeps ok s { s with sig := s.sig.takeOldest h } where
  estimates _ hs := { hs with parked := fun m hm => hs.parked m (List.mem_of_mem_eraseP hm) }
  counters hs := hs

theorem takeParked (s : State) (g : Group) (m : Parked) (hm : ok → m.msg.levelOk = true) :
    Keeps ok s (s.takeParked (Machine.actOf m.msg) g m) := by
  have htaken : Keeps ok s { s with sig := s.sig.takeOldest g.hid } := takeOldest s g.hid
  simp only [State.takeParked]
  split
  · split
    · exact (htaken.trans (same (gauges_touch _ _))).trans (actWith _ _ _ hm _)
    · exact same (gauges_assignContexts _)
  · exact htaken.trans (actOf _ _ _ hm none)

/-- R40: one turn of the Signalling Processor, on a message that was parked or is read from its frame. -/
theorem turn {mine : Msg → Bool} {act : Act} (hp : Picks mine act) (h : s.turn mine act = some u) : Keeps ok s u := by
  simp only [State.turn] at h
  split at h
  · next g m hw =>
    split at h <;> cases h
    next hmine =>
      obtain ⟨-, ⟨_, _, he, -, hfound⟩ | ⟨_, _, he, -⟩⟩ := work_cases hw <;> cases he
      rw [hp _ hmine]
      exact (takeParked s g m id).known fun hs => hs.parked m (List.mem_of_find?_eq_some hfound)
  · next l f _ =>
    split at h
    · next m hparsed =>
      split at h <;> cases h
      next hmine =>
        rw [hp _ hmine]
        exact (same (gauges_takeFrame s l)).trans (dispatch _ m l fun _ => parseFrom_levelOk hparsed)
    · cases h
  · cases h

/-! ### The ends of events -/

theorem release (s : State) (m : Held) (hm : ok → m.msg.levelOk = true) :
    Keeps ok s (s.release (Machine.actOf m.msg) m) := by
  have hfreed : Keeps ok s { s with sig := { s.sig with held := none } } :=
    ⟨fun _ hs => { hs with held := fun _ h => by cases h }, id⟩
  simp only [State.release]
  refine hfreed.trans ?_
  split
  · exact actOf _ _ _ hm none
  · split
    · exact actWith _ _ _ hm _
    · exact lookup _ _ _ hm _

theorem tryRelease (h : s.tryRelease = some u) : Keeps ok s u := by
  simp only [State.tryRelease] at h
  split at h
  · next m hheld =>
    split at h <;> cases h
    exact (release s m id).known fun hs => hs.held m hheld
  · cases h

theorem settle (before : State) : Keeps ok s (s.settle before) := by
  have hreleased (v : State) : Keeps ok v (v.tryRelease.getD v) := by
    cases hv : v.tryRelease with
    | none => exact refl v
    | some w => exact tryRelease hv
  have hport (v : State) : Keeps ok v (v.settlePort before) := same (gauges_settlePort v before)
  have hfirst := (hreleased s).trans (hport _)
  simp only [State.settle]
  refine Keeps.trans ?_ (same (gauges_judgeAttention _ before))
  split
  · next hw => exact (hfirst.trans (tryRelease hw)).trans (hport _)
  · exact hfirst

theorem judged {o : Option State} (h : ∀ u, o = some u → Keeps ok s u) : Keeps ok s (s.judged o) := by
  cases o with
  | none => exact refl s
  | some u => exact (h u rfl).trans (same (gauges_judgeAttention u s))

theorem settled {o : Option State} (h : ∀ u, o = some u → Keeps ok s u) : Keeps ok s (s.settled o) := by
  cases o with
  | none => exact refl s
  | some u => exact (h u rfl).trans (settle s)

/-! ### Lines -/

/-- R147: a valid frame other than fill counts as received. -/
theorem received (s : State) (l : LinkId) : Keeps ok s (s.received l) :=
  (same (gauges_heard s l)).trans (keeps_modUnit _ l LinkUnit.countReceived_ok)

theorem enqueue (s : State) (l : LinkId) (n : Nat) (f : Frame) : Keeps ok s (s.modUnit l fun u => u.enqueue n f) := by
  refine same (gauges_modUnit s l ?_)
  simp only [LinkUnit.enqueue]
  split <;> rfl

theorem voiceFromCell (s : State) (c : CellId) (v : Voice) : Keeps ok s (s.voiceFromCell c v) := by
  simp only [State.voiceFromCell]
  split
  · split
    · exact ((closed_callsOnly s).uplinkFrame c _ v (.refl s)).keeps fun _ hs => hs.uplinkFrame c _ v
    · exact same (gauges_protocolError ..)
  · exact same (gauges_protocolError ..)

theorem voiceFromExchange (s : State) (v : Voice) : Keeps ok s (s.voiceFromExchange v) := by
  simp only [State.voiceFromExchange]
  split
  · exact ((closed_callsOnly s).downlink _ v (.refl s)).keeps fun _ hs => hs.of_call (downlink_call ..)
  · exact same (gauges_protocolError ..)

/-- R151: a frame that has returned is flagged, counted or discarded. -/
theorem looped (s : State) (c : CellId) (run : List Byte) : Keeps ok s (s.looped c run) := by
  have hreturned : Keeps ok s (s.modCell c CellLink.returned) := same (gauges_modCell s c rfl)
  simp only [State.looped]
  refine hreturned.trans ?_
  split
  · exact same (gauges_modUnit _ _ rfl)
  · exact same (gauges_modUnit _ _ rfl)
  · split
    · exact refl _
    · exact keeps_modUnit _ _ LinkUnit.countLooped_ok

theorem moveCell (s : State) (c : CellId) (st : LinkState) : Keeps ok s (s.moveCell c st) := by
  have hentered : Keeps ok s (s.modCell c fun u => u.enter st s.timeBase) := same (gauges_modCell s c rfl)
  simp only [State.moveCell]
  split
  · exact hentered.trans (((closed_callsOnly _).cellLost c (.refl _)).keeps fun _ hs => hs.cellLost c)
  · exact hentered

theorem cellSilent (s : State) (c : CellId) : Keeps ok s (s.cellSilent c) :=
  (same (gauges_modUnit s (.cell c) rfl)).trans (moveCell _ c .down)

theorem exchSilent (s : State) : Keeps ok s s.exchSilent :=
  (same (gauges_modExch s rfl)).trans (((closed_callsOnly _).exchLost (.refl _)).keeps fun _ hs => hs.exchLost)

/-! ### Requests -/

section

variable {q : MgmtRequest}

theorem reply {t : State} (h : Keeps ok s t) (o : MgmtOutcome) (d : List Byte) : Keeps ok s (t.reply q o d) :=
  h.trans (same (gauges_reply ..))

theorem withOperands {α : Type} {ops : Option α} {run : α → State} (h : ∀ x, Keeps ok s (run x)) :
    Keeps ok s (s.withOperands q ops run) := by
  simp only [State.withOperands]
  split
  · exact h _
  · exact (refl s).reply _ _

theorem whenFormatted {run : State} (h : Keeps ok s run) : Keeps ok s (s.whenFormatted q run) := by
  simp only [State.whenFormatted]
  split
  · exact (refl s).reply _ _
  · exact h

theorem unlessSweeping {run : State} (h : Keeps ok s run) : Keeps ok s (s.unlessSweeping q run) := by
  simp only [State.unlessSweeping]
  split
  · exact (refl s).reply _ _
  · exact h

/-- A request whose execution leaves the fields that the ranges speak of. -/
theorem request {α : Type} {ops : Option α} {run : α → State} (h : ∀ x, (run x).gauges = s.gauges) :
    Keeps ok s (s.withOperands q ops run) := withOperands fun x => same (h x)

end

theorem readRecord (s : State) (q : MgmtRequest) : Keeps ok s (s.runReadRecord q) := by
  have hwatch : Keeps ok s (s.setWatch none) := same (gauges_setWatch s none)
  refine hwatch.trans (withOperands fun x => whenFormatted ?_)
  simp only [State.readHid]
  split
  · exact same (by simp)
  · exact same (by simp)

theorem writeIfUnchanged (s : State) (q : MgmtRequest) : Keeps ok s (s.runWriteIfUnchanged q) := by
  have hwatch : Keeps ok s (s.setWatch none) := same (gauges_setWatch s none)
  refine hwatch.trans (withOperands fun x => whenFormatted ?_)
  split
  · exact same (by simp)
  · exact same (by simp)

theorem format (s : State) (q : MgmtRequest) : Keeps ok s (s.runFormat q) := by
  refine withOperands fun x => ?_
  split
  · exact same (by simp)
  · exact unlessSweeping (same (by simp))

theorem linkTest (s : State) (q : MgmtRequest) : Keeps ok s (s.runLinkTest q) := by
  refine withOperands fun x => ?_
  split
  · exact (same (gauges_modCell s x.1 (f := fun u => { u with testCount := x.2 }) rfl)).reply _ _
  · exact same (by simp)

theorem control (a : CellAction) (h : s.control a = some u) : Keeps ok s u := by
  simp only [State.control] at h
  split at h
  · split at h <;> cases h
    refine withOperands fun x => Keeps.reply ?_ _ _
    simp only [State.controlCell]
    split
    · exact moveCell s x.1 _
    · exact refl s
  · cases h

theorem readLink (s : State) (q : MgmtRequest) : Keeps ok s (s.runReadLink q) :=
  withOperands fun _ =>
    ((keeps_modUnit s _ fun _ => LinkCounters.zero_ok).trans (same (gauges_setLimit ..))).reply _ _

/-! ### Resets -/

/-- R80, R53: every call is FREE, and no message waits. -/
theorem emptied {t : State} (ht : t.Emptied) (hsig : t.sig = .reset) (hcounters : t.CountersOk) : Keeps ok s t where
  estimates _ _ := by
    refine (estimatesOk_iff t).2 ⟨fun n => ?_, ?_, ?_⟩
    · obtain ⟨p, hp⟩ := ht.calls n
      rw [hp]
      exact CallRecord.rated_free p
    · rw [hsig]; exact fun _ h => nomatch h
    · rw [hsig]; exact fun _ h => nomatch h
  counters _ := hcounters

theorem restart (s : State) : Keeps ok s s.restart :=
  emptied (emptied_restart s) rfl fun l => by rw [unit_restart]; exact LinkCounters.zero_ok

theorem pinReset (s : State) (p : List Instr) (o : Option PortOp) (m : List Host.Cell) :
    Keeps ok s (.pinReset p o m) :=
  emptied (emptied_reset p o m) rfl fun l => by rw [unit_pinReset]; exact LinkCounters.zero_ok

end Keeps

/-- Every command. -/
theorem keeps_exec {s t : State} (i : Instr) (he : exec i s = .next t) : Keeps True s t := by
  have judged {o : Option State} (h : ∀ u, o = some u → Keeps True s u)
      (e : (Host.Outcome.next (s.judged o) : Host.Outcome State Fault Refusal) = .next t) : Keeps True s t := by
    cases e; exact .judged h
  have settled {o : Option State} (h : ∀ u, o = some u → Keeps True s u)
      (e : (Host.Outcome.next (s.settled o) : Host.Outcome State Fault Refusal) = .next t) : Keeps True s t := by
    cases e; exact .settled h
  have same {u : State} (h : u.gauges = s.gauges)
      (e : (Host.Outcome.next u : Host.Outcome State Fault Refusal) = .next t) : Keeps True s t := by
    cases e; exact .same h
  have quiet {o : Option State} (h : ∀ u, o = some u → u.gauges = s.gauges) : ∀ u, o = some u → Keeps True s u :=
    fun u hu => .same (h u hu)
  have calls {u : State} (h : CallsOnly s u) (hr : s.Rated → u.Rated) : Keeps True s u := h.keeps fun _ => hr
  have k := closed_callsOnly s
  have start := CallsOnly.refl s
  cases i with
  | pinReset => cases he; exact .pinReset s _ _ _
  | fillFrameReceived l run => exact judged (mapped fun _ => .same (gauges_heard s l)) he
  | invalidFrameReceived l run =>
    refine judged (fun u hu => ?_) he
    split at hu
    · exact .same (gauges_flagRun hu)
    · cases hu
  | signallingArrival l run => exact judged (mapped fun _ => (Keeps.received s l).trans (.enqueue _ l _ _)) he
  | mgmtArrival run => exact judged (mapped fun _ => (Keeps.received s _).trans (.same (gauges_readHeader ..))) he
  | uplinkVoiceFrame c run => exact judged (mapped fun _ => (Keeps.received s _).trans (.voiceFromCell _ c _)) he
  | downlinkVoiceFrame run => exact judged (mapped fun _ => (Keeps.received s _).trans (.voiceFromExchange _ _)) he
  | loopedFrameReturn c run => exact judged (guarded fun _ => .looped s c run) he
  | frameSend l => exact same (gauges_sendQueued s l) he
  | frameSendEnd l => exact same (gauges_sent s l) he
  | fillFrameSend l => exact same (gauges_sendFill s l) he
  | testFrameSend c => exact same (gauges_sendTest s c) he
  | linkSilenceExpiry l =>
    refine judged (guarded fun _ => ?_) he
    cases l with
    | cell c => exact .cellSilent s c
    | exchange => exact .exchSilent s
  | malformedMessage => exact judged (quiet fun _ => gauges_discardMalformed) he
  | enrol => exact settled (fun _ => .turn fun | .enrol _ _, _ => rfl) he
  | camp => exact settled (fun _ => .turn fun | .camp _, _ => rfl) he
  | retire => exact settled (fun _ => .turn fun | .retire _, _ => rfl) he
  | seizeOrigin => exact settled (fun _ => .turn picks_seize_origin) he
  | seizeAnswer => exact settled (fun _ => .turn picks_seize_answer) he
  | seizeMoveIn => exact settled (fun _ => .turn picks_seize_moveIn) he
  | vacate => exact judged (fun _ => .turn fun | .vacate _, _ => rfl) he
  | stateReport => exact judged (fun _ => .turn fun | .stateReport _, _ => rfl) he
  | relayFromCell => exact judged (fun _ => .turn fun | .relayFromCell _ _, _ => rfl) he
  | offer => exact settled (fun _ => .turn fun | .offer _ _, _ => rfl) he
  | endCall => exact judged (fun _ => .turn fun | .endCall _, _ => rfl) he
  | relayFromExchange => exact judged (fun _ => .turn fun | .relayFromExchange _ _, _ => rfl) he
  | holdTimerExpiry n => exact judged (guarded fun _ => calls (k.loseCall n start) fun hs => hs.loseCall n) he
  | clearTimerExpiry n =>
    exact judged (guarded fun _ => calls (k.toFree n (k.freeReleasing n start)) fun hs => (hs.freeReleasing n).toFree n) he
  | stageTimerExpiry n => exact judged (guarded fun _ => calls (k.stageExpired n start) fun hs => hs.stageExpired n) he
  | bridgeTimerExpiry n => exact judged (guarded fun _ => calls (k.bridgeExpired n start) fun hs => hs.bridgeExpired n) he
  | legSilenceExpiry n leg => exact judged (guarded fun _ => calls (k.loseLeg n leg start) fun hs => hs.loseLegs n _ _) he
  | holdDeadlineExpiry n j =>
    exact judged (guarded fun _ => calls (k.emitUntil n _ _ _ start) fun hs => hs.emitUntil n _ _ _) he
  | searchReadComplete => exact settled (quiet fun _ => gauges_completeSearchRead) he
  | writeThroughComplete => exact settled (quiet fun _ => gauges_completeWriteThrough) he
  | mgmtReadComplete => exact settled (quiet fun _ => gauges_completeMgmtRead) he
  | mgmtWriteComplete => exact settled (quiet fun _ => gauges_completeMgmtWrite) he
  | emptyWriteComplete => exact settled (quiet fun _ => gauges_completeEmptyWrite) he
  | formatWriteComplete => exact settled (quiet fun _ => gauges_completeFormatWrite) he
  | sweepReadComplete => exact settled (quiet fun _ => gauges_completeSweepRead) he
  | sweepWriteComplete => exact settled (quiet fun _ => gauges_completeSweepWrite) he
  | readRecord => exact settled (mapped fun q => .readRecord s q) he
  | writeRecord => exact settled (mapped fun _ => .withOperands fun _ => .whenFormatted (.same (gauges_setOp ..))) he
  | writeIfUnchanged => exact settled (mapped fun q => .writeIfUnchanged s q) he
  | deleteRecord => exact settled (mapped fun _ => .withOperands fun _ => .whenFormatted (.same (gauges_setOp ..))) he
  | clearSlot => exact settled (mapped fun _ => .withOperands fun _ => .whenFormatted (.same (gauges_setOp ..))) he
  | formatRegistry => exact settled (mapped fun q => .format s q) he
  | sweep =>
    exact settled (mapped fun _ => .withOperands fun _ => .whenFormatted (.unlessSweeping (.same (by simp)))) he
  | readSweep => exact judged (mapped fun _ => .request fun _ => by simp) he
  | loadProfile => exact judged (mapped fun _ => .request fun _ => by simp) he
  | loadNeighbourRow => exact judged (mapped fun _ => .request fun _ => by simp) he
  | loadZone => exact judged (mapped fun _ => .request fun _ => by simp) he
  | loadCell => exact judged (mapped fun _ => .request fun _ => by simp) he
  | loadTiming => exact judged (mapped fun _ => .request fun _ => by simp) he
  | readTable => exact judged (mapped fun _ => .request fun _ => by simp) he
  | cellControlEnable => exact judged (fun _ => .control _) he
  | cellControlDisable => exact judged (fun _ => .control _) he
  | cellControlLoop => exact judged (fun _ => .control _) he
  | linkTest => exact judged (mapped fun q => .linkTest s q) he
  | readLink => exact judged (mapped fun q => .readLink s q) he
  | readCell =>
    exact judged (mapped fun _ => .withOperands fun c => (Keeps.same (gauges_modCell s c rfl)).reply _ _) he
  | readCall => exact judged (mapped fun _ => .request fun _ => by simp) he
  | forceClear =>
    exact judged (mapped fun _ => .withOperands fun n =>
      (calls (k.forceClear n start) fun hs => hs.forceClear n).reply _ _) he
  | readCause => exact judged (mapped fun _ => .request fun _ => by simp) he
  | setAttention => exact judged (mapped fun _ => .request fun _ => by simp) he
  | readCapture => exact judged (mapped fun _ => .request fun _ => by simp) he
  | setCapture => exact judged (mapped fun _ => .request fun _ => by simp) he
  | restart => exact judged (mapped fun _ => .withOperands fun _ => (Keeps.restart s).reply _ _) he
  | unknownCommand => exact judged (mapped fun _ => .same (gauges_reply ..)) he
  | portOperationCompletesIntoNothing => exact settled (quiet fun _ => gauges_completeOrphan) he

theorem keeps_step {s t : State} (h : step s = .next t) : Keeps True s t := by
  simp only [step] at h
  split at h
  · next i rest _ => exact (Keeps.same (s := s) (t := { s with pending := rest }) rfl).trans (keeps_exec i h)
  · cases h
    exact .same rfl

/-- Settles O11: an estimate changes by updates and is made from a level in range, and a counter stops at its limit. -/
theorem estimatesAndCountersStayInRange : Obligations.EstimatesAndCountersStayInRange :=
  ⟨fun _ _ hs h => (keeps_step h).estimates trivial hs, fun _ _ hs h => (keeps_step h).counters hs⟩

end Sys2Proof.Machine
end

section
/-! The agreement of a link's state with its queues, silence timer, test count and returning frames (R137, R139, R140,
R151, R152): which changes of one unit keep it, and so which changes of the block do. -/

namespace Sys2Proof.Machine

open Sys2Proof

@[simp] theorem LinkUnit.sent_state (u : LinkUnit) (now : Time) : (u.sent now).state = u.state := by
  simp only [LinkUnit.sent]
  split <;> rfl

@[simp] theorem LinkUnit.sent_silence (u : LinkUnit) (now : Time) : (u.sent now).silence = u.silence := by
  simp only [LinkUnit.sent]
  split <;> rfl

/-! ### One cell's unit -/

namespace CellLink.StateOk

variable {u : CellLink} (h : u.StateOk)

include h

/-- The common part changed in neither its state nor its timer. -/
theorem relink {x : LinkUnit} (hstate : x.state = u.link.state) (hsilence : x.silence = u.link.silence) :
    ({ u with link := x } : CellLink).StateOk where
  queues := by simpa only [hstate] using h.queues
  silence := by simpa only [hstate, hsilence] using h.silence
  test := by simpa only [hstate] using h.test
  returning := by simpa only [hstate] using h.returning

/-- R144, R135: frames are kept in the queues in UP and LOOP. -/
theorem queued (hq : u.link.state.queues = true) (sig voice : List Frame) :
    ({ u with sigQueue := sig, voiceQueue := voice } : CellLink).StateOk :=
  { h with queues := fun hf => by rw [hf] at hq; cases hq }

/-- R151, R152: a link that is not in LOOP runs no test, and nothing is to return on it. -/
theorem idle (hl : u.link.state ≠ .loop) : u.testCount = 0 ∧ u.returning = [] :=
  ⟨not_imp_comm.1 h.test hl, not_imp_comm.1 h.returning hl⟩

/-- R138, R139: a valid frame heard by a link that listens. -/
theorem heard (hl : u.link.state.listens = true) {x : LinkUnit} (hstate : x.state = .up)
    (hsilence : x.silence.isSome = true) : ({ u with link := x } : CellLink).StateOk := by
  obtain ⟨htest, hreturning⟩ := h.idle fun e => by rw [e] at hl; cases hl
  exact ⟨by simp [hstate, LinkState.queues], by simp [hstate, hsilence], by simp [htest], by simp [hreturning]⟩

/-- R145: a frame that leaves a queue to be sent was there in UP or LOOP. -/
theorem sendQueued : u.sendQueued.StateOk := by
  simp only [CellLink.sendQueued]
  split
  · split
    · next hq => exact { h with queues := fun hf => absurd (h.queues hf).1 (by simp [hq]) }
    · exact h
  · split
    · next hq => exact { h with queues := fun hf => absurd (h.queues hf).2 (by simp [hq]) }
    · exact h
  · exact h

/-- R145, R151: the frame that has left whole is to return in LOOP alone. -/
theorem sent (now : Time) : (u.sent now).StateOk := by
  refine { h.relink (u.link.sent_state now) (u.link.sent_silence now) with
    returning := fun hne => (u.link.sent_state now).trans ?_ }
  by_contra hl
  exact hne ((if_neg hl).trans (h.idle hl).2)

/-- R152: a test frame counts down the test of a link in LOOP. -/
theorem sendTest : u.sendTest.StateOk := by
  simp only [CellLink.sendTest]
  split
  · exact { h with test := fun hne => h.test fun e => hne (by simp [e]) }
  · exact h

/-- R151: a frame that has returned is no longer to return. -/
theorem returned : u.returned.StateOk :=
  { h with returning := fun hne => h.returning fun e => hne (by simp [e]) }

/-- R153: the queues and the test end with a RESTART; the state and the timer stand. -/
theorem restart (now : Time) : (u.restart now).StateOk :=
  { h with queues := fun _ => ⟨rfl, rfl⟩, test := fun hne => absurd rfl hne }

end CellLink.StateOk

/-- R140: a unit in a new state that is not UP has nothing to send, to test or to return. -/
theorem CellLink.enter_stateOk (u : CellLink) {st : LinkState} (hst : st ≠ .up) (now : Time) :
    (u.enter st now).StateOk where
  queues _ := ⟨rfl, rfl⟩
  silence := by simp [CellLink.enter, LinkUnit.enter, hst]
  test hne := absurd rfl hne
  returning hne := absurd rfl hne

/-! ### The exchange's unit -/

/-- R137, R139, R140: the exchange link's state, queue and timer agree. -/
structure ExchLink.StateOk (u : ExchLink) : Prop where
  state : u.link.state = .down ∨ u.link.state = .up
  queue : u.link.state ≠ .up → u.txQueue = []
  silence : u.link.silence.isSome = true ↔ u.link.state = .up

theorem exchangeOk_iff (s : State) : s.ExchangeOk ↔ s.exch.StateOk :=
  ⟨fun h => ⟨h.state, h.queue, h.silence⟩, fun h => ⟨h.state, h.queue, h.silence⟩⟩

namespace ExchLink.StateOk

variable {u : ExchLink} (h : u.StateOk)

include h

/-- The common part changed in neither its state nor its timer. -/
theorem relink {x : LinkUnit} (hstate : x.state = u.link.state) (hsilence : x.silence = u.link.silence) :
    ({ u with link := x } : ExchLink).StateOk where
  state := by simpa only [hstate] using h.state
  queue := by simpa only [hstate] using h.queue
  silence := by simpa only [hstate, hsilence] using h.silence

/-- R144: a frame joins the queue in UP alone, the link never being in LOOP. -/
theorem queued (hq : u.link.state.queues = true) (queue : List Frame) :
    ({ u with txQueue := queue } : ExchLink).StateOk :=
  { h with queue := fun hne => by rw [h.state.resolve_right hne] at hq; cases hq }

/-- R145: a frame that leaves the queue to be sent was there in UP. -/
theorem sendQueued : u.sendQueued.StateOk := by
  simp only [ExchLink.sendQueued]
  split
  · next hq => exact { h with queue := fun hne => absurd (h.queue hne) (by simp [hq]) }
  · exact h

end ExchLink.StateOk

/-- R138, R139: the exchange link that hears a valid frame is UP. -/
theorem ExchLink.heard_stateOk (u : ExchLink) {x : LinkUnit} (hstate : x.state = .up)
    (hsilence : x.silence.isSome = true) : ({ u with link := x } : ExchLink).StateOk :=
  ⟨.inr hstate, (absurd hstate ·), iff_of_true hsilence hstate⟩

/-! ### The block -/

/-- The agreement that `s` has is kept in `t`, on the exchange link and on every cell link. -/
structure LinksKept (s t : State) : Prop where
  exchange : s.ExchangeOk → t.ExchangeOk
  cells : s.CellsOk → t.CellsOk

namespace LinksKept

variable {s t u : State}

theorem trans (h : LinksKept s t) (k : LinksKept t u) : LinksKept s u :=
  ⟨k.exchange ∘ h.exchange, k.cells ∘ h.cells⟩

/-- A change that touches no link. -/
theorem same (hcells : t.cells = s.cells) (hexch : t.exch = s.exch) : LinksKept s t where
  exchange hs := ⟨hexch ▸ hs.state, hexch ▸ hs.queue, hexch ▸ hs.silence⟩
  cells hs c := hcells ▸ hs c

theorem refl (s : State) : LinksKept s s := same rfl rfl

section

variable (s)

theorem modCell (c : CellId) {f : CellLink → CellLink} (hf : (s.cells.at c).StateOk → (f (s.cells.at c)).StateOk) :
    LinksKept s (s.modCell c f) where
  exchange hs := ⟨hs.state, hs.queue, hs.silence⟩
  cells hs d := by
    by_cases hd : d = c
    · subst hd; rw [State.modCell_at]; exact hf (hs d)
    · rw [State.modCell_at_other s f hd]; exact hs d

theorem modExch {f : ExchLink → ExchLink} (hf : s.exch.StateOk → (f s.exch).StateOk) : LinksKept s (s.modExch f) where
  exchange hs := (exchangeOk_iff _).2 (hf ((exchangeOk_iff s).1 hs))
  cells hs := hs

/-- A unit's common part changed in neither its state nor its timer: its flags, counters, FIFO and frame being sent. -/
theorem modUnit (l : LinkId) {f : LinkUnit → LinkUnit} (hstate : (f (s.unit l)).state = (s.unit l).state)
    (hsilence : (f (s.unit l)).silence = (s.unit l).silence) : LinksKept s (s.modUnit l f) := by
  cases l with
  | cell c => exact modCell s c (f := fun u => { u with link := f u.link }) fun h => h.relink hstate hsilence
  | exchange => exact modExch s (f := fun u => { u with link := f u.link }) fun h => h.relink hstate hsilence

/-! ### What the operations on calls do to links -/

theorem placeSig (c : CellId) (f : Frame) : LinksKept s (s.placeSig c f) := by
  refine modCell s c fun h => ?_
  split
  · next hq =>
    split
    · exact h.queued hq _ _
    · exact h.relink rfl rfl
  · exact h

theorem placeVoice (c : CellId) (f : Frame) : LinksKept s (s.placeVoice c f) := by
  refine modCell s c fun h => ?_
  split
  · next hq =>
    split
    · exact h.queued hq _ _
    · exact h.relink rfl rfl
  · exact h

theorem placeExch (f : Frame) : LinksKept s (s.placeExch f) := by
  refine modExch s fun h => ?_
  split
  · next hq =>
    split
    · exact h.queued hq _
    · exact h.relink rfl rfl
  · exact h

theorem capture (k : CaptureKind) (d : CaptureDetail) : LinksKept s (s.capture k d) :=
  same (State.capture_cells ..) (State.capture_exch ..)

end

/-- The operations on calls keep the agreement. -/
theorem closed (s : State) : Closed (LinksKept s) where
  call _ h := h.trans (same rfl rfl)
  sig c f h := h.trans (placeSig _ c f)
  voice c f h := h.trans (placeVoice _ c f)
  exch f h := h.trans (placeExch _ f)
  capture k d h := h.trans (capture _ k d)
  stray l h := h.trans (modUnit _ l rfl rfl)
  late c h := h.trans (modUnit _ (.cell c) rfl rfl)
  report c _ h := h.trans (modCell _ c fun k => ⟨k.queues, k.silence, k.test, k.returning⟩)

end LinksKept

end Sys2Proof.Machine
end

section
/-! Every event keeps the links in agreement with their states: what happens on the lines, the turns of the Signalling
Processor, the completions at the memory port, the requests and the two resets. -/

namespace Sys2Proof.Machine

open Sys2Proof

namespace LinksKept

/-! ### Lines -/

section

variable (s : State)

theorem protocolError (l : LinkId) (k : Option SlotId) (h : Option Hid) : LinksKept s (s.protocolError l k h) := by
  have hflag : LinksKept s (s.modUnit l LinkUnit.setProtocol) := modUnit s l rfl rfl
  simp only [State.protocolError]
  split
  · exact (hflag.trans (capture ..)).trans (same (State.setLimit_cells ..) (State.setLimit_exch ..))
  · exact hflag

theorem judgeAttention (before : State) : LinksKept s (s.judgeAttention before) := by
  simp only [State.judgeAttention]
  split
  · exact (placeExch s _).trans (same rfl rfl)
  · exact same rfl rfl

/-- R138, R139: a valid frame heard on a link that listens. -/
theorem heard {l : LinkId} (hl : (s.unit l).state.listens = true) : LinksKept s (s.heard l) := by
  cases l with
  | cell c => exact modCell s c (f := fun u => { u with link := _ }) fun h => h.heard hl rfl rfl
  | exchange => exact modExch s (f := fun u => { u with link := _ }) fun _ => ExchLink.heard_stateOk _ rfl rfl

theorem received {l : LinkId} (hl : (s.unit l).state.listens = true) : LinksKept s (s.received l) :=
  (heard s hl).trans (modUnit _ l rfl rfl)

theorem enqueue (l : LinkId) (n : Nat) (f : Frame) : LinksKept s (s.modUnit l fun u => u.enqueue n f) := by
  refine modUnit s l ?_ ?_ <;> simp only [LinkUnit.enqueue] <;> split <;> rfl

theorem readHeader (body : List Byte) : LinksKept s (s.readHeader body) := by
  simp only [State.readHeader, State.offerRequest]
  split
  · split
    · exact same rfl rfl
    · exact placeExch s _
  · exact protocolError s _ _ _

theorem voiceFromCell (c : CellId) (v : Voice) : LinksKept s (s.voiceFromCell c v) := by
  simp only [State.voiceFromCell]
  split
  · split
    · exact (closed s).uplinkFrame c _ v (refl s)
    · exact protocolError s _ _ _
  · exact protocolError s _ _ _

theorem voiceFromExchange (v : Voice) : LinksKept s (s.voiceFromExchange v) := by
  simp only [State.voiceFromExchange]
  split
  · exact (closed s).downlink _ v (refl s)
  · exact protocolError s _ _ _

theorem flagRun {u : State} {l : LinkId} {run : List Byte} (h : s.flagRun l run = some u) : LinksKept s u := by
  simp only [State.flagRun] at h
  split at h
  · cases h; exact modUnit s l rfl rfl
  · cases h; exact modUnit s l rfl rfl
  · cases h

theorem looped (c : CellId) (run : List Byte) : LinksKept s (s.looped c run) := by
  have hreturned : LinksKept s (s.modCell c CellLink.returned) := modCell s c fun h => h.returned
  simp only [State.looped]
  refine hreturned.trans ?_
  split
  · exact modUnit _ (.cell c) rfl rfl
  · exact modUnit _ (.cell c) rfl rfl
  · split
    · exact refl _
    · exact modUnit _ (.cell c) rfl rfl

theorem sendQueued (l : LinkId) : LinksKept s (s.sendQueued l) := by
  simp only [State.sendQueued]
  split
  · cases l with
    | cell c => exact modCell s c fun h => h.sendQueued
    | exchange => exact modExch s fun h => h.sendQueued
  · exact refl s

theorem sendFill (l : LinkId) : LinksKept s (s.sendFill l) := by
  simp only [State.sendFill]
  split
  · exact modUnit s l rfl rfl
  · exact refl s

theorem sent (l : LinkId) : LinksKept s (s.sent l) := by
  cases l with
  | cell c => exact modCell s c (f := (CellLink.sent · s.timeBase)) fun h => h.sent _
  | exchange =>
    exact modExch s (f := fun u => { u with link := u.link.sent s.timeBase }) fun h =>
      h.relink (LinkUnit.sent_state ..) (LinkUnit.sent_silence ..)

/-- R138, R140: a cell link in a new state that is not UP. -/
theorem moveCell (c : CellId) {st : LinkState} (hst : st ≠ .up) : LinksKept s (s.moveCell c st) := by
  have hentered : LinksKept s (s.modCell c fun u => u.enter st s.timeBase) :=
    modCell s c fun _ => CellLink.enter_stateOk _ hst _
  simp only [State.moveCell]
  split
  · exact (closed s).cellLost c hentered
  · exact hentered

theorem cellSilent (c : CellId) : LinksKept s (s.cellSilent c) :=
  (modUnit s (.cell c) rfl rfl).trans (moveCell _ c nofun)

theorem exchSilent : LinksKept s s.exchSilent :=
  (closed s).exchLost (modExch s fun _ => ⟨.inl rfl, fun _ => rfl, by simp [LinkUnit.enter]⟩)

theorem takeFrame (l : LinkId) : LinksKept s (s.takeFrame l) :=
  (modUnit s l (f := fun u => { u with rxFifo := u.rxFifo.tail }) rfl rfl).trans (same rfl rfl)

theorem discardMalformed {u : State} (h : s.discardMalformed = some u) : LinksKept s u := by
  simp only [State.discardMalformed] at h
  split at h
  · split at h <;> cases h
    exact (takeFrame s _).trans (protocolError _ _ _ _)
  · cases h

end

/-! ### Turns of the Signalling Processor -/

section

variable (s : State) (m : Msg) (l : LinkId)

theorem actOf (r : Option Record) : LinksKept s (Machine.actOf m s l m r).state := (closed s).actOf m l m r (refl s)

theorem assignContexts {t : State} (hcells : t.cells = s.cells) (hexch : t.exch = s.exch) :
    LinksKept s t.assignContexts := by
  obtain ⟨_, _, _, h⟩ := assignContexts_eq t
  rw [h]
  exact same hcells hexch

theorem touch (h : Hid) : LinksKept s (s.touch h) := same (State.touch_cells ..) (State.touch_exch ..)

theorem actWith (e : CacheEntry) : LinksKept s (s.actWith (Machine.actOf m) l m e) := by
  have hact := actOf s m l (some e.record)
  simp only [State.actWith]
  split
  · exact hact
  · split
    · exact hact
    · split
      · exact hact.trans (same (State.changeEntry_cells ..) (State.changeEntry_exch ..))
      · exact same rfl rfl

theorem lookup (h : Hid) : LinksKept s (s.lookup (Machine.actOf m) l m h) := by
  simp only [State.lookup]
  split
  · exact same rfl rfl
  · split
    · exact actOf s m l none
    · split
      · exact (touch s h).trans (actWith _ m l _)
      · exact assignContexts s rfl rfl

theorem dispatch : LinksKept s (s.dispatch (Machine.actOf m) l m) := by
  simp only [State.dispatch]
  split
  · exact lookup s m l _
  · exact actOf s m l none

theorem takeParked (g : Group) (m : Parked) : LinksKept s (s.takeParked (Machine.actOf m.msg) g m) := by
  have htaken : LinksKept s { s with sig := s.sig.takeOldest g.hid } := same rfl rfl
  simp only [State.takeParked]
  split
  · split
    · exact (htaken.trans (touch _ _)).trans (actWith _ _ _ _)
    · exact assignContexts s rfl rfl
  · exact htaken.trans (actOf _ _ _ none)

end

variable {s u : State}

/-- R40: one turn of the Signalling Processor. -/
theorem turn {mine : Msg → Bool} {act : Act} (hp : Picks mine act) (h : s.turn mine act = some u) : LinksKept s u := by
  simp only [State.turn] at h
  split at h
  · next g m _ =>
    split at h <;> cases h
    next hmine => rw [hp _ hmine]; exact takeParked s g m
  · next l _ _ =>
    split at h
    · next m _ =>
      split at h <;> cases h
      next hmine => rw [hp _ hmine]; exact (takeFrame s l).trans (dispatch _ m l)
    · cases h
  · cases h

/-! ### The ends of events -/

/-- R15: the held message released. -/
theorem tryRelease (h : s.tryRelease = some u) : LinksKept s u := by
  simp only [State.tryRelease] at h
  split at h
  · split at h <;> cases h
    simp only [State.release]
    refine LinksKept.trans (t := { s with sig := { s.sig with held := none } }) (same rfl rfl) ?_
    split
    · exact actOf _ _ _ none
    · split
      · exact actWith _ _ _ _
      · exact lookup _ _ _ _
  · cases h

theorem settle (before : State) : LinksKept s (s.settle before) := by
  have hreleased (v : State) : LinksKept v (v.tryRelease.getD v) := by
    cases hv : v.tryRelease with
    | none => exact refl v
    | some w => exact tryRelease hv
  have hport (v : State) : LinksKept v (v.settlePort before) :=
    have h := samePort_settlePort v before
    same h.cells h.exch
  have hfirst := (hreleased s).trans (hport _)
  simp only [State.settle]
  refine LinksKept.trans ?_ (judgeAttention _ before)
  split
  · next hw => exact (hfirst.trans (tryRelease hw)).trans (hport _)
  · exact hfirst

theorem judged {o : Option State} (h : ∀ u, o = some u → LinksKept s u) : LinksKept s (s.judged o) := by
  cases o with
  | none => exact refl s
  | some u => exact (h u rfl).trans (judgeAttention u s)

theorem settled {o : Option State} (h : ∀ u, o = some u → LinksKept s u) : LinksKept s (s.settled o) := by
  cases o with
  | none => exact refl s
  | some u => exact (h u rfl).trans (settle s)

/-! ### Requests -/

section

variable {t : State} {q : MgmtRequest}

theorem reply (h : LinksKept s t) (o : MgmtOutcome) (d : List Byte) : LinksKept s (t.reply q o d) :=
  have htaken : LinksKept t { t with mgmt := { t.mgmt with queue := t.mgmt.queue.tail, op := none } } := same rfl rfl
  (h.trans htaken).trans (placeExch _ _)

theorem finish (h : LinksKept s t) (o : MgmtOutcome) (d : List Byte) : LinksKept s (t.finish o d) := by
  simp only [State.finish]
  split
  · exact h.reply o d
  · exact h.trans (same rfl rfl)

theorem withOperands {α : Type} {ops : Option α} {run : α → State} (h : LinksKept s t)
    (hrun : ∀ x, LinksKept s (run x)) : LinksKept s (t.withOperands q ops run) := by
  simp only [State.withOperands]
  split
  · exact hrun _
  · exact h.reply _ _

theorem whenFormatted {run : State} (h : LinksKept s t) (hrun : LinksKept s run) :
    LinksKept s (t.whenFormatted q run) := by
  simp only [State.whenFormatted]
  split
  · exact h.reply _ _
  · exact hrun

theorem unlessSweeping {run : State} (hrun : LinksKept s run) : LinksKept s (s.unlessSweeping q run) := by
  simp only [State.unlessSweeping]
  split
  · exact (refl s).reply _ _
  · exact hrun

/-- A request that is answered at once, with an effect that touches no link. -/
theorem answers {α : Type} {ops : Option α} {effect : α → State} {data : α → List Byte}
    (hcells : ∀ x, (effect x).cells = s.cells) (hexch : ∀ x, (effect x).exch = s.exch) :
    LinksKept s (s.withOperands q ops fun x => (effect x).reply q .done (data x)) :=
  withOperands (refl s) fun x => (same (hcells x) (hexch x)).reply _ _

end

section

variable (s : State) (q : MgmtRequest)

theorem readRecord : LinksKept s (s.runReadRecord q) := by
  have hwatch : LinksKept s (s.setWatch none) := same rfl rfl
  refine withOperands hwatch fun h => whenFormatted hwatch ?_
  simp only [State.readHid]
  split
  · exact reply (same (by simp) (by simp)) _ _
  · exact same rfl rfl

/-- A request that begins a memory operation. -/
theorem begins {α : Type} {ops : Option α} {op : α → MgmtOp} :
    LinksKept s (s.withOperands q ops fun x => s.whenFormatted q (s.setOp (op x))) :=
  withOperands (refl s) fun _ => whenFormatted (refl s) (same rfl rfl)

theorem writeIfUnchanged : LinksKept s (s.runWriteIfUnchanged q) := by
  have hwatch : LinksKept s (s.setWatch none) := same rfl rfl
  refine withOperands hwatch fun x => whenFormatted hwatch ?_
  split
  · exact same rfl rfl
  · exact hwatch.reply _ _

theorem format : LinksKept s (s.runFormat q) := by
  refine withOperands (refl s) fun _ => ?_
  split
  · exact (refl s).reply _ _
  · obtain ⟨_, -, hformat⟩ := startFormat_eq s
    exact unlessSweeping (reply (same (by rw [hformat]) (by rw [hformat])) _ _)

/-- R152: a test count is set in LOOP alone. -/
theorem linkTest : LinksKept s (s.runLinkTest q) := by
  refine withOperands (refl s) fun x => ?_
  split
  · next hl => exact (modCell s x.1 fun h => { h with test := fun _ => hl }).reply _ _
  · exact (refl s).reply _ _

theorem readLink : LinksKept s (s.runReadLink q) :=
  withOperands (refl s) fun _ =>
    ((modUnit s _ rfl rfl).trans (same (State.setLimit_cells ..) (State.setLimit_exch ..))).reply _ _

theorem readCell : LinksKept s (s.runReadCell q) :=
  withOperands (refl s) fun c => (modCell s c fun h => ⟨h.queues, h.silence, h.test, h.returning⟩).reply _ _

end

/-- R138: CELL-CONTROL takes no link to UP. -/
theorem control_ne_up {x st : LinkState} {a : CellAction} (h : x.control a = some st) : st ≠ .up := by
  rintro rfl
  cases a <;> cases x <;> simp [LinkState.control] at h

theorem control {a : CellAction} (h : s.control a = some u) : LinksKept s u := by
  simp only [State.control] at h
  split at h
  · split at h <;> cases h
    refine withOperands (refl s) fun x => reply ?_ _ _
    simp only [State.controlCell]
    split
    · next hst => exact moveCell s x.1 (control_ne_up hst)
    · exact refl s
  · cases h

/-! ### Completions at the memory port -/

theorem searchRead (s : State) (c : ContextId) (x : Search) (scan : Scan) : LinksKept s (s.searchRead c x scan) := by
  simp only [State.searchRead]
  split
  · exact same rfl rfl
  · split
    · exact same rfl rfl
    · split
      · exact assignContexts s rfl rfl
      · exact assignContexts s (State.reportDamaged_cells ..) (State.reportDamaged_exch ..)

theorem completeSearchRead (h : s.completeSearchRead = some u) : LinksKept s u := by
  have hport : LinksKept s (s.setPort none) := same rfl rfl
  simp only [State.completeSearchRead] at h
  split at h
  · split at h <;> cases h
    · exact hport.trans (searchRead _ _ _ _)
    · exact hport
  · cases h

theorem completeWriteThrough (h : s.completeWriteThrough = some u) : LinksKept s u := by
  simp only [State.completeWriteThrough] at h
  split at h <;> cases h
  exact same rfl rfl

theorem mgmtRead (s : State) (op : MgmtOp) (scan : Scan) : LinksKept s (s.mgmtRead op scan) := by
  have hdamaged : LinksKept s (s.reportDamaged op.job.hid scan.damaged) :=
    same (State.reportDamaged_cells ..) (State.reportDamaged_exch ..)
  simp only [State.mgmtRead, State.mgmtFound, State.mgmtNotFound]
  split
  · split
    · exact finish (same (State.setWatch_cells ..) (State.setWatch_exch ..)) _ _
    all_goals exact same rfl rfl
  · exact same rfl rfl
  · split
    · split
      · exact hdamaged.trans (same rfl rfl)
      · exact hdamaged.finish _ _
    all_goals exact hdamaged.finish _ _
  · exact refl s

theorem completeMgmtRead (h : s.completeMgmtRead = some u) : LinksKept s u := by
  have hport : LinksKept s (s.setPort none) := same rfl rfl
  simp only [State.completeMgmtRead] at h
  split at h
  · split at h <;> cases h
    · exact hport.trans (mgmtRead _ _ _)
    · exact hport
  · cases h

theorem reportWrite {t : State} (hcells : t.cells = s.cells) (hexch : t.exch = s.exch) (hids : List Hid) :
    LinksKept s (t.reportWrite hids) := assignContexts s hcells hexch

theorem completeMgmtWrite (h : s.completeMgmtWrite = some u) : LinksKept s u := by
  simp only [State.completeMgmtWrite] at h
  split at h <;> cases h
  refine finish (reportWrite ?_ ?_ _) _ _ <;> split <;> rfl

theorem completeEmptyWrite (h : s.completeEmptyWrite = some u) : LinksKept s u := by
  simp only [State.completeEmptyWrite] at h
  split at h <;> cases h
  refine finish (reportWrite ?_ ?_ _) _ _ <;> rfl

theorem completeFormatWrite (h : s.completeFormatWrite = some u) : LinksKept s u := by
  simp only [State.completeFormatWrite] at h
  split at h <;> cases h
  exact same rfl rfl

theorem sweepWritten {t : State} (h : LinksKept s t) (m : SweepMode) (b l : BucketId) (i : Table Record 4)
    (todo : List SweepWrite) : LinksKept s (t.sweepWritten m b l i todo) :=
  have p := samePort_sweepWritten t m b l i todo
  h.trans (same p.cells p.exch)

theorem sweepRead (s : State) (m : SweepMode) (b l : BucketId) (i : Table Record 4) (ds : List Decision) :
    LinksKept s (s.sweepRead m b l i ds) := by
  simp only [State.sweepRead]
  split
  · refine sweepWritten (same ?_ ?_) _ _ _ _ _ <;> rfl
  · exact same (State.sweepEnd_cells ..) (State.sweepEnd_exch ..)

theorem completeSweepRead (h : s.completeSweepRead = some u) : LinksKept s u := by
  have hport : LinksKept s (s.setPort none) := same rfl rfl
  simp only [State.completeSweepRead] at h
  split at h
  · split at h <;> cases h
    · exact hport.trans (sweepRead _ _ _ _ _ _)
    · exact hport
  · cases h

theorem completeSweepWrite (h : s.completeSweepWrite = some u) : LinksKept s u := by
  simp only [State.completeSweepWrite] at h
  split at h
  · split at h <;> cases h
    · refine sweepWritten (reportWrite ?_ ?_ _) _ _ _ _ _ <;> rfl
    · exact same rfl rfl
  · cases h

theorem completeOrphan (h : s.completeOrphan = some u) : LinksKept s u := by
  simp only [State.completeOrphan] at h
  split at h <;> cases h <;> exact same rfl rfl

/-! ### Resets -/

theorem restart (s : State) : LinksKept s s.restart where
  exchange hs := ⟨hs.state, fun _ => rfl, hs.silence⟩
  cells hs c := by
    show (Table.at (s.cells.map (CellLink.restart · s.timeBase)) c).StateOk
    rw [Table.at_map]
    exact (hs c).restart _

theorem pinReset (s : State) (p : List Instr) (o : Option PortOp) (m : List Host.Cell) :
    LinksKept s (.pinReset p o m) where
  exchange _ := ⟨.inl rfl, fun _ => rfl, nofun, nofun⟩
  cells _ c := by
    show (Table.at (Table.all 24 CellLink.reset) c).StateOk
    rw [Table.at_all]
    exact ⟨fun _ => ⟨rfl, rfl⟩, ⟨nofun, nofun⟩, (absurd rfl ·), (absurd rfl ·)⟩

end LinksKept

/-! ### Every command -/

theorem arrival_listens {s : State} {l : LinkId} {run : List Byte} {test : Byte → Bool} {f : Frame}
    (h : s.arrival l run test = some f) : (s.unit l).state.listens = true := by
  simp only [State.arrival] at h
  split at h
  · assumption
  · cases h

theorem voice_listens {s : State} {l : LinkId} {run : List Byte} {test : Byte → Bool} {v : Voice}
    (h : ((s.arrival l run test).bind fun f => voiceOf f.body) = some v) : (s.unit l).state.listens = true := by
  obtain ⟨_, hf, -⟩ := Option.bind_eq_some_iff.1 h
  exact arrival_listens hf

/-- An event for a frame that there is, or none. -/
theorem mapped_mem {P : State → Prop} {α : Type} {o : Option α} {f : α → State} (hf : ∀ x, o = some x → P (f x)) :
    ∀ u, o.map f = some u → P u := by
  intro u hu
  obtain ⟨x, hx, rfl⟩ := Option.map_eq_some_iff.1 hu
  exact hf x hx

theorem linksKept_exec {s t : State} (i : Instr) (he : exec i s = .next t) : LinksKept s t := by
  have judged {o : Option State} (h : ∀ u, o = some u → LinksKept s u)
      (e : (Host.Outcome.next (s.judged o) : Host.Outcome State Fault Refusal) = .next t) : LinksKept s t := by
    cases e; exact .judged h
  have settled {o : Option State} (h : ∀ u, o = some u → LinksKept s u)
      (e : (Host.Outcome.next (s.settled o) : Host.Outcome State Fault Refusal) = .next t) : LinksKept s t := by
    cases e; exact .settled h
  have only {u : State} (h : LinksKept s u)
      (e : (Host.Outcome.next u : Host.Outcome State Fault Refusal) = .next t) : LinksKept s t := by
    cases e; exact h
  have k := LinksKept.closed s
  have start := LinksKept.refl s
  cases i with
  | pinReset => exact only (.pinReset s _ _ _) he
  | fillFrameReceived l run =>
    exact judged (mapped_mem fun _ hf => .heard s (arrival_listens hf)) he
  | invalidFrameReceived l run =>
    refine judged (fun u hu => ?_) he
    split at hu
    · exact .flagRun s hu
    · cases hu
  | signallingArrival l run =>
    exact judged (mapped_mem fun _ hf => (LinksKept.received s (arrival_listens hf)).trans (.enqueue _ l _ _)) he
  | mgmtArrival run =>
    exact judged (mapped_mem fun _ hf => (LinksKept.received s (arrival_listens hf)).trans (.readHeader _ _)) he
  | uplinkVoiceFrame c run =>
    exact judged (mapped_mem fun _ hv => (LinksKept.received s (voice_listens hv)).trans (.voiceFromCell _ c _)) he
  | downlinkVoiceFrame run =>
    exact judged (mapped_mem fun _ hv => (LinksKept.received s (voice_listens hv)).trans (.voiceFromExchange _ _)) he
  | loopedFrameReturn c run => exact judged (guarded fun _ => .looped s c run) he
  | frameSend l => exact only (.sendQueued s l) he
  | frameSendEnd l => exact only (.sent s l) he
  | fillFrameSend l => exact only (.sendFill s l) he
  | testFrameSend c => exact only (.modCell s c fun h => h.sendTest) he
  | linkSilenceExpiry l =>
    refine judged (guarded fun _ => ?_) he
    cases l with
    | cell c => exact .cellSilent s c
    | exchange => exact .exchSilent s
  | malformedMessage => exact judged (fun _ => .discardMalformed s) he
  | enrol => exact settled (fun _ => .turn fun | .enrol _ _, _ => rfl) he
  | camp => exact settled (fun _ => .turn fun | .camp _, _ => rfl) he
  | retire => exact settled (fun _ => .turn fun | .retire _, _ => rfl) he
  | seizeOrigin => exact settled (fun _ => .turn picks_seize_origin) he
  | seizeAnswer => exact settled (fun _ => .turn picks_seize_answer) he
  | seizeMoveIn => exact settled (fun _ => .turn picks_seize_moveIn) he
  | vacate => exact judged (fun _ => .turn fun | .vacate _, _ => rfl) he
  | stateReport => exact judged (fun _ => .turn fun | .stateReport _, _ => rfl) he
  | relayFromCell => exact judged (fun _ => .turn fun | .relayFromCell _ _, _ => rfl) he
  | offer => exact settled (fun _ => .turn fun | .offer _ _, _ => rfl) he
  | endCall => exact judged (fun _ => .turn fun | .endCall _, _ => rfl) he
  | relayFromExchange => exact judged (fun _ => .turn fun | .relayFromExchange _ _, _ => rfl) he
  | holdTimerExpiry n => exact judged (guarded fun _ => k.loseCall n start) he
  | clearTimerExpiry n => exact judged (guarded fun _ => k.toFree n (k.freeReleasing n start)) he
  | stageTimerExpiry n => exact judged (guarded fun _ => k.stageExpired n start) he
  | bridgeTimerExpiry n => exact judged (guarded fun _ => k.bridgeExpired n start) he
  | legSilenceExpiry n leg => exact judged (guarded fun _ => k.loseLeg n leg start) he
  | holdDeadlineExpiry n j => exact judged (guarded fun _ => k.emitUntil n _ _ _ start) he
  | searchReadComplete => exact settled (fun _ => .completeSearchRead) he
  | writeThroughComplete => exact settled (fun _ => .completeWriteThrough) he
  | mgmtReadComplete => exact settled (fun _ => .completeMgmtRead) he
  | mgmtWriteComplete => exact settled (fun _ => .completeMgmtWrite) he
  | emptyWriteComplete => exact settled (fun _ => .completeEmptyWrite) he
  | formatWriteComplete => exact settled (fun _ => .completeFormatWrite) he
  | sweepReadComplete => exact settled (fun _ => .completeSweepRead) he
  | sweepWriteComplete => exact settled (fun _ => .completeSweepWrite) he
  | readRecord => exact settled (mapped fun q => .readRecord s q) he
  | writeRecord => exact settled (mapped fun q => .begins s q) he
  | writeIfUnchanged => exact settled (mapped fun q => .writeIfUnchanged s q) he
  | deleteRecord => exact settled (mapped fun q => .begins s q) he
  | clearSlot => exact settled (mapped fun q => .begins s q) he
  | formatRegistry => exact settled (mapped fun q => .format s q) he
  | sweep =>
    exact settled (mapped fun _ => .withOperands start fun _ =>
      .whenFormatted start (.unlessSweeping (.reply (.same (State.startSweep_cells ..) (State.startSweep_exch ..)) _ _))) he
  | readSweep =>
    exact judged (mapped fun _ => .answers (fun _ => State.readUnread_cells ..) fun _ => State.readUnread_exch ..) he
  | loadProfile =>
    exact judged (mapped fun _ => .answers (fun _ => State.modTables_cells ..) fun _ => State.modTables_exch ..) he
  | loadNeighbourRow =>
    exact judged (mapped fun _ => .answers (fun _ => State.modTables_cells ..) fun _ => State.modTables_exch ..) he
  | loadZone =>
    exact judged (mapped fun _ => .answers (fun _ => State.modTables_cells ..) fun _ => State.modTables_exch ..) he
  | loadCell =>
    exact judged (mapped fun _ => .answers (fun _ => State.modTables_cells ..) fun _ => State.modTables_exch ..) he
  | loadTiming =>
    exact judged (mapped fun _ => .answers (fun _ => State.modTables_cells ..) fun _ => State.modTables_exch ..) he
  | readTable => exact judged (mapped fun _ => .answers (fun _ => rfl) fun _ => rfl) he
  | cellControlEnable => exact judged (fun _ => .control) he
  | cellControlDisable => exact judged (fun _ => .control) he
  | cellControlLoop => exact judged (fun _ => .control) he
  | linkTest => exact judged (mapped fun q => .linkTest s q) he
  | readLink => exact judged (mapped fun q => .readLink s q) he
  | readCell => exact judged (mapped fun q => .readCell s q) he
  | readCall => exact judged (mapped fun _ => .answers (fun _ => rfl) fun _ => rfl) he
  | forceClear =>
    exact judged (mapped fun _ => .withOperands start fun n => (k.forceClear n start).reply _ _) he
  | readCause => exact judged (mapped fun _ => .answers (fun _ => rfl) fun _ => rfl) he
  | setAttention =>
    exact judged (mapped fun _ => .answers (fun _ => State.modAttn_cells ..) fun _ => State.modAttn_exch ..) he
  | readCapture =>
    exact judged (mapped fun _ => .answers (fun _ => State.modAttn_cells ..) fun _ => State.modAttn_exch ..) he
  | setCapture =>
    exact judged (mapped fun _ => .answers (fun _ => State.modAttn_cells ..) fun _ => State.modAttn_exch ..) he
  | restart => exact judged (mapped fun _ => .withOperands start fun _ => (LinksKept.restart s).reply _ _) he
  | unknownCommand => exact judged (mapped fun _ => start.reply _ _) he
  | portOperationCompletesIntoNothing => exact settled (fun _ => .completeOrphan) he

theorem linksKept_step {s t : State} (h : step s = .next t) : LinksKept s t := by
  simp only [step] at h
  split at h
  · next i rest _ => exact (LinksKept.same (s := s) (t := { s with pending := rest }) rfl rfl).trans (linksKept_exec i h)
  · cases h
    exact .same rfl rfl

/-- Settles O13: every command changes the links' units by changes that keep their agreement. -/
theorem linksAgreeWithTheirState : Obligations.LinksAgreeWithTheirState :=
  ⟨fun _ _ hs h => (linksKept_step h).exchange hs, fun _ _ hs h => (linksKept_step h).cells hs⟩

end Sys2Proof.Machine
end

section
/-! What arrives on the lines (R138, R139, R141 to R143, R146, R147, R151): runs judged on a link that listens, frames that
return round a loop, messages that join a FIFO, and voice frames with a field out of range (R142, R186). -/

namespace Sys2Proof.Machine

open Sys2Proof

/-! ### One unit changed -/

theorem modCell_congr (s : State) (c : CellId) {f g : CellLink → CellLink} (h : f (s.cells.at c) = g (s.cells.at c)) :
    s.modCell c f = s.modCell c g := by
  rw [State.modCell, State.modCell, h]

theorem modExch_congr (s : State) {f g : ExchLink → ExchLink} (h : f s.exch = g s.exch) : s.modExch f = s.modExch g := by
  rw [State.modExch, State.modExch, h]

theorem modCell_modCell (s : State) (c : CellId) (f g : CellLink → CellLink) :
    (s.modCell c f).modCell c g = s.modCell c fun u => g (f u) := by
  simp only [State.modCell, Table.at_put_same, put_put]

theorem modCell_modUnit (s : State) (c : CellId) (f : CellLink → CellLink) (g : LinkUnit → LinkUnit) :
    (s.modCell c f).modUnit (.cell c) g = s.modCell c fun u => { f u with link := g (f u).link } :=
  modCell_modCell s c f fun u => { u with link := g u.link }

/-! ### Runs (R156, R157) -/

theorem classAllows_le {k : FrameClass} {n : Nat} (h : classAllows k n = true) : n ≤ 240 := by
  cases k <;> simp [classAllows] at h <;> omega

/-- R156, R157: a frame sent is judged to be that frame, when its class allows its length. -/
theorem judge_run {f : Frame} (h : classAllows (classOf f.kind) f.body.length = true) : judge f.run = .valid f := by
  have hlength : f.body.length % 256 = f.body.length := Nat.mod_eq_of_lt (by have := classAllows_le h; omega)
  simp [judge, Frame.run, BitVec.toNat_ofNat, hlength, h]

/-- R137: a link that is DOWN or UP listens. -/
theorem listens_of {u : LinkUnit} (h : u.state = .down ∨ u.state = .up) : u.state.listens = true := by
  rcases h with h | h <;> rw [h] <;> rfl

/-- R156, R157: a run that fails on a link that listens sets its flag. -/
theorem invalidFrame_ends {s u : State} {l : LinkId} {run : List Byte} (hl : (s.unit l).state = .down ∨ (s.unit l).state = .up)
    (h : s.flagRun l run = some u) : ∃ t, exec (.invalidFrameReceived l run) s = .next t ∧ Ends s u t :=
  ends_of ((if_pos (listens_of hl)).trans h)

/-! ### Frames that return round a loop (R151) -/

section

variable {s : State} {c : CellId} {run : List Byte}

theorem loopedFrameReturn_idle (h : (s.cells.at c).link.state ≠ .loop ∨ (s.cells.at c).returning = []) :
    exec (.loopedFrameReturn c run) s = .next s := by
  have hawaits : (s.cells.at c).awaitsReturn = false := by
    rcases h with h | h <;> simp [CellLink.awaitsReturn, h]
  show Host.Outcome.next (s.judged (if (s.cells.at c).awaitsReturn = true then some (s.looped c run) else none)) = _
  rw [hawaits]
  rfl

/-- R151: what the end of a frame's return leaves of the link, as the run is judged. -/
def LinkUnit.judgeReturn (u : LinkUnit) : Verdict → LinkUnit
  | .framingError => u.setFramingError
  | .checkError => u.setCheckError
  | .valid f => if f.kind = Kind.fill then u else u.countLooped

theorem looped_eq (s : State) (c : CellId) (run : List Byte) : s.looped c run =
    s.modCell c fun u => { u with link := u.link.judgeReturn (judge run), returning := u.returning.tail } := by
  simp only [State.looped, modCell_modUnit]
  split
  · next h => rw [h]; rfl
  · next h => rw [h]; rfl
  · next f h =>
    rw [h]
    split
    · next hf => exact modCell_congr s c (by rw [LinkUnit.judgeReturn, if_pos hf]; rfl)
    · next hf => exact modCell_congr s c (by rw [LinkUnit.judgeReturn, if_neg hf]; rfl)

/-- R151: the oldest of the frames sent in LOOP returns, is judged, and is discarded. -/
theorem loopedFrameReturn_ends {sent : Frame} {rest : List Frame} {v : Verdict} (hl : (s.cells.at c).link.state = .loop)
    (hr : (s.cells.at c).returning = sent :: rest) (hj : judge run = v) {f : LinkUnit → LinkUnit}
    (hf : ∀ u : LinkUnit, u.judgeReturn v = f u) : ∃ t, exec (.loopedFrameReturn c run) s = .next t ∧
      Ends s (s.modCell c fun u => { u with link := f u.link, returning := rest }) t := by
  refine ends_of ((if_pos (by simp [CellLink.awaitsReturn, hl, hr])).trans (congrArg some ?_))
  rw [looped_eq]
  exact modCell_congr s c (by rw [hj, hf, hr]; rfl)

end

/-- Settles O18: each verdict on a run has its effect on the unit of its link. -/
theorem runsActOnTheirLink : Obligations.RunsActOnTheirLink := by
  refine ⟨fun s l run hl => ⟨fun f hj hf => ?fill, fun hj => ?framing, fun hj => ?check⟩,
    fun s c run h => loopedFrameReturn_idle h, fun s c run sent rest hl hr => ?returns⟩
  case fill => exact ends_of (by rw [arrival_eq hl hj (by simp [hf])]; rfl)
  case framing => exact invalidFrame_ends hl (by rw [State.flagRun, hj]; rfl)
  case check => exact invalidFrame_ends hl (by rw [State.flagRun, hj]; rfl)
  case returns =>
    intro ends
    have returns {v : Verdict} (hj : judge run = v) {f : LinkUnit → LinkUnit} (hf : ∀ u : LinkUnit, u.judgeReturn v = f u) :
        ends f := loopedFrameReturn_ends hl hr hj hf
    have counts {f : Frame} (hj : judge run = .valid f) (hf : f.kind ≠ Kind.fill) := returns hj fun _ => if_neg hf
    exact ⟨fun hrun ha hf => counts (hrun ▸ judge_run ha) hf, fun f hj hf => counts hj hf,
      fun f hj hf => returns hj fun _ => if_pos hf, fun hj => returns hj fun _ => rfl, fun hj => returns hj fun _ => rfl⟩

/-- Settles O19: the frame is received, and the FIFO takes it or is full. -/
theorem signallingMessageJoinsTheFifo : Obligations.SignallingMessageJoinsTheFifo := by
  intro s l run f hl hj hf size
  have hsize : fifoSize l = size := by cases l <;> rfl
  refine ends_of ?_
  rw [arrival_eq hl hj hf, Option.map_some, received_eq, modUnit_modUnit, hsize]
  rfl

/-! ### Voice frames out of range (R142, R146, R186) -/

/-- R185: the overflowed mark goes to the newest record. -/
theorem markTail_concat (newest : Capture) : ∀ older : List Capture,
    markTail (older ++ [newest]) = older ++ [{ newest with overflowed := true }]
  | [] => rfl
  | [_] => rfl
  | c :: d :: older => congrArg (c :: ·) (markTail_concat newest (d :: older))

theorem joinCapture_room {queue : List Capture} (h : queue.length < 4) (c : Capture) :
    joinCapture queue c = queue ++ [c] := if_pos h

theorem joinCapture_full {older : List Capture} {newest : Capture} (h : 4 ≤ (older ++ [newest]).length) (c : Capture) :
    joinCapture (older ++ [newest]) c = older ++ [{ newest with overflowed := true }] :=
  (if_neg (Nat.not_lt.2 h)).trans (markTail_concat newest older)

section

variable {s : State} {l : LinkId} (k : Option SlotId)

/-- R142, R146: the state with a frame received on a link and its PROTOCOL flag set. -/
def State.discards (s : State) (l : LinkId) : State := s.modUnit l fun u => (u.afterArrival s.timeBase).setProtocol

theorem received_setProtocol (s : State) (l : LinkId) : (s.received l).modUnit l LinkUnit.setProtocol = s.discards l := by
  rw [received_eq, modUnit_modUnit, State.discards]

theorem limit_received (s : State) (l m : LinkId) : (s.received l).limit m = s.limit m :=
  limit_congr (by rw [State.received_attn]) (by rw [State.received_attn]) m

/-- R186: with the kind disabled or the limit mark set, no capture is made. -/
theorem received_protocolError_silent (h : s.attn.captureEnables.protocol = false ∨ s.limit l = true) :
    (s.received l).protocolError l k none = s.discards l := by
  rw [protocolError_silent (by rwa [State.received_attn, limit_received]), received_setProtocol]

/-- R185, R186: with the kind enabled and the limit mark clear, one capture is made and the mark set. -/
theorem received_protocolError_reports (he : s.attn.captureEnables.protocol = true) (hm : s.limit l = false)
    {captures : List Capture}
    (hc : joinCapture s.attn.captures ⟨.protocol, s.timeBase, false, { cell := linkCell l, slot := k.map Fin.val }⟩ =
      captures) :
    (s.received l).protocolError l k none =
      ({ s.discards l with attn := { (s.discards l).attn with captures } } : State).setLimit l true := by
  have hattn : (s.discards l).attn = s.attn := State.modUnit_attn ..
  have htime : (s.discards l).timeBase = s.timeBase := State.modUnit_timeBase ..
  rw [← hattn, ← htime] at hc
  rw [protocolError_reports (by rwa [State.received_attn]) ((limit_received ..).trans hm), received_setProtocol,
    State.capture, if_pos (by rw [hattn]; exact he), ← hc]

end

/-- Settles O21: the frame is received and discarded, and the enable and the limit mark decide on its capture. -/
theorem voiceFrameOutOfRangeIsDiscarded : Obligations.VoiceFrameOutOfRangeIsDiscarded := by
  unfold Obligations.VoiceFrameOutOfRangeIsDiscarded
  intro discarded
  have reported {s : State} {i : Instr} {l : LinkId} (k : Option SlotId)
      (h : ∃ t, exec i s = .next t ∧ Ends s ((s.received l).protocolError l k none) t) :
      discarded s i l (k.map Fin.val) := by
    refine ⟨fun hq => ?_, fun he hm => ⟨fun hroom => ?_, fun older newest hqueue hfull => ?_⟩⟩
    · rwa [received_protocolError_silent k hq] at h
    · rwa [received_protocolError_reports k he hm (joinCapture_room hroom _)] at h
    · have hc := joinCapture_full (hqueue ▸ hfull)
      rw [← hqueue] at hc
      rwa [received_protocolError_reports k he hm (hc _)] at h
  refine ⟨fun s c run f v hl hj hf hv => ⟨fun htag => ?tag, fun htag hlevel => ?level⟩,
    fun s run f v hl hj hf hv htag => ?downlink⟩
  case tag =>
    refine reported none (ends_of ?_)
    rw [arrival_eq (l := .cell c) hl hj (by simp [hf]), Option.bind_some, hv, Option.map_some, State.voiceFromCell,
      finOf_none htag]
  case level =>
    refine reported (some ⟨v.tag.toNat, htag⟩) (ends_of ?_)
    rw [arrival_eq (l := .cell c) hl hj (by simp [hf]), Option.bind_some, hv, Option.map_some, State.voiceFromCell,
      finOf_eq (i := ⟨v.tag.toNat, htag⟩) rfl]
    exact congrArg some (if_neg (Nat.not_le.2 hlevel))
  case downlink =>
    refine reported none (ends_of ?_)
    rw [arrival_eq (l := .exchange) hl hj (by simp [hf]), Option.bind_some, hv, Option.map_some, State.voiceFromExchange,
      finOf_none htag]

end Sys2Proof.Machine
end

section
/-! The beginnings and the end of sending (R145, R151, R152, R160). -/

namespace Sys2Proof.Machine

open Sys2Proof

/-- R145: a link that is not OFF and sends nothing is free to send. -/
theorem free_of {u : LinkUnit} (hstate : u.state ≠ .off) (hsending : u.sending = none) : u.free = true := by
  simp [LinkUnit.free, hstate, hsending]

theorem idleLong_of {s : State} {u : LinkUnit} (h : 4 ≤ (s.timeBase - u.idleStart).toNat) : s.idleLong u = true :=
  decide_eq_true h

theorem LinkUnit.sent_of {u : LinkUnit} {f : Frame} (h : u.sending = some f) (now : Time) :
    u.sent now = { u with sending := none, idleStart := now } := if_pos (by rw [h]; rfl)

theorem sent_cell (s : State) (c : CellId) : s.sent (.cell c) = s.modCell c (CellLink.sent · s.timeBase) := rfl
theorem sent_exchange (s : State) :
    s.sent .exchange = s.modExch fun u => { u with link := u.link.sent s.timeBase } := rfl

theorem CellLink.sent_of {u : CellLink} {f : Frame} (h : u.link.sending = some f) (now : Time) : u.sent now =
    { u with
      link := { u.link with sending := none, idleStart := now }
      returning := if u.link.state = .loop then u.returning ++ [f] else u.returning } := by
  simp only [CellLink.sent, LinkUnit.sent_of h, h, Option.toList_some]

section

variable {u : CellLink} {f : Frame} {rest : List Frame}

theorem CellLink.sendQueued_signalling (hq : u.sigQueue = f :: rest) (h : u.voiceQueue = [] ∨ u.sendMark = .voice) :
    u.sendQueued = { u with link := u.link.send f, sigQueue := rest, sendMark := .signalling } := by
  have hnext : u.nextQueue = some .signalling := by
    cases hv : u.voiceQueue <;> simp_all [CellLink.nextQueue]
  simp only [CellLink.sendQueued, hnext, hq]

theorem CellLink.sendQueued_voice (hq : u.voiceQueue = f :: rest) (h : u.sigQueue = [] ∨ u.sendMark = .signalling) :
    u.sendQueued = { u with link := u.link.send f, voiceQueue := rest, sendMark := .voice } := by
  have hnext : u.nextQueue = some .voice := by
    cases hs : u.sigQueue <;> simp_all [CellLink.nextQueue]
  simp only [CellLink.sendQueued, hnext, hq]

end

theorem ExchLink.sendQueued_cons {u : ExchLink} {f : Frame} {rest : List Frame} (hq : u.txQueue = f :: rest) :
    u.sendQueued = { u with link := u.link.send f, txQueue := rest } := by
  simp only [ExchLink.sendQueued, hq]

/-- R145: a fill frame begins to be sent on a free link that has long been idle. -/
theorem sendFill_idle {s : State} {l : LinkId} (hfree : (s.unit l).free = true)
    (hidle : 4 ≤ (s.timeBase - (s.unit l).idleStart).toNat) (hnothing : s.nothingToSend l = true) :
    s.sendFill l = s.modUnit l (LinkUnit.send · fillFrame) :=
  if_pos (by rw [hfree, idleLong_of hidle, hnothing]; rfl)

/-- Settles O26: each beginning by what the unit has to send, and the end by the frame it sends. -/
theorem framesAreSentInTurn : Obligations.FramesAreSentInTurn := by
  intro s c
  have outcome {a b : State} (h : a = b) :
      (Host.Outcome.next a : Host.Outcome State Fault Refusal) = .next b := congrArg _ h
  refine ⟨fun hstate hsending => ?cell, fun hstate hsending f rest hq => ?queue, fun hstate hsending hq hidle => ?fill,
    fun f hf => ?sent, fun f hf => ?sentExch⟩
  case cell =>
    have hfree := free_of hstate hsending
    refine ⟨fun f rest hq h => outcome ?_, fun f rest hq h => outcome ?_, fun hsig hvoice htest hidle => outcome ?_,
      fun hloop hsig hvoice htest => outcome ?_⟩
    · exact (if_pos hfree).trans (modCell_congr s c (CellLink.sendQueued_signalling hq h))
    · exact (if_pos hfree).trans (modCell_congr s c (CellLink.sendQueued_voice hq h))
    · exact sendFill_idle (l := .cell c) hfree hidle (by simp [State.nothingToSend, hsig, hvoice, htest])
    · exact modCell_congr s c (if_pos (by simp [CellLink.testDue, hloop, hsending, hsig, hvoice, htest]))
  case queue => exact outcome ((if_pos (free_of hstate hsending)).trans (modExch_congr s (ExchLink.sendQueued_cons hq)))
  case fill =>
    exact outcome (sendFill_idle (l := .exchange) (free_of hstate hsending) hidle (by simp [State.nothingToSend, hq]))
  case sent => exact outcome ((sent_cell s c).trans (modCell_congr s c (CellLink.sent_of hf s.timeBase)))
  case sentExch => exact outcome ((sent_exchange s).trans (modExch_congr s (by rw [LinkUnit.sent_of hf])))

end Sys2Proof.Machine
end

section
/-! The requests that read (R148, R150, R173, R175, R177, R185). -/

namespace Sys2Proof.Machine

open Sys2Proof

/-- R165, R166: the event of a request that is answered DONE at once, its effect outside the queue of requests. -/
theorem reads_end {s : State} {q : MgmtRequest} {rest : List MgmtRequest} (ha : s.AtHead q rest) {i : Instr} {cmd : Byte}
    {run : MgmtRequest → State} (hexec : exec i s = .next (s.judged ((s.head cmd).map run))) (hq : q.command = cmd)
    {u : State} {data : List Byte} (hrun : run q = u.reply q .done data) (hqueue : u.mgmt.queue = s.mgmt.queue) :
    ∃ t, exec i s = .next t ∧ Ends s (u.answered q rest .done data) t := by
  rw [hexec, head_eq ha hq, Option.map_some, hrun, reply_eq_answered u _ _ (hqueue.trans ha.2)]
  exact ends_of rfl

theorem readOne_ofNat {n : Nat} (i : Fin n) (hn : n ≤ 256) {ops : List Byte} (ho : ops = [BitVec.ofNat 8 i.val]) :
    readOne n ops = some i := by
  rw [ho]
  exact finOf_ofNat i hn

theorem readNothing_nil {ops : List Byte} (ho : ops = []) : readNothing ops = some () := by rw [ho]; rfl

/-- R185: the data of the presented record. -/
theorem presentedData_eq (a : Attention) : a.presentedData = (a.captures.head?.map captureData).getD [] := by
  cases h : a.captures <;> simp [Attention.presentedData, h]

theorem readUnread_ended {s : State} {p : Option BucketId} (h : s.reg.sweep = .ended p) :
    s.readUnread = { s with mgmt := { s.mgmt with unread := false } } := by
  simp only [State.readUnread, h]

theorem readUnread_other {s : State} (h : ∀ p, s.reg.sweep ≠ .ended p) : s.readUnread = s := by
  simp only [State.readUnread]
  split
  · next p hp => exact absurd hp (h p)
  all_goals rfl

/-- Settles O58: each request by its operands, its effect and the data as it stood. -/
theorem readsAnswerAndClear : Obligations.ReadsAnswerAndClear := by
  intro s q rest ha
  refine ⟨fun x hq ho => ?table, fun n hq ho => ?call, fun i hq ho => ?link, fun c hq ho => ?cell, fun hq ho => ?capture,
    fun hq ho => ?sweep⟩
  case table => exact reads_end ha (i := .readTable) rfl hq (by rw [State.runReadTable, ho]; rfl) rfl
  case call =>
    exact reads_end ha (i := .readCall) rfl hq (by rw [State.runReadCall, readOne_ofNat n (by omega) ho]; rfl) rfl
  case link =>
    exact reads_end ha (i := .readLink) rfl hq (u := s.clearLink (linkNumber i))
      (by rw [State.runReadLink, readOne_ofNat i (by omega) ho]; rfl) (by rw [State.clearLink_mgmt])
  case cell =>
    exact reads_end ha (i := .readCell) rfl hq (by rw [State.runReadCell, readOne_ofNat c (by omega) ho]; rfl) rfl
  case capture =>
    exact reads_end ha (i := .readCapture) rfl hq
      (by rw [State.runReadCapture, readNothing_nil ho, presentedData_eq]; rfl) rfl
  case sweep =>
    obtain ⟨t, hexec, he⟩ := reads_end ha (i := .readSweep) (u := s.readUnread) (data := s.sweepData) rfl hq
      (by rw [State.runReadSweep, readNothing_nil ho]; rfl) (by simp only [State.readUnread]; split <;> rfl)
    refine ⟨t, hexec, fun ⟨p, hp⟩ => ?_, fun hne => ?_⟩
    · rwa [readUnread_ended hp] at he
    · rwa [readUnread_other hne] at he

end Sys2Proof.Machine
end

section
/-! The run of every frame (R155 to R157), and the arrival of a management request (R161, R164). -/

namespace Sys2Proof.Machine

open Sys2Proof

/-! ### The run of a frame -/

/-- R157: the delimiter, the kind, the length and the two check bytes stand around the body. -/
theorem Frame.run_length (f : Frame) : f.run.length = f.body.length + 5 := by simp [Frame.run]

/-- Settles O14: the length of every run, and the judgement of one whose class allows its length. -/
theorem everyFrameIsReadBack : Obligations.EveryFrameIsReadBack := fun f h => ⟨f.run_length, judge_run h⟩

/-! ### The management queue -/

section

variable {s : State}

theorem offerRequest_room (h : s.mgmt.queue.length < 4) (q : MgmtRequest) :
    s.offerRequest q = { s with mgmt := { s.mgmt with queue := s.mgmt.queue ++ [q] } } := if_pos h

theorem offerRequest_full (h : 4 ≤ s.mgmt.queue.length) (q : MgmtRequest) :
    s.offerRequest q = s.placeExch (replyFrame q.tag q.command .queueFull []) := if_neg (Nat.not_lt.2 h)

/-- R161: a body of fewer than two bytes holds no header. -/
theorem readHeader_short {body : List Byte} (h : body.length < 2) :
    s.readHeader body = s.protocolError .exchange none none := by
  match body, h with
  | [], _ => rfl
  | [_], _ => rfl

variable {run : List Byte} {f : Frame}

/-- R141, R164: a valid MGMT frame on an exchange link that listens is received, and its header read. -/
theorem mgmtArrival_exec (hl : s.exch.link.state = .down ∨ s.exch.link.state = .up) (hj : judge run = .valid f)
    (hf : f.kind = Kind.mgmt) :
    exec (.mgmtArrival run) s = .next (((s.received .exchange).readHeader f.body).judgeAttention s) := by
  show Host.Outcome.next (s.judged ((s.arrival .exchange run _).map _)) = _
  rw [arrival_eq (l := .exchange) hl hj (by simp [hf]), Option.map_some, judged_some]

end

/-- Settles O20: the frame is received, and its header, if it has one, is offered to the queue. -/
theorem managementRequestJoinsTheQueue : Obligations.ManagementRequestJoinsTheQueue := by
  intro s run f hl hj hf u
  have hu : s.received .exchange = u := received_eq s .exchange
  have hmgmt : u.mgmt = s.mgmt := State.modUnit_mgmt ..
  have hexec := mgmtArrival_exec hl hj hf
  rw [hu] at hexec
  refine ⟨fun tag command operands hbody => ⟨fun hroom => ⟨_, hexec, ?room⟩, fun hfull => ⟨_, hexec, ?full⟩⟩,
    fun hshort => ⟨_, hexec, ?short⟩⟩
  case room =>
    rw [hbody, State.readHeader, offerRequest_room (by rwa [hmgmt]), hmgmt]
    exact ends_judgeAttention ..
  case full =>
    rw [hbody, State.readHeader, offerRequest_full (by rwa [hmgmt])]
    exact ends_judgeAttention ..
  case short =>
    rw [readHeader_short hshort]
    have hunit : (u.protocolError .exchange none none).unit .exchange =
        (s.exch.link.afterArrival s.timeBase).setProtocol := unit_protocolError u .exchange none none
    exact ⟨by simp [hmgmt], by simp [u],
      (protocolFlag_judgeAttention _ s .exchange).trans (congrArg (·.flags.protocol) hunit),
      (rxFifo_judgeAttention _ s .exchange).trans (congrArg (·.rxFifo) hunit)⟩

end Sys2Proof.Machine
end

section
/-! The idle step (log 2): with no command waiting, `step` is the tick of the Time Base. -/

namespace Sys2Proof.Machine

open Sys2Proof

/-- The idle branch of `step`. -/
theorem step_of_pending_nil {s : State} (h : s.pending = []) : step s = .next s.tick := by
  rw [step, h]

/-- Settles O2: the tick writes the Time Base and no other field, so the idle branch is the whole answer. -/
theorem idleStepCountsOneMillisecond : Obligations.IdleStepCountsOneMillisecond := by
  intro s hidle
  calc step s
    _ = .next s.tick := step_of_pending_nil hidle
    _ = .next { s with timeBase := s.timeBase + 1 } := by rw [State.tick]

end Sys2Proof.Machine
end

section
/-! The attention set (R181) by its causes: what a change must leave for the set to stand, and the sends (R145), which
leave all of it. -/

namespace Sys2Proof

/-- A test that some thing of a table passes. -/
theorem Table.any_toList {α : Type} {n : Nat} (t : Table α n) (p : α → Bool) :
    t.toList.any p = decide (∃ i, p (t.at i) = true) := by
  rw [Bool.eq_iff_iff, List.any_eq_true, decide_eq_true_eq]
  constructor
  · rintro ⟨x, hx, hp⟩
    obtain ⟨i, hi, rfl⟩ := Vector.getElem_of_mem (Vector.mem_toList_iff.1 hx)
    exact ⟨⟨i, hi⟩, hp⟩
  · rintro ⟨i, hp⟩
    exact ⟨t.at i, Vector.mem_toList_iff.2 (Vector.getElem_mem i.isLt), hp⟩

namespace Machine

/-- R181: each cause is pending by the captures, the flags of some link, the change marks of some cell, or the unread
mark. -/
theorem causesPending_eq (s : State) : s.causesPending =
    { capture := !s.attn.captures.isEmpty
      link := s.exch.link.flags.any || decide (∃ c, (s.cells.at c).link.flags.any = true)
      cell := decide (∃ c, (s.cells.at c).marks.marked = true)
      sweep := s.mgmt.unread } := by
  rw [State.causesPending, Table.any_toList, Table.any_toList]

/-! ### Flags and change marks through the sends (R145, R152) -/

theorem CellLink.sendQueued_flags (u : CellLink) : u.sendQueued.link.flags = u.link.flags := by
  simp only [CellLink.sendQueued]
  split
  · split <;> rfl
  · split <;> rfl
  · rfl

theorem CellLink.sendQueued_marks (u : CellLink) : u.sendQueued.marks = u.marks := by
  simp only [CellLink.sendQueued]
  split
  · split <;> rfl
  · split <;> rfl
  · rfl

theorem ExchLink.sendQueued_flags (u : ExchLink) : u.sendQueued.link.flags = u.link.flags := by
  simp only [ExchLink.sendQueued]
  split <;> rfl

theorem LinkUnit.sent_flags (u : LinkUnit) (now : Time) : (u.sent now).flags = u.flags := by
  simp only [LinkUnit.sent]
  split <;> rfl

theorem CellLink.sendTest_flags (u : CellLink) : u.sendTest.link.flags = u.link.flags := by
  simp only [CellLink.sendTest]
  split <;> rfl

theorem CellLink.sendTest_marks (u : CellLink) : u.sendTest.marks = u.marks := by
  simp only [CellLink.sendTest]
  split <;> rfl

/-! ### Changes that keep every cause -/

/-- `t` has what `s` has of all that the causes of attention are judged by, and its pin. -/
structure SameCauses (s t : State) : Prop where
  attn : t.attn = s.attn
  exch : t.exch.link.flags = s.exch.link.flags
  cells : ∀ c, (t.cells.at c).link.flags = (s.cells.at c).link.flags
  marks : ∀ c, (t.cells.at c).marks = (s.cells.at c).marks
  unread : t.mgmt.unread = s.mgmt.unread

namespace SameCauses

variable {s t : State}

theorem refl (s : State) : SameCauses s s := ⟨rfl, rfl, fun _ => rfl, fun _ => rfl, rfl⟩

theorem attentionSet (h : SameCauses s t) : t.attentionSet = s.attentionSet := by
  have hp : t.causesPending = s.causesPending := by
    simp only [causesPending_eq, h.attn, h.exch, h.cells, h.marks, h.unread]
  rw [State.attentionSet, State.attentionSet, hp, h.attn]

theorem pinOk (h : SameCauses s t) (hs : s.PinOk) : t.PinOk := by
  rw [State.PinOk, h.attn, h.attentionSet]
  exact hs

variable (s)

/-- A cell's unit changed with its flags and change marks kept. -/
theorem modCell (c : CellId) {f : CellLink → CellLink}
    (hf : (f (s.cells.at c)).link.flags = (s.cells.at c).link.flags)
    (hm : (f (s.cells.at c)).marks = (s.cells.at c).marks) : SameCauses s (s.modCell c f) where
  attn := rfl
  exch := rfl
  cells d := by
    simp only [State.modCell, Table.at_put]
    split
    · next h => rw [h, hf]
    · rfl
  marks d := by
    simp only [State.modCell, Table.at_put]
    split
    · next h => rw [h, hm]
    · rfl
  unread := rfl

/-- The exchange's unit changed with its flags kept. -/
theorem modExch {f : ExchLink → ExchLink} (hf : (f s.exch).link.flags = s.exch.link.flags) :
    SameCauses s (s.modExch f) := ⟨rfl, hf, fun _ => rfl, fun _ => rfl, rfl⟩

/-- The common part of a link's unit changed with its flags kept. -/
theorem modUnit (l : LinkId) {f : LinkUnit → LinkUnit} (hf : (f (s.unit l)).flags = (s.unit l).flags) :
    SameCauses s (s.modUnit l f) := by
  cases l with
  | cell c => exact modCell s c (f := fun u => { u with link := f u.link }) hf rfl
  | exchange => exact modExch s (f := fun u => { u with link := f u.link }) hf

theorem sendQueued (l : LinkId) : SameCauses s (s.sendQueued l) := by
  simp only [State.sendQueued]
  split
  · cases l with
    | cell c => exact modCell s c (CellLink.sendQueued_flags _) (CellLink.sendQueued_marks _)
    | exchange => exact modExch s (ExchLink.sendQueued_flags _)
  · exact refl s

theorem sent (l : LinkId) : SameCauses s (s.sent l) := by
  cases l with
  | cell c => exact modCell s c (f := (CellLink.sent · s.timeBase)) (LinkUnit.sent_flags _ _) rfl
  | exchange => exact modExch s (f := fun u => { u with link := u.link.sent s.timeBase }) (LinkUnit.sent_flags _ _)

theorem sendFill (l : LinkId) : SameCauses s (s.sendFill l) := by
  simp only [State.sendFill]
  split
  · exact modUnit s l rfl
  · exact refl s

theorem sendTest (c : CellId) : SameCauses s (s.modCell c CellLink.sendTest) :=
  modCell s c (CellLink.sendTest_flags _) (CellLink.sendTest_marks _)

end SameCauses
end Machine
end Sys2Proof
end

section
/-! The attention pin at the end of every event (R183). -/

namespace Sys2Proof.Machine

open Sys2Proof

/-- How a command leaves the attention pin: with the judgement of the attention set, after the memory port or at once;
with every cause as it was, which the sends do; or with a pin reset. -/
inductive Closes (s : State) : State → Prop
  | judged (o : Option State) : Closes s (s.judged o)
  | settled (o : Option State) : Closes s (s.settled o)
  | same {t : State} : SameCauses s t → Closes s t
  | reset (p : List Instr) (o : Option PortOp) (mem : List Host.Cell) : Closes s (.pinReset p o mem)

/-- Every command closes in one of these ways. -/
theorem exec_closes (s : State) (i : Instr) : ∃ t, exec i s = .next t ∧ Closes s t := by
  cases i with
  | pinReset => exact ⟨_, rfl, .reset ..⟩
  | frameSend l => exact ⟨_, rfl, .same (.sendQueued s l)⟩
  | frameSendEnd l => exact ⟨_, rfl, .same (.sent s l)⟩
  | fillFrameSend l => exact ⟨_, rfl, .same (.sendFill s l)⟩
  | testFrameSend c => exact ⟨_, rfl, .same (.sendTest s c)⟩
  | enrol | camp | retire | seizeOrigin | seizeAnswer | seizeMoveIn | offer
  | searchReadComplete | writeThroughComplete | mgmtReadComplete | mgmtWriteComplete | emptyWriteComplete
  | formatWriteComplete | sweepReadComplete | sweepWriteComplete | portOperationCompletesIntoNothing
  | readRecord | writeRecord | writeIfUnchanged | deleteRecord | clearSlot | formatRegistry | sweep =>
    exact ⟨_, rfl, .settled _⟩
  | fillFrameReceived | invalidFrameReceived | signallingArrival | mgmtArrival | uplinkVoiceFrame | downlinkVoiceFrame
  | loopedFrameReturn | linkSilenceExpiry | malformedMessage
  | vacate | stateReport | relayFromCell | endCall | relayFromExchange
  | holdTimerExpiry | clearTimerExpiry | stageTimerExpiry | bridgeTimerExpiry | legSilenceExpiry | holdDeadlineExpiry
  | readSweep | loadProfile | loadNeighbourRow | loadZone | loadCell | loadTiming | readTable
  | cellControlEnable | cellControlDisable | cellControlLoop | linkTest | readLink | readCell | readCall | forceClear
  | readCause | setAttention | readCapture | setCapture | restart | unknownCommand =>
    exact ⟨_, rfl, .judged _⟩

theorem pinOk_judgeAttention (s before : State) : (s.judgeAttention before).PinOk := judgeAttention_pin s before

/-- The judgement of the attention set is the last act of an event at the memory port. -/
theorem pinOk_settle (s before : State) : (s.settle before).PinOk := pinOk_judgeAttention _ before

theorem pinOk_pinReset (p : List Instr) (o : Option PortOp) (mem : List Host.Cell) : (State.pinReset p o mem).PinOk :=
  (attentionSet_pinReset p o mem).symm

theorem Closes.pinOk {s t : State} (h : Closes s t) (hs : s.PinOk) : t.PinOk := by
  cases h with
  | judged o =>
    cases o with
    | none => exact hs
    | some u => exact pinOk_judgeAttention u s
  | settled o =>
    cases o with
    | none => exact hs
    | some u => exact pinOk_settle u s
  | same h => exact h.pinOk hs
  | reset p o mem => exact pinOk_pinReset p o mem

/-- Settles O6: the command taken from the queue judges the attention set, leaves every cause, or resets it; the idle
step touches no cause. -/
theorem pinShowsTheAttentionSet : Obligations.PinShowsTheAttentionSet := by
  intro s t hs h
  cases hp : s.pending with
  | nil =>
    rw [step_of_pending_nil hp] at h
    cases h
    exact hs
  | cons i rest =>
    simp only [step, hp] at h
    obtain ⟨u, hexec, hu⟩ := exec_closes { s with pending := rest } i
    obtain rfl : u = t := by simpa [hexec] using h
    exact hu.pinOk hs

end Sys2Proof.Machine
end

section
/-! READ-CAUSE (R182). -/

namespace Sys2Proof.Machine

open Sys2Proof

/-- R183: an event that leaves the attention set as it was places no ATTENTION frame. -/
theorem judgeAttention_exch_same {s u : State} (h : u.attentionSet = s.attentionSet) :
    (u.judgeAttention s).exch = u.exch := by
  rw [judgeAttention_exch, h, if_neg (by simp)]

/-- R144, R181: a reply placed on an exchange link with room changes no cause. -/
theorem attentionSet_answered {s : State} {q : MgmtRequest} {rest : List MgmtRequest} {o : MgmtOutcome}
    {data : List Byte} (hu : s.exchUp = true) (hr : s.exch.txQueue.length < 64) :
    (s.answered q rest o data).attentionSet = s.attentionSet :=
  attentionSet_placeExch { s with mgmt := { s.mgmt with queue := rest, op := none } } (.inl ⟨hu, hr⟩)

/-- R165, R182: READ-CAUSE at the head is answered with the code of the attention set. -/
theorem exec_readCause {s : State} {q : MgmtRequest} {rest : List MgmtRequest} (ha : s.AtHead q rest)
    (hq : q.command = 0x30) (ho : q.operands = []) :
    exec .readCause s = .next ((s.answered q rest .done [s.attentionSet.code]).judgeAttention s) := by
  have hrun : s.runReadCause q = s.answered q rest .done [s.attentionSet.code] := by
    rw [State.runReadCause, readNothing_nil ho, withOperands_some, reply_eq_answered s _ _ ha.2]
  calc exec .readCause s
    _ = .next (s.judged ((s.head Cmd.readCause).map s.runReadCause)) := rfl
    _ = .next ((s.answered q rest .done [s.attentionSet.code]).judgeAttention s) := by
      rw [head_eq (cmd := Cmd.readCause) ha hq, Option.map_some, hrun, judged_some]

/-- R182: the code by the first cause both enabled and pending. -/
theorem attentionSet_code (s : State) : s.attentionSet.code =
    if s.attn.enables.capture && !s.attn.captures.isEmpty then 1
    else if s.attn.enables.link && (s.exch.link.flags.any || decide (∃ c, (s.cells.at c).link.flags.any = true)) then 2
    else if s.attn.enables.cell && decide (∃ c, (s.cells.at c).marks.marked = true) then 3
    else if s.attn.enables.sweep && s.mgmt.unread then 4 else 0 := by
  simp only [Causes.code, State.attentionSet, Causes.both, causesPending_eq, Bool.and_comm]

/-- Settles O57: the answer is the code of the attention set, and its reply changes no cause. -/
theorem readCauseGivesTheFirstCause : Obligations.ReadCauseGivesTheFirstCause := by
  intro s q rest ha hq ho capture link cell sweep code
  have hcode : s.attentionSet.code = code := attentionSet_code s
  have hexec := exec_readCause ha hq ho
  rw [hcode] at hexec
  refine ⟨_, hexec, ends_judgeAttention .., fun hu hr => ?_⟩
  have hsent := sends_placeExch { s with mgmt := { s.mgmt with queue := rest, op := none } }
    (replyFrame q.tag q.command .done [code]) hu hr
  calc ((s.answered q rest .done [code]).judgeAttention s).exch.txQueue
    _ = (s.answered q rest .done [code]).exch.txQueue := by rw [judgeAttention_exch_same (attentionSet_answered hu hr)]
    _ = s.exch.txQueue ++ [replyFrame q.tag q.command .done [code]] := congrArg ExchLink.txQueue hsent
    _ = s.exch.txQueue ++ [replyFrame q.tag 0x30 .done [code]] := by rw [hq]

end Sys2Proof.Machine
end

section
/-! A step with a command waiting. -/

namespace Sys2Proof.Machine

open Sys2Proof

theorem step_of_pending_cons {s : State} {c : Instr} {rest : List Instr} (h : s.pending = c :: rest) :
    step s = exec c { s with pending := rest } := by
  rw [step, h]

/-- Settles O1: the command at the front leaves the queue before it runs (log 1). -/
theorem stepRunsTheFrontCommand : Obligations.StepRunsTheFrontCommand :=
  fun _ _ _ hfront => step_of_pending_cons hfront

end Sys2Proof.Machine
end
